-- ==== Sys2Proof/Word.lean ====
section
/-! DEFINITION. The words of the PT316's records and frames, and the small vocabulary of names the commands use.
Quantities in the spec's units (00_scope.md, CONVENTIONS) are plain integers; bit vectors are what stands on a wire. -/

namespace Sys2Proof

/-- One byte of a bus frame or a link record (R164). -/
abbrev Byte := BitVec 8

/-- A two-byte field of a record (10.4). -/
abbrev Half := BitVec 16

/-- A four-byte field of a record (10.4). -/
abbrev Word := BitVec 32

/-- The five monitors of 7.1, in the order of their codes 1 to 5 (10.2). -/
inductive Monitor where
  | native | thermal | margin | stale | zoneHigh
  deriving DecidableEq, Repr

/-- The body of a MEASURE record, as its fields stand on the wire (R155): the train form or the store form. -/
inductive MeasureForm where
  /-- output, mass flow, cavern pressure, thermal temperature, surge margin -/
  | train (output massFlow pressure thermal margin : Half)
  /-- the temperatures of zones 1 to 8, in order -/
  | store (zones : List Half)
  deriving DecidableEq, Repr

end Sys2Proof
end

