-- ==== Sys2Proof/Config.lean ====
section
/-! DEFINITION. What is fixed for the machine: the capacities the spec states, and the free values, which have no body
(nothing in Lean can say what they are). -/

namespace Sys2Proof.Config

/-- The receive queue holds up to 8 frames (R9). -/
def rxCapacity : Nat := 8
/-- The nomination list holds up to 32 entries (R31). -/
def nominationCapacity : Nat := 32
/-- The order list holds up to 16 entries (R31). -/
def orderCapacity : Nat := 16
/-- The report queue holds up to 16 reports (R160). -/
def reportCapacity : Nat := 16
/-- The delivery log holds up to 48 records (R143). -/
def logCapacity : Nat := 48
/-- The greatest interval number (00, QUANTITIES AND UNITS). -/
def lastInterval : Nat := 4294967294
/-- The interval number that stands for untimed or none (R164). -/
def untimedCode : Nat := 4294967295

/-- FREE VALUE (log 6): the address byte QUERY STATE shows while the address item is unset, which no rule states. -/
opaque unsetAddressByte : Nat → Byte
/-- FREE VALUE (log 6): the kind byte QUERY STATE shows while the kind item is unset, which no rule states. -/
opaque unsetKindByte : Nat → Byte
/-- FREE VALUE (log 8): the four bytes that stand for a time in ms which does not fit four bytes, which no rule states. -/
opaque overlongTime : Nat → Word
/-- FREE VALUE (log 32): the two bytes QUERY STATE shows for a heat reservation which does not fit two bytes, which no rule states. -/
opaque overlongHeat : Nat → Half
/-- FREE CHOICE (log 9): whether the delivery account's report takes its number before the schedule book's at an interval
change that produces both; R160 lets either be first. -/
opaque accountReportsFirst : Nat → Bool

end Sys2Proof.Config
end

