-- ==== Sys2Proof/Syntax.lean ====
section
/-! DEFINITION. The commands of the PT316: one constructor for every row of spec/opcode_table.json, in the table's order.

`t` is the instant of the event in ms; an instant before the station's own is taken as the station's own (log 1). `tag` is
the tag byte the train controller chose (R148). The expiry of a timer carries no instant: it happens at the timer's deadline. -/

namespace Sys2Proof

inductive Instr where
  -- requests of the train controller (10.4)
  | setItem (t : Nat) (tag item monitor : Byte) (value : Word)
  | seal (t : Nat) (tag : Byte)
  | measure (t : Nat) (tag : Byte) (form : MeasureForm)
  | setTime (t : Nat) (tag : Byte) (number : Word)
  | nominate (t : Nat) (tag : Byte) (first : Word) (count power : Half)
  | order (t : Nat) (tag : Byte) (first : Word) (count delta : Half)
  | cancel (t : Nat) (tag list : Byte) (first : Word) (count : Half)
  | clear (t : Nat) (tag : Byte)
  | leave (t : Nat) (tag : Byte)
  | restart (t : Nat) (tag : Byte)
  | queryState (t : Nat) (tag : Byte)
  | queryPeer (t : Nat) (tag address : Byte)
  | queryBook (t : Nat) (tag list index : Byte)
  | readLog (t : Nat) (tag : Byte)
  | releaseLog (t : Nat) (tag : Byte) (k : Half)
  -- records that are no new request of the table, and the transmitter (R148, R149)
  | repeatRequest (t : Nat)
  | unknownRequest (t : Nat) (code tag : Byte) (body : List Byte)
  | linkRecordDiscarded (t : Nat) (bytes : List Byte)
  | linkTransmit (t : Nat)
  | linkRecordSent (t : Nat)
  -- power and lines (R162, R163)
  | powerOnReset (t : Nat)
  | permitChange (t : Nat) (level : Bool)
  | boundaryPulse (t : Nat)
  -- the coordination bus (chapter 1)
  | frameArrival (t : Nat) (bytes : List Byte)
  | applyStatusFrame (t : Nat)
  | applyAlert (t : Nat)
  | applyAlertConflict (t : Nat)
  | busTakeFrame (t : Nat)
  -- expiries
  | statusTimerExpiry
  | lateDeadline (address : Nat)
  | lostDeadline (address : Nat)
  | lostHoldExpiry (address : Nat)
  | freeRunDeadline
  | freeRunAdvance
  | controlPeriodExpiry
  | joinTimerExpiry
  | startTimerExpiry
  | standbyTimerExpiry
  | blankingTimerExpiry (monitor : Monitor)
  | staleTimerExpiry
  | frameTransmissionEnd (t : Nat)
  deriving DecidableEq, Repr

end Sys2Proof
end

