-- ==== Sys2Proof/WellFormed.lean ====
section
/-! DEFINITION. Which commands are well formed. The machine gives every command a meaning, these checks only say which
terms stand for an event the spec describes. -/

namespace Sys2Proof

/-- The body lengths a request code calls for (10.4); none for a code that names no request. -/
def requestLengths (code : Byte) : List Nat :=
  match code.toNat with
  | 1 => [6]
  | 2 => [0]
  | 3 => [11, 17]
  | 4 => [4]
  | 5 => [8]
  | 6 => [8]
  | 7 => [7]
  | 8 => [0]
  | 9 => [0]
  | 10 => [0]
  | 11 => [0]
  | 12 => [1]
  | 13 => [2]
  | 14 => [0]
  | 15 => [2]
  | _ => []

/-- A MEASURE body names a form, and has that form's length (R155). -/
def measureBodyOk (body : List Byte) : Bool :=
  (body.head? == some 1 && body.length == 11) || (body.head? == some 2 && body.length == 17)

/-- A good record's code and body name a request of 10.4: the code is known, the body has its length, and a MEASURE has a
form (R148, R155). -/
def namesRequest (code : Byte) (body : List Byte) : Bool :=
  (requestLengths code).contains body.length && (code != 3 || measureBodyOk body)

/-- The store form carries zones 1 to 8 (R155). -/
def MeasureForm.wellFormed : MeasureForm → Bool
  | .train _ _ _ _ _ => true
  | .store zones => zones.length == 8

/-- Station addresses are 0..15 (00, ADDRESSES AND NUMBERING). -/
def addressOk (a : Nat) : Bool := decide (a < 16)

/-- Only M_THERMAL and M_MARGIN have a blanking timer (R121). -/
def Monitor.hasBlanking : Monitor → Bool
  | .thermal => true
  | .margin => true
  | .native => false
  | .stale => false
  | .zoneHigh => false

/-- A command is well formed where its operands name things the spec gives: a zone list of eight, an address of the bus, a
monitor with a blanking timer, a record code or length that names no request. -/
def Instr.wellFormed : Instr → Bool
  | .measure _ _ form => form.wellFormed
  | .unknownRequest _ code _ body => !namesRequest code body
  | .lateDeadline a => addressOk a
  | .lostDeadline a => addressOk a
  | .lostHoldExpiry a => addressOk a
  | .blankingTimerExpiry m => m.hasBlanking
  | .setItem .. => true
  | .seal .. => true
  | .setTime .. => true
  | .nominate .. => true
  | .order .. => true
  | .cancel .. => true
  | .clear .. => true
  | .leave .. => true
  | .restart .. => true
  | .queryState .. => true
  | .queryPeer .. => true
  | .queryBook .. => true
  | .readLog .. => true
  | .releaseLog .. => true
  | .repeatRequest .. => true
  | .linkRecordDiscarded .. => true
  | .linkTransmit .. => true
  | .linkRecordSent .. => true
  | .powerOnReset .. => true
  | .permitChange .. => true
  | .boundaryPulse .. => true
  | .frameArrival .. => true
  | .applyStatusFrame .. => true
  | .applyAlert .. => true
  | .applyAlertConflict .. => true
  | .busTakeFrame .. => true
  | .statusTimerExpiry => true
  | .freeRunDeadline => true
  | .freeRunAdvance => true
  | .controlPeriodExpiry => true
  | .joinTimerExpiry => true
  | .startTimerExpiry => true
  | .standbyTimerExpiry => true
  | .staleTimerExpiry => true
  | .frameTransmissionEnd .. => true

end Sys2Proof
end

