-- ==== Sys2Proof/Decode.lean ====
section
/-! DEFINITION. The command a word spells by the bits of spec/opcode_table.json. No row of that table gives bits, so no word
spells a command. (The byte strings of bus frames and link records are decoded in Machine/Codec.lean.) -/

namespace Sys2Proof

/-- No row of the table gives bits: every word is answered none (log 29). -/
def decodeTableWord (_nbits _w : Nat) : Option Instr := none

end Sys2Proof
end

