-- ==== Sys2Proof/Machine/State.lean ====
section
/-! DEFINITION. The state of one PT316 as plain data: every register, queue, counter, timer, mark and line the spec names,
block by block (00_scope.md, BLOCK DIAGRAM), and the queue of waiting commands. INVENTORY.md lists each with its rule. -/

namespace Sys2Proof.Machine

/-! ## Names -/

/-- The kinds of station (00, KINDS OF STATION): compressor train, expander train, thermal store. -/
inductive Kind where
  | C | X | H
  deriving DecidableEq, Repr

/-- The states of trains and stores (6.1). -/
inductive StationState where
  | offline | joining | standby | starting | running | leaving | tripped | conflict | active
  deriving DecidableEq, Repr

/-- The causes of a STATE CHANGE (R120). -/
inductive Cause where
  | sealed | joinEnd | wake | startDone | permit | standbyTimer | leave | leaveEnd | trip | clear | conflict
  deriving DecidableEq, Repr

/-- The modes of a monitor (R121). -/
inductive Mode where
  | latch | retry | warn | off
  deriving DecidableEq, Repr

/-- The condition states of a monitor (7.1, MONITOR STATE). -/
inductive Cond where
  | clear | pending | active | latched
  deriving DecidableEq, Repr

/-- The reasons of HELD (2.4, AGREEMENT STATE). -/
inductive HeldReason where
  | noTime | disagree
  deriving DecidableEq, Repr

/-- The reasons of an ALERT (R6). -/
inductive AlertReason where
  | trip | leave | conflict
  deriving DecidableEq, Repr

/-- The relation of an entry, which is the tag of the status frame applied to it (R7, R8). -/
inductive Relation where
  | linkedStore | sameCavern | other
  deriving DecidableEq, Repr

/-- The status of an entry (1.3, ENTRY STATUS). -/
inductive EntryStatus where
  | present | late | lost
  deriving DecidableEq, Repr

/-- The class of a zone (5.1, ZONE TABLE). -/
inductive ZoneClass where
  | unclassified | hot | warm | cold
  deriving DecidableEq, Repr

/-- The two lists of the schedule book (2.2). -/
inductive ListName where
  | nominations | orders
  deriving DecidableEq, Repr

/-- The refusal codes of a REPLY (10.2). -/
inductive Refuse where
  | unknown | badState | badKind | incomplete | noTime | tooLate | bookFull
  deriving DecidableEq, Repr

/-- The reason of a cut report kept in a delivery record (10.2). -/
inductive CutReason where
  | trip | leave
  deriving DecidableEq, Repr

/-! ## Configuration -/

/-- The configuration store (9.2): one value for each item, or unset. The defaults are the reset values. -/
structure Items where
  address : Option Nat := none
  kind : Option Kind := none
  cavern : Option Nat := none
  vcode : Nat := 19
  silence : Nat := 2
  lostHold : Nat := 60
  rated : Option Nat := none
  minLoad : Option Nat := none
  ramp : Nat := 600
  interval : Nat := 15
  linked : Option Nat := none
  hc : Nat := 60
  cooledFraction : Nat := 30
  hx : Nat := 110
  xHot : Nat := 500
  xCold : Nat := 200
  nativeMin : Option Nat := none
  nativeMax : Option Nat := none
  workMin : Option Nat := none
  workMax : Option Nat := none
  softBand : Nat := 300
  rateLimit : Nat := 5000
  coeff : Nat := 1
  specific : Nat := 400
  qc : Option Nat := none
  qd : Option Nat := none
  sHot : Option Nat := none
  sCold : Option Nat := none
  storeMax : Nat := 700
  startTime : Nat := 300
  standbyCode : Nat := 15
  wakeDelay : Nat := 5
  modeNative : Mode := .latch
  modeThermal : Mode := .retry
  /-- none is the mark "left at its default", which the seal of an expander distinguishes (R121) -/
  modeMargin : Option Mode := none
  modeStale : Mode := .retry
  modeZone : Mode := .retry
  dgNative : Nat := 3
  dgThermal : Nat := 3
  dgMargin : Nat := 3
  dgZone : Nat := 3
  blankThermal : Nat := 60
  blankMargin : Nat := 60
  thermalHigh : Nat := 600
  thermalLow : Nat := 350
  marginLow : Nat := 80
  staleLimit : Nat := 5
  retryStep : Nat := 50
  deriving DecidableEq, Repr

/-- The mode in force of each monitor (R121). -/
structure Modes where
  native : Mode := .latch
  thermal : Mode := .retry
  margin : Mode := .retry
  stale : Mode := .retry
  zoneHigh : Mode := .retry
  deriving DecidableEq, Repr

/-- What the last accepted SEAL fixed: the items as they stood, and the values derived from them (R70, R85, R93, R121,
R153). The derivations leave the items of the configuration store as they are. -/
structure InForce where
  items : Items := {}
  minLoad : Nat := 0
  rampStep : Nat := 0
  workMin : Option Nat := none
  workMax : Option Nat := none
  hot : Option Nat := none
  cold : Option Nat := none
  modes : Modes := {}
  deriving DecidableEq, Repr

/-! ## Frames, entries and records -/

/-- The fields of a TRAIN STATUS after its sender and state (R2). An interval of 4294967295 is untimed. -/
structure TrainFields where
  kind : Kind
  cavern : Nat
  linked : Option Nat
  held : Bool
  cooled : Bool
  available : Bool
  clockFree : Bool
  vcode : Nat
  interval : Nat
  target : Option Int
  command : Nat
  output : Nat
  massFlow : Nat
  heatFlow : Nat
  upper : Nat
  minLoad : Nat
  deriving DecidableEq, Repr

/-- The fields of a STORE STATUS after its sender and state (R3). -/
structure StoreFields where
  monitorActive : Bool
  stale : Bool
  vcode : Nat
  charge : Nat
  discharge : Nat
  outlet : Nat
  hotZones : Nat
  deriving DecidableEq, Repr

inductive Fields where
  | train (f : TrainFields)
  | store (f : StoreFields)
  deriving DecidableEq, Repr

/-- The three fields of a cut report (R6). -/
structure CutReport where
  first : Option Nat := none
  toRun : Nat := 0
  last : Option Nat := none
  deriving DecidableEq, Repr

/-- A status frame; the state is none where a received code names no state of the sender's kind (R13). -/
structure StatusFrame where
  address : Nat
  state : Option StationState
  fields : Fields
  deriving DecidableEq, Repr

/-- An ALERT (R6). -/
structure Alert where
  address : Nat
  reason : AlertReason
  cut : CutReport
  deriving DecidableEq, Repr

inductive Frame where
  | status (f : StatusFrame)
  | alert (a : Alert)
  deriving DecidableEq, Repr

/-- A frame of the receive queue with its tag and arrival time (R9). -/
structure RxFrame where
  frame : Frame
  tag : Relation
  arrival : Nat
  deriving DecidableEq, Repr

/-- An entry of the peer table (1.3, ENTRIES). `holdEnd` is the instant at which its lost hold runs out, while it is LOST. -/
structure Entry where
  address : Nat
  state : StationState
  fields : Fields
  arrival : Nat
  relation : Relation
  status : EntryStatus
  holdEnd : Option Nat
  deriving DecidableEq, Repr

/-- An entry of the nomination list (amount is the power) or of the order list (amount is the delta) (R31). -/
structure BookEntry where
  first : Nat
  count : Nat
  amount : Int
  deriving DecidableEq, Repr

/-- The cut report noted in an open interval, with its reason (R141). -/
structure NotedCut where
  reason : CutReason
  report : CutReport
  deriving DecidableEq, Repr

/-- A delivery record (R142). -/
structure DeliveryRecord where
  interval : Nat
  target : Int
  own : Int
  plant : Int
  deviation : Int
  periods : Nat
  heldSeen : Bool
  trippedSeen : Bool
  clockFreeSeen : Bool
  orderChanged : Bool
  olderDropped : Bool
  cut : Option NotedCut
  deriving DecidableEq, Repr

/-- The open interval and what the account has gathered for it (R141). -/
structure OpenRecord where
  interval : Nat
  target : Int
  periods : Nat := 0
  heldSeen : Bool := false
  trippedSeen : Bool := false
  clockFreeSeen : Bool := false
  cut : Option NotedCut := none
  deriving DecidableEq, Repr

/-- The station's own integration point (8.1). -/
structure OwnPoint where
  output : Nat
  since : Nat
  deriving DecidableEq, Repr

/-- A peer integration point (8.1). -/
structure PeerPoint where
  address : Nat
  output : Nat
  kind : Kind
  since : Nat
  deriving DecidableEq, Repr

/-- The fields of a measurement record after clamping (R155). -/
inductive Measurement where
  | train (output massFlow pressure thermal margin : Nat)
  | store (zones : List Nat)
  deriving DecidableEq, Repr

/-- The measurement holder when it holds a record (R156). -/
structure Holder where
  fields : Measurement
  arrival : Nat
  deriving DecidableEq, Repr

/-- What a reply answers (R150). -/
inductive Answer where
  | accept (clamped : Bool)
  | refuse (code : Refuse)
  | data (body : List Byte)
  deriving DecidableEq, Repr

/-- A REPLY: the tag and code of the request it answers, and the answer (R150, 10.4). -/
structure Reply where
  tag : Byte
  code : Byte
  answer : Answer
  deriving DecidableEq, Repr

/-- The kept request with the reply it formed (R148). -/
structure Kept where
  code : Byte
  tag : Byte
  body : List Byte
  reply : Reply
  deriving DecidableEq, Repr

/-- A SETPOINT (R65). -/
structure Setpoint where
  command : Nat
  cooled : Bool
  state : StationState
  deriving DecidableEq, Repr

/-- The reports of 9.5. -/
inductive Report where
  | stateChange (left entered : StationState) (cause : Cause)
  | trip (monitors : List Monitor)
  | tripCleared
  | monitorWarn (monitor : Monitor) (mode : Mode)
  | held (reason : HeldReason) (n a : Nat)
  | heldEnd
  | peerJoined (address : Nat)
  | peerReturned (address : Nat)
  | peerLost (address : Nat)
  | peerDropped (address : Nat)
  | addressConflict
  | clockFree (interval : Nat)
  | storeCooled (entered : Bool)
  | rxOverrun
  | intervalClosed (interval records : Nat)
  deriving DecidableEq, Repr

/-- A report of the queue with its report number (R160). -/
structure NumberedReport where
  number : Nat
  report : Report
  deriving DecidableEq, Repr

/-- The record the transmitter has begun: its bytes, and whether it is the owed reply (R149). -/
structure Sending where
  isReply : Bool
  bytes : List Byte
  deriving DecidableEq, Repr

/-! ## The blocks -/

/-- Bus interface. A timer is held as the instant at which it runs out; none is stopped. -/
structure Bus where
  statusTimer : Option Nat := none
  pendingStatus : Option StatusFrame := none
  pendingAlert : Option Alert := none
  /-- the bytes of the frame the bus has taken and is sending (R4) -/
  onBus : Option (List Byte) := none
  rx : List RxFrame := []
  overrun : Bool := false
  deriving DecidableEq, Repr

/-- Interval clock (2.1, CLOCK STATE). -/
structure Clock where
  current : Option Nat := none
  pending : Option Nat := none
  lastPulse : Option Nat := none
  lastAdvance : Option Nat := none
  free : Bool := false
  deriving DecidableEq, Repr

/-- Schedule book. -/
structure Book where
  noms : List BookEntry := []
  orders : List BookEntry := []
  target : Option Int := none
  /-- AGREE is true, DISAGREE false -/
  agree : Bool := true
  n : Nat := 0
  a : Nat := 0
  persistence : Nat := 0
  settle : Nat := 0
  held : Option HeldReason := none
  orderChanged : Bool := false
  deriving DecidableEq, Repr

/-- Share unit (R46). `lastU` is the upper limit as last read (R51). -/
structure Share where
  command : Nat := 0
  timer : Option Nat := none
  wake : Nat := 0
  lastLoaded : Option Nat := none
  lastU : Nat := 0
  deriving DecidableEq, Repr

/-- One zone of the zone table. -/
structure Zone where
  temp : Option Nat := none
  cls : ZoneClass := .unclassified
  deriving DecidableEq, Repr

/-- Heat store unit. -/
structure Heat where
  zones : List Zone := List.replicate 8 {}
  hotZones : Nat := 0
  classCharge : Nat := 0
  classDischarge : Nat := 0
  pubCharge : Nat := 0
  pubDischarge : Nat := 0
  outlet : Nat := 0
  /-- the published allowances when M_STALE became ACTIVE (R89, "held") -/
  heldCharge : Nat := 0
  heldDischarge : Nat := 0
  cooled : Bool := false
  deriving DecidableEq, Repr

/-- Train sequencer (R104). -/
structure Seq where
  state : StationState := .offline
  available : Bool := false
  joinTimer : Option Nat := none
  startTimer : Option Nat := none
  standbyTimer : Option Nat := none
  tripHeld : Bool := false
  leaveCount : Nat := 0
  tripOut : Bool := false
  deriving DecidableEq, Repr

/-- One monitor (7.1, MONITOR STATE). -/
structure MonState where
  cond : Cond := .clear
  onset : Nat := 0
  release : Nat := 0
  mark : Bool := false
  deriving DecidableEq, Repr

/-- Monitor bank. -/
structure Bank where
  native : MonState := {}
  thermal : MonState := {}
  margin : MonState := {}
  stale : MonState := {}
  zoneHigh : MonState := {}
  blankThermal : Option Nat := none
  blankMargin : Option Nat := none
  cap : Nat := 0
  deriving DecidableEq, Repr

/-- Delivery account (8.1). The accumulators are in count·ms. -/
structure Account where
  openRec : Option OpenRecord := none
  ownAcc : Int := 0
  plantAcc : Int := 0
  ownPoint : Option OwnPoint := none
  peerPoints : List PeerPoint := []
  log : List DeliveryRecord := []
  deriving DecidableEq, Repr

/-- Train link (chapter 9). -/
structure Link where
  kept : Option Kept := none
  owed : Option Reply := none
  setpoint : Option Setpoint := none
  reports : List NumberedReport := []
  reportNo : Nat := 0
  discarded : Bool := false
  faults : Nat := 0
  sending : Option Sending := none
  holder : Option Holder := none
  staleTimer : Option Nat := none
  staleMark : Bool := false
  deriving DecidableEq, Repr

/-! ## The machine -/

/-- The state of the station. -/
structure State where
  /-- the instant of the last event, in ms -/
  now : Nat := 0
  items : Items := {}
  inForce : InForce := {}
  bus : Bus := {}
  /-- the peer table, in order of address (R11) -/
  view : List Entry := []
  clock : Clock := {}
  book : Book := {}
  share : Share := {}
  heat : Heat := {}
  seq : Seq := {}
  bank : Bank := {}
  account : Account := {}
  link : Link := {}
  /-- the level of the PERMIT line (R162) -/
  permit : Bool := false
  /-- the model's own counter of free values drawn (log 6) -/
  free : Nat := 0
  /-- the commands that wait, first in, first out (log 2) -/
  pending : List Instr := []
  deriving DecidableEq, Repr

/-- No command of this block ends in a fault: the spec gives every event at the station an effect, so this type is empty.
(A protection trip is the station state TRIPPED, an error of a request is a refusal code in its reply.) -/
inductive Fault where
  deriving DecidableEq, Repr

/-- Why a command may have no meaning. -/
inductive Refusal where
  /-- Raised by `exec` alone, for a command that has no meaning in the model yet; safe (the model stops). None is raised:
  every command has its meaning. -/
  | notModelled (mnemonic : String)
  deriving DecidableEq, Repr

/-- The station right after power-on reset (R23, R24, R31, R45, R46, R68, R85, R86, R93, R99, R104, R121, R122, R136, R151,
R163), with no command waiting. The values no rule gives are named in log 5. -/
def State.reset : State := {}

end Sys2Proof.Machine
end

