-- ==== Sys2Proof/Machine/Ops.lean ====
section
/-! DEFINITION. The operations every block shares: the instant of an event, reports, SETPOINT, the link's faults, the
station's kind and its periods, the cut report's parts, the monitors by name. -/

namespace Sys2Proof.Machine

/-! ## Time -/

/-- The event comes at instant `t`, or at the station's own instant where that is later (log 1). -/
def State.atInstant (s : State) (t : Nat) : State := { s with now := max s.now t }

/-- Seconds in ms. -/
def seconds (n : Nat) : Nat := n * 1000

/-- Minutes in ms. -/
def minutes (n : Nat) : Nat := n * 60000

/-- The status period of a code v: p = (v+1) × 50 ms (STATUS PERIOD; 1.4 for a peer's q). -/
def periodOf (vcode : Nat) : Nat := (vcode + 1) * 50

/-! ## The station as sealed -/

def InForce.address (f : InForce) : Nat := f.items.address.getD 0
def InForce.cavern (f : InForce) : Nat := f.items.cavern.getD 0
def InForce.rated (f : InForce) : Nat := f.items.rated.getD 0
def InForce.kind (f : InForce) : Option Kind := f.items.kind
/-- The station's own period p, of its status frames and of its control period (R1, R46). -/
def InForce.p (f : InForce) : Nat := periodOf f.items.vcode
/-- The interval length L in ms, as it stood at the last accepted SEAL (R24). -/
def InForce.intervalMs (f : InForce) : Nat := minutes f.items.interval

/-- The station is a train, by the kind of its last accepted SEAL (log 19). -/
def State.isTrain (s : State) : Bool := s.inForce.kind == some .C || s.inForce.kind == some .X

/-- The station is a store, by the kind of its last accepted SEAL (log 19). -/
def State.isStore (s : State) : Bool := s.inForce.kind == some .H

/-- The station is in a state from JOINING onward. -/
def State.isSealed (s : State) : Bool := s.seq.state != .offline

/-- RUNNING or LEAVING: the states in which a train may hold a command (R47). -/
def StationState.loaded : StationState → Bool
  | .running => true
  | .leaving => true
  | .offline => false
  | .joining => false
  | .standby => false
  | .starting => false
  | .tripped => false
  | .conflict => false
  | .active => false

/-- The service states of 6.1, in which a latched monitor trips the station. -/
def StationState.inService : StationState → Bool
  | .standby => true
  | .starting => true
  | .running => true
  | .leaving => true
  | .active => true
  | .offline => false
  | .joining => false
  | .tripped => false
  | .conflict => false

/-- The other kind of train. -/
def Kind.opposite : Kind → Kind
  | .C => .X
  | .X => .C
  | .H => .H

/-- The sign a kind's energy carries: compressor energy is negative, expander energy positive (SIGNS). -/
def Kind.sign : Kind → Int
  | .C => -1
  | .X => 1
  | .H => 0

/-! ## Reports and SETPOINT -/

/-- A block produces a report: it takes the current number, joins the queue or is discarded with the flag set, and the
number rises, from 65535 to 0 (R160). -/
def produce (r : Report) (s : State) : State :=
  { s with link := { s.link with
      reports := if s.link.reports.length < Config.reportCapacity
        then s.link.reports ++ [⟨s.link.reportNo, r⟩] else s.link.reports
      discarded := s.link.discarded || !decide (s.link.reports.length < Config.reportCapacity)
      reportNo := (s.link.reportNo + 1) % 65536 } }

/-- Two blocks each may produce a report at one event; where both do, either may take its number first (R160, log 9). -/
def produceEither (x y : Option Report) (s : State) : State :=
  match x, y with
  | none, none => s
  | some r, none => produce r s
  | none, some r => produce r s
  | some r₁, some r₂ =>
    let s' := { s with free := s.free + 1 }
    if Config.accountReportsFirst s.free then produce r₂ (produce r₁ s') else produce r₁ (produce r₂ s')

/-- The SETPOINT as it would be built now: the command, mode COOLED for a compressor in cooled mode, the state (R65). -/
def setpointNow (s : State) : Setpoint :=
  { command := s.share.command
    cooled := s.inForce.kind == some .C && s.heat.cooled
    state := s.seq.state }

/-- A SETPOINT is built and made pending, replacing one that waits (R65, R149). -/
def sendSetpoint (s : State) : State :=
  { s with link := { s.link with setpoint := some (setpointNow s) } }

/-- The link fault count rises by one and stays at 65535 once there (R148). -/
def countFault (s : State) : State :=
  { s with link := { s.link with faults := min 65535 (s.link.faults + 1) } }

/-- The sequencer changes state and queues STATE CHANGE with its cause (R120). -/
def enterState (entered : StationState) (cause : Cause) (s : State) : State :=
  produce (.stateChange s.seq.state entered cause) { s with seq := { s.seq with state := entered } }

/-! ## Monitors by name -/

def Bank.monitor (b : Bank) : Monitor → MonState
  | .native => b.native
  | .thermal => b.thermal
  | .margin => b.margin
  | .stale => b.stale
  | .zoneHigh => b.zoneHigh

def Bank.setMonitor (b : Bank) (m : Monitor) (v : MonState) : Bank :=
  match m with
  | .native => { b with native := v }
  | .thermal => { b with thermal := v }
  | .margin => { b with margin := v }
  | .stale => { b with stale := v }
  | .zoneHigh => { b with zoneHigh := v }

def Modes.get (m : Modes) : Monitor → Mode
  | .native => m.native
  | .thermal => m.thermal
  | .margin => m.margin
  | .stale => m.stale
  | .zoneHigh => m.zoneHigh

/-- The monitors in the order of their codes. -/
def allMonitors : List Monitor := [.native, .thermal, .margin, .stale, .zoneHigh]

/-- The latched set (7.1). -/
def Bank.latchedSet (b : Bank) : List Monitor := allMonitors.filter fun m => (b.monitor m).cond == .latched

/-- Some monitor is ACTIVE in mode RETRY (R128, R129). -/
def anyActiveRetry (s : State) : Bool :=
  allMonitors.any fun m => (s.bank.monitor m).cond == .active && s.inForce.modes.get m == .retry

/-- The bank's state after power-on reset, at a seal and at the end of a leave, with the monitor cap given (R122). -/
def Bank.cleared (cap : Nat) : Bank := { cap := cap }

/-- The monitor cap a seal or a leave's end sets: rated on a train; a store's bank has no cap (R122). -/
def State.capAtRated (s : State) : Nat := if s.isTrain then s.inForce.rated else 0

end Sys2Proof.Machine
end

