-- ==== Sys2Proof/Machine/Operands.lean ====
section
/-! DEFINITION. Values brought into range: received status frames (R13), the requests of the schedule book (R31), the
measurement records (R155), the items of SET ITEM (R152). -/

namespace Sys2Proof.Machine

/-- The nearer end of a range for a signed value. -/
def clampInt (lo hi v : Int) : Int := if v < lo then lo else if hi < v then hi else v

/-- The nearer end of a range for an unsigned value. -/
def clampNat (lo hi v : Nat) : Nat := if v < lo then lo else if hi < v then hi else v

/-- Target, power and delta: −3000..+3000. -/
def clampPower (v : Int) : Int := clampInt (-3000) 3000 v

/-! ## Received status frames -/

/-- R13 on a TRAIN STATUS. The target of a peer that sends the untimed number is none whatever the field holds. -/
def TrainFields.clamp (f : TrainFields) : TrainFields :=
  { f with
    cavern := clampNat 1 4 f.cavern
    vcode := clampNat 0 31 f.vcode
    target := if f.interval = Config.untimedCode then none else f.target.map clampPower
    command := clampNat 0 2500 f.command
    output := clampNat 0 2500 f.output
    massFlow := clampNat 0 1000 f.massFlow
    heatFlow := clampNat 0 5000 f.heatFlow
    upper := clampNat 0 2500 f.upper
    minLoad := clampNat 0 2500 f.minLoad }

/-- R13 on a STORE STATUS. -/
def StoreFields.clamp (f : StoreFields) : StoreFields :=
  { f with
    vcode := clampNat 0 31 f.vcode
    charge := clampNat 0 5000 f.charge
    discharge := clampNat 0 5000 f.discharge
    outlet := clampNat 0 800 f.outlet
    hotZones := clampNat 0 8 f.hotZones }

def Fields.clamp : Fields → Fields
  | .train f => .train f.clamp
  | .store f => .store f.clamp

/-! ## The schedule book's requests (R31) -/

/-- A first interval of 4294967295 is taken as 4294967294. -/
def clampFirst (first : Nat) : Nat := min first Config.lastInterval

/-- A count after the rows of R31 on the count alone: 0 is 96, more than 96 is 96. -/
def countTaken (count : Nat) : Nat := if count = 0 then 96 else min count 96

/-- The count taken, reduced so that the last interval does not pass 4294967294. -/
def clampCount (first count : Nat) : Nat :=
  min (countTaken count) (Config.lastInterval + 1 - clampFirst first)

/-- Some value of the range was changed; a count of 0 taken as 96 does not count as a change. -/
def rangeClamped (first count : Nat) : Bool :=
  clampFirst first != first || decide (96 < count) || clampCount first count != countTaken count

/-! ## Measurement records (R155) -/

/-- The fields of a MEASURE record in their ranges. -/
def Measurement.ofForm : MeasureForm → Measurement
  | .train o f p h m =>
    .train (clampNat 0 2500 o.toNat) (clampNat 0 1000 f.toNat) (clampNat 0 25000 p.toNat) (clampNat 0 800 h.toNat)
      (clampNat 0 1000 m.toNat)
  | .store zones => .store (zones.map fun z => clampNat 0 800 z.toNat)

/-- The record's fields as they were sent. -/
def Measurement.raw : MeasureForm → Measurement
  | .train o f p h m => .train o.toNat f.toNat p.toNat h.toNat m.toNat
  | .store zones => .store (zones.map BitVec.toNat)

/-- Some field was brought into range. -/
def formClamped (f : MeasureForm) : Bool := Measurement.ofForm f != Measurement.raw f

/-! ## Items of SET ITEM (R152) -/

/-- A numeric value brought into its item's range, and whether that changed it. -/
def itemRange (lo hi : Nat) (v : Int) : Nat × Bool :=
  let n := (clampInt lo hi v).toNat
  (n, (n : Int) != v)

/-- The interval length nearest to a value among 15, 30 and 60, the lower where two are equally near (R152). -/
def nearestInterval (v : Int) : Nat := if v ≤ 22 then 15 else if v ≤ 45 then 30 else 60

end Sys2Proof.Machine
end

