-- ==== Sys2Proof/Machine/Codec.lean ====
section
/-! DEFINITION. Byte strings: the frame check, the layouts of chapter 10, and their decoding (R164, R165). -/

namespace Sys2Proof.Machine

/-! ## Bytes, most significant first -/

def byteOf (n : Nat) : Byte := BitVec.ofNat 8 n
def bytes2 (n : Nat) : List Byte := [byteOf (n / 256), byteOf n]
def bytes4 (n : Nat) : List Byte := [byteOf (n / 16777216), byteOf (n / 65536), byteOf (n / 256), byteOf n]
/-- A signed field in two's complement. -/
def signed2 (v : Int) : List Byte := bytes2 (BitVec.ofInt 16 v).toNat
def signed4 (v : Int) : List Byte := bytes4 (BitVec.ofInt 32 v).toNat
def flagByte (b : Bool) : Byte := if b then 1 else 0
/-- Flag bits, bit 0 first. -/
def flagBits : List Bool → Nat
  | [] => 0
  | b :: bs => (if b then 1 else 0) + 2 * flagBits bs

def byteAt (bs : List Byte) (i : Nat) : Nat := (bs.getD i 0).toNat
def read2 (bs : List Byte) (i : Nat) : Nat := byteAt bs i * 256 + byteAt bs (i + 1)
def read4 (bs : List Byte) (i : Nat) : Nat := read2 bs i * 65536 + read2 bs (i + 2)
def readSigned2 (bs : List Byte) (i : Nat) : Int := (BitVec.ofNat 16 (read2 bs i)).toInt

/-! ## The frame check (R164) -/

/-- One bit of the remainder: the generator is x¹⁶ + x¹² + x⁵ + 1. -/
def crcBit (r : BitVec 16) : BitVec 16 := if r.msb then (r <<< 1) ^^^ 0x1021#16 else r <<< 1

def crcBits : Nat → BitVec 16 → BitVec 16
  | 0, r => r
  | k + 1, r => crcBits k (crcBit r)

/-- One byte, most significant bit first. -/
def crcByte (r : BitVec 16) (b : Byte) : BitVec 16 := crcBits 8 (r ^^^ (b.setWidth 16 <<< 8))

/-- The remainder over a record's bytes, the register set to all ones first, not inverted. -/
def crc (bs : List Byte) : BitVec 16 := bs.foldl crcByte 0xFFFF#16

/-- A record with its check, most significant byte first. -/
def withCheck (bs : List Byte) : List Byte := bs ++ bytes2 (crc bs).toNat

/-- The bytes before the check. -/
def beforeCheck (bs : List Byte) : List Byte := bs.take (bs.length - 2)

/-- A record's check is good (R165). -/
def checkGood (bs : List Byte) : Bool :=
  decide (2 ≤ bs.length) && bs.drop (bs.length - 2) == bytes2 (crc (beforeCheck bs)).toNat

/-! ## Codes (10.2) -/

def Kind.code : Kind → Nat
  | .C => 1
  | .X => 2
  | .H => 3

def kindOfCode : Nat → Option Kind
  | 1 => some .C
  | 2 => some .X
  | 3 => some .H
  | _ => none

def StationState.code : StationState → Nat
  | .offline => 0
  | .joining => 1
  | .standby => 2
  | .starting => 3
  | .running => 4
  | .leaving => 5
  | .tripped => 6
  | .conflict => 7
  | .active => 8

/-- The states valid for a train are 0 to 7. -/
def trainStateOfCode : Nat → Option StationState
  | 0 => some .offline
  | 1 => some .joining
  | 2 => some .standby
  | 3 => some .starting
  | 4 => some .running
  | 5 => some .leaving
  | 6 => some .tripped
  | 7 => some .conflict
  | _ => none

/-- The states valid for a store are 0, 1, 5, 6, 7 and 8. -/
def storeStateOfCode : Nat → Option StationState
  | 0 => some .offline
  | 1 => some .joining
  | 5 => some .leaving
  | 6 => some .tripped
  | 7 => some .conflict
  | 8 => some .active
  | _ => none

def AlertReason.code : AlertReason → Nat
  | .trip => 1
  | .leave => 2
  | .conflict => 3

def alertReasonOfCode : Nat → Option AlertReason
  | 1 => some .trip
  | 2 => some .leave
  | 3 => some .conflict
  | _ => none

def monitorCode : Monitor → Nat
  | .native => 1
  | .thermal => 2
  | .margin => 3
  | .stale => 4
  | .zoneHigh => 5

def monitorOfCode : Nat → Option Monitor
  | 1 => some .native
  | 2 => some .thermal
  | 3 => some .margin
  | 4 => some .stale
  | 5 => some .zoneHigh
  | _ => none

def Mode.code : Mode → Nat
  | .latch => 1
  | .retry => 2
  | .warn => 3
  | .off => 4

def modeOfCode : Int → Option Mode
  | 1 => some .latch
  | 2 => some .retry
  | 3 => some .warn
  | 4 => some .off
  | _ => none

def listOfCode : Nat → Option ListName
  | 1 => some .nominations
  | 2 => some .orders
  | _ => none

def Refuse.code : Refuse → Nat
  | .unknown => 1
  | .badState => 2
  | .badKind => 3
  | .incomplete => 4
  | .noTime => 5
  | .tooLate => 6
  | .bookFull => 7

def HeldReason.code : HeldReason → Nat
  | .noTime => 1
  | .disagree => 2

def Cause.code : Cause → Nat
  | .sealed => 1
  | .joinEnd => 2
  | .wake => 3
  | .startDone => 4
  | .permit => 5
  | .standbyTimer => 6
  | .leave => 7
  | .leaveEnd => 8
  | .trip => 9
  | .clear => 10
  | .conflict => 11

def CutReason.code : CutReason → Nat
  | .trip => 1
  | .leave => 2

def Cond.code : Cond → Nat
  | .clear => 0
  | .pending => 1
  | .active => 2
  | .latched => 3

def ZoneClass.code : ZoneClass → Nat
  | .unclassified => 0
  | .hot => 1
  | .warm => 2
  | .cold => 3

def EntryStatus.code : EntryStatus → Nat
  | .present => 1
  | .late => 2
  | .lost => 3

def Relation.code : Relation → Nat
  | .linkedStore => 1
  | .sameCavern => 2
  | .other => 3

/-- A monitor set is one byte with one bit per monitor, bit 0 M_NATIVE. -/
def monitorSet (ms : List Monitor) : Byte := byteOf (flagBits (allMonitors.map fun m => ms.contains m))

/-- An interval field carries 4294967295 for untimed or none. -/
def intervalField (i : Option Nat) : Nat := i.getD Config.untimedCode

/-- A target field carries −32768 for none. -/
def targetField (t : Option Int) : Int := t.getD (-32768)

/-- A linked store byte carries 255 for none. -/
def linkedField (a : Option Nat) : Nat := a.getD 255

/-- A two-byte pressure, temperature, allowance or cap field carries 65535 for absent or none. -/
def absentField (v : Option Nat) : Nat := v.getD 65535

/-- A time field of four bytes in ms; one that does not fit is a free value (log 8). -/
def timeField (ms : Nat) : List Byte :=
  if ms < 4294967296 then bytes4 ms else bytes4 (Config.overlongTime ms).toNat

/-! ## Bus frames (10.3) -/

def CutReport.encode (c : CutReport) : List Byte :=
  bytes4 (intervalField c.first) ++ bytes2 c.toRun ++ bytes4 (intervalField c.last)

/-- A status frame's layout from byte 1 up to its check. The state is that the station holds. -/
def statusBody (address : Nat) (state : StationState) : Fields → List Byte
  | .train f =>
    [byteOf address, byteOf f.kind.code, byteOf f.cavern, byteOf (linkedField f.linked), byteOf state.code,
      byteOf (flagBits [f.held, f.cooled, f.available, f.clockFree]), byteOf f.vcode]
      ++ bytes4 f.interval ++ signed2 (targetField f.target) ++ bytes2 f.command ++ bytes2 f.output
      ++ bytes2 f.massFlow ++ bytes2 f.heatFlow ++ bytes2 f.upper ++ bytes2 f.minLoad
  | .store f =>
    [byteOf address, 3, byteOf state.code, byteOf (flagBits [f.monitorActive, f.stale]), byteOf f.vcode]
      ++ bytes2 f.charge ++ bytes2 f.discharge ++ bytes2 f.outlet ++ [byteOf f.hotZones, 0]

def Fields.frameType : Fields → Byte
  | .train _ => 1
  | .store _ => 2

/-- The bytes of a status frame. -/
def StatusFrame.encode (f : StatusFrame) : List Byte :=
  withCheck (f.fields.frameType :: statusBody f.address (f.state.getD .offline) f.fields)

/-- The bytes of an ALERT; the cut report fields of an ALERT CONFLICT are none, 0 and none. -/
def Alert.encode (a : Alert) : List Byte :=
  withCheck ([3, byteOf a.address, byteOf a.reason.code, 0]
    ++ (if a.reason = .conflict then ({} : CutReport) else a.cut).encode)

def Frame.encode : Frame → List Byte
  | .status f => f.encode
  | .alert a => a.encode

/-- What the first tests of R7 find in an arriving byte string. -/
inductive Received where
  | checkBad
  | unknownKind
  | frame (f : Frame)
  deriving DecidableEq, Repr

/-- The length a known frame type calls for. -/
def frameLength (type : Nat) : Option Nat :=
  match type with
  | 1 => some 28
  | 2 => some 16
  | 3 => some 16
  | _ => none

/-- An interval field as read: 4294967295 is none. -/
def readInterval (bs : List Byte) (i : Nat) : Option Nat :=
  if read4 bs i = Config.untimedCode then none else some (read4 bs i)

def decodeTrainFields (bs : List Byte) (kind : Kind) : TrainFields :=
  { kind := kind
    cavern := byteAt bs 3
    linked := if byteAt bs 4 < 16 then some (byteAt bs 4) else none
    held := byteAt bs 6 % 2 == 1
    cooled := byteAt bs 6 / 2 % 2 == 1
    available := byteAt bs 6 / 4 % 2 == 1
    clockFree := byteAt bs 6 / 8 % 2 == 1
    vcode := byteAt bs 7
    interval := read4 bs 8
    target := if readSigned2 bs 12 = -32768 then none else some (readSigned2 bs 12)
    command := read2 bs 14
    output := read2 bs 16
    massFlow := read2 bs 18
    heatFlow := read2 bs 20
    upper := read2 bs 22
    minLoad := read2 bs 24 }

def decodeStoreFields (bs : List Byte) : StoreFields :=
  { monitorActive := byteAt bs 4 % 2 == 1
    stale := byteAt bs 4 / 2 % 2 == 1
    vcode := byteAt bs 5
    charge := read2 bs 6
    discharge := read2 bs 8
    outlet := read2 bs 10
    hotZones := byteAt bs 12 }

/-- A frame of known type and length with a good check (R165). Only the low four bits of the address byte are read. -/
def decodeKnown (bs : List Byte) : Received :=
  match byteAt bs 0 with
  | 1 =>
    match kindOfCode (byteAt bs 2) with
    | some .C => .frame (.status ⟨byteAt bs 1 % 16, trainStateOfCode (byteAt bs 5), .train (decodeTrainFields bs .C)⟩)
    | some .X => .frame (.status ⟨byteAt bs 1 % 16, trainStateOfCode (byteAt bs 5), .train (decodeTrainFields bs .X)⟩)
    | _ => .unknownKind
  | 2 =>
    if byteAt bs 2 = 3 then
      .frame (.status ⟨byteAt bs 1 % 16, storeStateOfCode (byteAt bs 3), .store (decodeStoreFields bs)⟩)
    else .unknownKind
  | 3 =>
    match alertReasonOfCode (byteAt bs 2) with
    | some .conflict => .frame (.alert ⟨byteAt bs 1 % 16, .conflict, {}⟩)
    | some r => .frame (.alert ⟨byteAt bs 1 % 16, r, ⟨readInterval bs 4, read2 bs 8, readInterval bs 10⟩⟩)
    | none => .unknownKind
  | _ => .unknownKind

/-- The check and the kind tests of R7, in their order: a wrong check, or a known type with the wrong length, is CHECK BAD. -/
def decodeFrame (bs : List Byte) : Received :=
  if !checkGood bs then .checkBad
  else if bs.length ≤ 2 then .unknownKind
  else match frameLength (byteAt bs 0) with
    | none => .unknownKind
    | some n => if bs.length = n then decodeKnown bs else .checkBad

/-! ## Link records (10.4) -/

/-- A request of the train controller, decoded. -/
inductive Request where
  | setItem (item monitor : Byte) (value : Word)
  | seal
  | measure (form : MeasureForm)
  | setTime (number : Word)
  | nominate (first : Word) (count power : Half)
  | order (first : Word) (count delta : Half)
  | cancel (list : Byte) (first : Word) (count : Half)
  | clear
  | leave
  | restart
  | queryState
  | queryPeer (address : Byte)
  | queryBook (list index : Byte)
  | readLog
  | releaseLog (k : Half)
  deriving DecidableEq, Repr

def Request.code : Request → Byte
  | .setItem .. => 1
  | .seal => 2
  | .measure .. => 3
  | .setTime .. => 4
  | .nominate .. => 5
  | .order .. => 6
  | .cancel .. => 7
  | .clear => 8
  | .leave => 9
  | .restart => 10
  | .queryState => 11
  | .queryPeer .. => 12
  | .queryBook .. => 13
  | .readLog => 14
  | .releaseLog .. => 15

def halfBytes (h : Half) : List Byte := bytes2 h.toNat
def wordBytes (w : Word) : List Byte := bytes4 w.toNat

/-- The bytes of several two-byte fields. -/
def halvesBytes : List Half → List Byte
  | [] => []
  | h :: hs => halfBytes h ++ halvesBytes hs

/-- The body of a request (10.4). -/
def Request.body : Request → List Byte
  | .setItem item monitor value => item :: monitor :: wordBytes value
  | .seal => []
  | .measure (.train o f p h m) => 1 :: halvesBytes [o, f, p, h, m]
  | .measure (.store zones) => 2 :: halvesBytes zones
  | .setTime n => wordBytes n
  | .nominate first count power => wordBytes first ++ halfBytes count ++ halfBytes power
  | .order first count delta => wordBytes first ++ halfBytes count ++ halfBytes delta
  | .cancel list first count => list :: (wordBytes first ++ halfBytes count)
  | .clear => []
  | .leave => []
  | .restart => []
  | .queryState => []
  | .queryPeer a => [a]
  | .queryBook list index => [list, index]
  | .readLog => []
  | .releaseLog k => halfBytes k

def half2 (hi lo : Byte) : Half := hi ++ lo
def word4 (a b c d : Byte) : Word := a ++ b ++ c ++ d

/-- A request's code and body read back; none where the code is unknown, the body has the wrong length, or a MEASURE has no
form (R148, R155, R165). -/
def decodeRequest (code : Byte) (body : List Byte) : Option Request :=
  match code.toNat, body with
  | 1, [item, monitor, a, b, c, d] => some (.setItem item monitor (word4 a b c d))
  | 2, [] => some .seal
  | 3, [1#8, a, b, c, d, e, f, g, h, i, j] =>
    some (.measure (.train (half2 a b) (half2 c d) (half2 e f) (half2 g h) (half2 i j)))
  | 3, [2#8, a, b, c, d, e, f, g, h, i, j, k, l, m, n, o, p] =>
    some (.measure (.store [half2 a b, half2 c d, half2 e f, half2 g h, half2 i j, half2 k l, half2 m n, half2 o p]))
  | 4, [a, b, c, d] => some (.setTime (word4 a b c d))
  | 5, [a, b, c, d, e, f, g, h] => some (.nominate (word4 a b c d) (half2 e f) (half2 g h))
  | 6, [a, b, c, d, e, f, g, h] => some (.order (word4 a b c d) (half2 e f) (half2 g h))
  | 7, [l, a, b, c, d, e, f] => some (.cancel l (word4 a b c d) (half2 e f))
  | 8, [] => some .clear
  | 9, [] => some .leave
  | 10, [] => some .restart
  | 11, [] => some .queryState
  | 12, [a] => some (.queryPeer a)
  | 13, [l, i] => some (.queryBook l i)
  | 14, [] => some .readLog
  | 15, [a, b] => some (.releaseLog (half2 a b))
  | _, _ => none

/-- The kind byte, detail byte and data of an answer. -/
def Answer.encode : Answer → List Byte
  | .accept clamped => [1, flagByte clamped]
  | .refuse r => [2, byteOf r.code]
  | .data body => 3 :: 0 :: body

/-- The bytes of a REPLY. -/
def Reply.encode (r : Reply) : List Byte := withCheck ([128, r.tag, r.code] ++ r.answer.encode)

/-- The bytes of a SETPOINT. -/
def Setpoint.encode (p : Setpoint) : List Byte :=
  withCheck (129 :: (bytes2 p.command ++ [flagByte p.cooled, byteOf p.state.code]))

/-- A report's kind and payload. -/
def Report.encode : Report → List Byte
  | .stateChange left entered cause => [1, byteOf left.code, byteOf entered.code, byteOf cause.code]
  | .trip ms => [2, monitorSet ms]
  | .tripCleared => [3]
  | .monitorWarn m mode => [4, byteOf (monitorCode m), byteOf mode.code]
  | .held reason n a => [5, byteOf reason.code, byteOf n, byteOf a]
  | .heldEnd => [6]
  | .peerJoined a => [7, byteOf a]
  | .peerReturned a => [8, byteOf a]
  | .peerLost a => [9, byteOf a]
  | .peerDropped a => [10, byteOf a]
  | .addressConflict => [11]
  | .clockFree i => 12 :: bytes4 i
  | .storeCooled entered => [13, flagByte entered]
  | .rxOverrun => [14]
  | .intervalClosed i n => 15 :: (bytes4 i ++ [byteOf n])

/-- The bytes of a REPORT. -/
def NumberedReport.encode (r : NumberedReport) : List Byte :=
  withCheck (130 :: (bytes2 r.number ++ r.report.encode))

/-- The 34 bytes of a delivery record (10.5). -/
def DeliveryRecord.encode (r : DeliveryRecord) : List Byte :=
  bytes4 r.interval ++ signed2 r.target ++ signed4 r.own ++ signed4 r.plant ++ signed4 r.deviation ++ bytes4 r.periods
    ++ [byteOf (flagBits [r.heldSeen, r.trippedSeen, r.clockFreeSeen, r.orderChanged, r.olderDropped]),
        byteOf ((r.cut.map fun c => c.reason.code).getD 0)]
    ++ ((r.cut.map NotedCut.report).getD {}).encode

end Sys2Proof.Machine
end

