-- ==== Sys2Proof/Machine/Book.lean ====
section
/-! DEFINITION. The schedule book: its lists (R31, R32, R36), the target (R38), the cut report's two fields (R39),
agreement and HELD (R40 to R45). -/

namespace Sys2Proof.Machine

/-! ## The lists -/

/-- An entry's last interval. -/
def BookEntry.last (e : BookEntry) : Nat := e.first + e.count - 1

def BookEntry.covers (e : BookEntry) (i : Nat) : Bool := decide (e.first ≤ i) && decide (i ≤ e.last)

/-- An entry covers some interval of the range from `lo` to `hi`. -/
def BookEntry.meets (e : BookEntry) (lo hi : Nat) : Bool := decide (e.first ≤ hi) && decide (lo ≤ e.last)

/-- What stays of one entry outside the range from `lo` to `hi`: nothing, the part before, the part after, or both (R32). -/
def trimEntry (lo hi : Nat) (e : BookEntry) : List BookEntry :=
  if e.meets lo hi then
    (if e.first < lo then [{ e with count := lo - e.first }] else [])
      ++ (if hi < e.last then [{ e with first := hi + 1, count := e.last - hi }] else [])
  else [e]

/-- A list trimmed to a range: no entry covers an interval of it (R32). -/
def trimList (lo hi : Nat) (es : List BookEntry) : List BookEntry := es.flatMap (trimEntry lo hi)

/-- The new entry inserted in order of first interval. -/
def insertEntry (e : BookEntry) : List BookEntry → List BookEntry
  | [] => [e]
  | x :: xs => if e.first < x.first then e :: x :: xs else x :: insertEntry e xs

/-- The entry of a list that covers an interval. -/
def coveringEntry (es : List BookEntry) (i : Nat) : Option BookEntry := es.find? (·.covers i)

/-- At an interval change every entry that ends before the new interval is removed (R36). -/
def purgeList (current : Nat) (es : List BookEntry) : List BookEntry := es.filter fun e => decide (current ≤ e.last)

def Book.list (b : Book) : ListName → List BookEntry
  | .nominations => b.noms
  | .orders => b.orders

def Book.setList (b : Book) (l : ListName) (es : List BookEntry) : Book :=
  match l with
  | .nominations => { b with noms := es }
  | .orders => { b with orders := es }

def ListName.capacity : ListName → Nat
  | .nominations => Config.nominationCapacity
  | .orders => Config.orderCapacity

/-- TOO_LATE: for nominations a first interval not later than the current one, for orders one earlier than it (R33, R34,
R35). -/
def ListName.tooLate (l : ListName) (current first : Nat) : Bool :=
  match l with
  | .nominations => decide (first ≤ current)
  | .orders => decide (first < current)

/-! ## The target and the cut report -/

/-- The target of the current interval: the nomination covering it plus the order covering it, in −3000..+3000; none while
untimed (R38). -/
def deriveTarget (b : Book) (current : Option Nat) : Option Int :=
  current.map fun i =>
    clampPower (((coveringEntry b.noms i).map BookEntry.amount).getD 0
      + ((coveringEntry b.orders i).map BookEntry.amount).getD 0)

/-- The cut report of a trip or a leave: on a train from the nomination covering the current interval and the last loaded
interval, on a store all none (R6, R39, R118). -/
def cutReport (s : State) : CutReport :=
  if s.isTrain then
    match s.clock.current.bind fun i => (coveringEntry s.book.noms i).map fun e => (e, i) with
    | some (e, i) => { first := some e.first, toRun := e.first + e.count - i, last := s.share.lastLoaded }
    | none => { first := none, toRun := 0, last := s.share.lastLoaded }
  else {}

/-! ## Agreement -/

/-- A train entry that is PRESENT or LATE and timed (R21, Agreement). -/
def Entry.countsForAgreement (e : Entry) : Bool :=
  match e.fields with
  | .train f => e.status != .lost && f.interval != Config.untimedCode
  | .store _ => false

/-- An entry with this interval number and this target. -/
def Entry.sharesTarget (e : Entry) (current : Nat) (target : Option Int) : Bool :=
  match e.fields with
  | .train f => f.interval == current && f.target == target
  | .store _ => false

/-- n of R40: the timed train entries PRESENT or LATE, and the station itself. -/
def agreementN (view : List Entry) : Nat := view.countP (·.countsForAgreement) + 1

/-- a of R40: those of them that share the station's interval and target, and the station itself. -/
def agreementA (view : List Entry) (current : Nat) (target : Option Int) : Nat :=
  view.countP (fun e => e.countsForAgreement && e.sharesTarget current target) + 1

/-- HELD is noted in the open interval's record (R141, HELD SEEN). -/
def noteHeld (s : State) : State :=
  { s with account := { s.account with openRec := s.account.openRec.map fun r => { r with heldSeen := true } } }

/-- The book's own values after a judgement on a timed station (R40, R42, R43). -/
def Book.judged (b : Book) (view : List Entry) (current : Nat) : Book :=
  let n := agreementN view
  let a := agreementA view current b.target
  if 2 * a > n then { b with n := n, a := a, agree := true, persistence := 0, held := none }
  else { b with n := n, a := a, agree := false, held := b.held.map fun _ => .disagree }

/-- The report of a judgement: HELD END where AGREE clears HELD (R42). -/
def judgeReport (s : State) (current : Nat) : Option Report :=
  if (s.book.judged s.view current).agree && s.book.held.isSome then some .heldEnd else none

/-- The book judges agreement, in any state from JOINING onward; on an untimed station it counts nothing (R40). The answer
is the state and the report of the judgement. -/
def judgeWith (s : State) : State × Option Report :=
  match s.clock.current with
  | none => (s, none)
  | some i =>
    if s.isSealed then ({ s with book := s.book.judged s.view i }, judgeReport s i) else (s, none)

/-- A judgement whose report is produced at once. -/
def judge (s : State) : State :=
  match judgeWith s with
  | (s', some r) => produce r s'
  | (s', none) => s'

/-- The open interval's record keeps the last target the book derived in it (R141). -/
def noteTarget (t : Option Int) (s : State) : State :=
  match t with
  | none => s
  | some v => { s with account := { s.account with openRec := s.account.openRec.map fun r => { r with target := v } } }

/-- The book derives its target anew at a control period expiry, and judges where it differs from the one it replaces
(R38). -/
def deriveAtExpiry (s : State) : State :=
  let t := deriveTarget s.book s.clock.current
  let s' := noteTarget t { s with book := { s.book with target := t } }
  if t = s.book.target then s' else judge s'

/-- The settle and persistence counts step at a control period expiry, and may set HELD (R41, R42). While HELD stays set the count rises
again from where an interval change put it, up to 3 (log 39). -/
def stepAgreement (s : State) : State :=
  if 0 < s.book.settle then { s with book := { s.book with settle := s.book.settle - 1 } }
  else if s.book.agree then s
  else
    let k := min 3 (s.book.persistence + 1)
    let s' := { s with book := { s.book with persistence := k } }
    if k = 3 ∧ s.book.held = none then
      produce (.held .disagree s.book.n s.book.a)
        (noteHeld { s' with book := { s'.book with held := some .disagree } })
    else s'

/-- The schedule book's part of a control period expiry (R48, first stage). -/
def bookExpiry (s : State) : State := stepAgreement (deriveAtExpiry s)

/-- The schedule book's part of an interval change: the lists are purged, the target derived, the order-changed mark cleared,
and from JOINING onward the settle window starts and agreement is judged (R30, R34, R36, R38, R41). The persistence count becomes 0 as R41
says, also while HELD stays set, for which R42 says that the count stays at 3 (log 39, the model's choice). -/
def bookChange (s : State) (current : Nat) : State × Option Report :=
  let lists := { s.book with noms := purgeList current s.book.noms, orders := purgeList current s.book.orders }
  let b := { lists with target := deriveTarget lists (some current), orderChanged := false }
  if s.isSealed then judgeWith { s with book := { b with settle := 2, persistence := 0 } }
  else ({ s with book := b }, none)

/-- The book at an accepted SEAL of a train: one judgement where the clock is timed, HELD for NO TIME with its report where
it is not (R43, R45). -/
def bookAtSeal (s : State) : State :=
  match s.clock.current with
  | some _ => judge s
  | none => produce (.held .noTime 0 0) (noteHeld { s with book := { s.book with held := some .noTime } })

end Sys2Proof.Machine
end

