-- ==== Sys2Proof/Machine/Account.lean ====
section
/-! DEFINITION. The delivery account: integration by spans (R137 to R139), closing and opening an interval (R140 to R144). -/

namespace Sys2Proof.Machine

/-! ## Spans -/

/-- The energy of a held output over a span, with its kind's sign; a span that would run backward is 0 (R138). -/
def spanEnergy (kind : Kind) (output since upto : Nat) : Int := kind.sign * (output * (upto - since) : Nat)

/-- The station's own kind, as sealed. -/
def State.ownKind (s : State) : Kind := s.inForce.kind.getD .H

/-- Energy is added to the plant accumulator while an interval is open. -/
def Account.addPlant (a : Account) (e : Int) : Account :=
  if a.openRec.isSome then { a with plantAcc := a.plantAcc + e } else a

/-- The station's own energy is added to both accumulators while an interval is open. -/
def Account.addOwn (a : Account) (e : Int) : Account :=
  if a.openRec.isSome then { a with ownAcc := a.ownAcc + e, plantAcc := a.plantAcc + e } else a

/-- The energy since an integration point that may be none. -/
def ownSpan (kind : Kind) (p : Option OwnPoint) (upto : Nat) : Int :=
  match p with
  | none => 0
  | some q => spanEnergy kind q.output q.since upto

/-- A train measurement record is taken: the held output is credited up to its arrival and the record's output held (R137). -/
def accountRecord (output : Nat) (s : State) : State :=
  { s with account := { s.account.addOwn (ownSpan s.ownKind s.account.ownPoint s.now) with
      ownPoint := some ⟨output, s.now⟩ } }

def findPoint (ps : List PeerPoint) (address : Nat) : Option PeerPoint := ps.find? fun p => p.address == address

def dropPoint (ps : List PeerPoint) (address : Nat) : List PeerPoint := ps.filter fun p => p.address != address

/-- A TRAIN STATUS was applied: the span of the address's held output up to the frame's arrival is credited under the held
kind, and the frame's output is held from the later of its arrival and the point (R138). Where there is no point, one starts at the
arrival, also where an interval change came between the arrival and the application, for which R138 says both from the arrival and
from the change (log 37, the model's choice). -/
def accountFrame (address : Nat) (kind : Kind) (output arrival : Nat) (s : State) : State :=
  match findPoint s.account.peerPoints address with
  | none => { s with account := { s.account with peerPoints := s.account.peerPoints ++ [⟨address, output, kind, arrival⟩] } }
  | some p =>
    { s with account := { s.account.addPlant (spanEnergy p.kind p.output p.since arrival) with
        peerPoints := s.account.peerPoints.map fun q =>
          if q.address == address then ⟨address, output, kind, max arrival p.since⟩ else q } }

/-- An address's point ends: its span up to the instant is credited and the point discarded (R138, R139). -/
def accountDrop (address upto : Nat) (s : State) : State :=
  match findPoint s.account.peerPoints address with
  | none => s
  | some p =>
    { s with account := { s.account.addPlant (spanEnergy p.kind p.output p.since upto) with
        peerPoints := dropPoint s.account.peerPoints address } }

/-- The energy of every peer point up to an instant. -/
def peerSpans (ps : List PeerPoint) (upto : Nat) : Int :=
  (ps.map fun p => spanEnergy p.kind p.output p.since upto).sum

/-- Every point, the station's own included, is credited up to the station's instant. -/
def creditAll (s : State) : Account :=
  (s.account.addOwn (ownSpan s.ownKind s.account.ownPoint s.now)).addPlant (peerSpans s.account.peerPoints s.now)

/-- The end of a leave: every partial span is added and every point discarded (R139). -/
def accountLeave (s : State) : State :=
  { s with account := { creditAll s with ownPoint := none, peerPoints := [] } }

/-! ## The open record -/

/-- TRIPPED SEEN is set in the open interval (R141). -/
def noteTripped (s : State) : State :=
  { s with account := { s.account with openRec := s.account.openRec.map fun r => { r with trippedSeen := true } } }

/-- A cut report handed over replaces the one held, with its reason (R141). -/
def noteCut (reason : CutReason) (cut : CutReport) (s : State) : State :=
  { s with account := { s.account with openRec := s.account.openRec.map fun r => { r with cut := some ⟨reason, cut⟩ } } }

/-- One control period at which the share computation ran is counted (R141). -/
def notePeriod (s : State) : State :=
  { s with account := { s.account with openRec := s.account.openRec.map fun r => { r with periods := r.periods + 1 } } }

/-! ## Closing and opening -/

/-- An accumulator in kWh: divided by 36000, rounded half away from zero (R142). -/
def kWh (acc : Int) : Int :=
  if acc < 0 then -(((-acc).toNat + 18000) / 36000 : Nat) else ((acc.toNat + 18000) / 36000 : Nat)

/-- The energy of a target: times 25 for L = 15, 50 for L = 30, 100 for L = 60 (R142). -/
def targetEnergy (interval : Nat) (target : Int) : Int :=
  target * (if interval = 15 then 25 else if interval = 30 then 50 else 100)

/-- The record of an interval that closes, from its accumulators and what was gathered (R142). -/
def completeRecord (r : OpenRecord) (ownAcc plantAcc : Int) (interval : Nat) (orderChanged olderDropped : Bool) : DeliveryRecord :=
  { interval := r.interval
    target := r.target
    own := kWh ownAcc
    plant := kWh plantAcc
    deviation := kWh plantAcc - targetEnergy interval r.target
    periods := r.periods
    heldSeen := r.heldSeen
    trippedSeen := r.trippedSeen
    clockFreeSeen := r.clockFreeSeen
    orderChanged := orderChanged
    olderDropped := olderDropped
    cut := r.cut }

/-- A record joins the tail of the log; from a full log the oldest is removed first (R143). -/
def pushRecord (log : List DeliveryRecord) (r : DeliveryRecord) : List DeliveryRecord :=
  if log.length < Config.logCapacity then log ++ [r] else log.drop 1 ++ [r]

/-- The first two steps of an interval change: the spans are credited and the points move to the change, the open record is
completed and written, the accumulators start at 0. The answer carries the report INTERVAL CLOSED where a record was
written (R140, R142, R143). -/
def accountClose (byFreeRun : Bool) (s : State) : State × Option Report :=
  let c := creditAll s
  let moved := { c with
    ownPoint := c.ownPoint.map fun (p : OwnPoint) => { p with since := s.now }
    peerPoints := c.peerPoints.map fun (p : PeerPoint) => { p with since := s.now } }
  match moved.openRec with
  | none => ({ s with account := { moved with ownAcc := 0, plantAcc := 0 } }, none)
  | some r =>
    let full := !decide (moved.log.length < Config.logCapacity)
    let r' := { r with clockFreeSeen := r.clockFreeSeen || byFreeRun }
    let rec' := completeRecord r' moved.ownAcc moved.plantAcc s.inForce.items.interval s.book.orderChanged full
    let log := pushRecord moved.log rec'
    ({ s with account := { moved with openRec := none, ownAcc := 0, plantAcc := 0, log := log } },
      some (.intervalClosed r.interval log.length))

/-- An interval is opened: its target, and the flags that depend on conditions standing at the opening (R141). -/
def accountOpen (interval : Nat) (byFreeRun : Bool) (s : State) : State :=
  { s with account := { s.account with
      ownAcc := 0
      plantAcc := 0
      openRec := some {
        interval := interval
        target := s.book.target.getD 0
        heldSeen := s.book.held.isSome
        trippedSeen := s.seq.state == .tripped || s.seq.state == .conflict
        clockFreeSeen := byFreeRun || s.clock.free } } }

/-- The account at an accepted SEAL of a train: with no interval open and the clock timed, the current one is opened
(R136, R144). -/
def accountAtSeal (s : State) : State :=
  match s.account.openRec, s.clock.current with
  | none, some i => accountOpen i false s
  | _, _ => s

/-- The interval change: the clock takes the new number, the account closes, the book takes the change, the account opens
the new interval unless the station is in OFFLINE, and a nonzero command makes it the last loaded interval
(R30, R66, R140, R144). -/
def intervalChange (number : Nat) (byFreeRun : Bool) (s : State) : State :=
  let s₁ := { s with clock := { s.clock with current := some number } }
  let (s₂, closed) := accountClose byFreeRun s₁
  let (s₃, judged) := bookChange s₂ number
  let s₄ := if s.isSealed then accountOpen number byFreeRun s₃ else s₃
  let s₅ := if s.share.command = 0 then s₄ else { s₄ with share := { s₄.share with lastLoaded := some number } }
  produceEither closed judged s₅

end Sys2Proof.Machine
end

