-- ==== Sys2Proof/Machine/Caps.lean ====
section
/-! DEFINITION. The caps of a train's upper limit: the cavern envelope (chapter 4), the heat store unit's train side
(chapter 5), the upper limit itself (R49). -/

namespace Sys2Proof.Machine

/-! ## Which entries count (R21) -/

/-- A train entry of this kind. -/
def Entry.isKind (e : Entry) (k : Kind) : Bool :=
  match e.fields with
  | .train f => f.kind == k
  | .store _ => false

/-- The mass flow an entry counts with in the flow reservation of a train of kind `k` (R78). -/
def Entry.reservedFlow (k : Kind) (e : Entry) : Nat :=
  match e.fields with
  | .train f => if f.kind = k ∧ e.relation = .sameCavern then f.massFlow else 0
  | .store _ => 0

/-- The heat flow an entry counts with in the heat reservation of a train of kind `k` linked to `store`; a compressor
advertising COOLED counts 0 (R96). -/
def Entry.reservedHeat (k : Kind) (store : Nat) (e : Entry) : Nat :=
  match e.fields with
  | .train f => if f.kind = k ∧ f.linked = some store ∧ ¬ (k = .C ∧ f.cooled = true) then f.heatFlow else 0
  | .store _ => 0

/-! ## Cavern envelope -/

/-- The pressure P: the held cavern pressure, or none (R72). -/
def heldPressure (s : State) : Option Nat :=
  match s.link.holder with
  | some ⟨.train _ _ p _ _, _⟩ => some p
  | _ => none

/-- The pressure-band cap of a compressor (R73, R75). -/
def bandCapC (rated workMax b p : Nat) : Nat :=
  if workMax ≤ p then 0 else if p + b ≤ workMax then rated else rated * (workMax - p) / b

/-- The pressure-band cap of an expander (R74, R75). -/
def bandCapX (rated workMin b p : Nat) : Nat :=
  if p ≤ workMin then 0 else if workMin + b ≤ p then rated else rated * (p - workMin) / b

/-- The pressure-band cap: 0 while no pressure is held (R72). -/
def bandCap (s : State) : Nat :=
  match heldPressure s, s.inForce.kind with
  | some p, some .C => bandCapC s.inForce.rated (s.inForce.workMax.getD 0) s.inForce.items.softBand p
  | some p, some .X => bandCapX s.inForce.rated (s.inForce.workMin.getD 0) s.inForce.items.softBand p
  | _, _ => 0

/-- The flow budget Fmax = ⌊q / K⌋ (R77). -/
def flowBudget (f : InForce) : Nat := f.items.rateLimit / f.items.coeff

/-- The flow reservation (R78). -/
def flowReservation (s : State) : Nat := (s.view.map (Entry.reservedFlow s.ownKind)).sum

/-- The flow allowance A (R79). -/
def flowAllowance (s : State) : Nat := flowBudget s.inForce - flowReservation s

/-- The rate cap, limited to rated (R80). -/
def rateCap (s : State) : Nat := min (flowAllowance s * s.inForce.items.specific / 100) s.inForce.rated

/-- The native limit condition of a record's pressure: above native max for a compressor, below native min for an expander
(R83). -/
def nativeCondition (f : InForce) (p : Nat) : Bool :=
  match f.kind with
  | some .C => decide (f.items.nativeMax.getD 0 < p)
  | some .X => decide (p < f.items.nativeMin.getD 0)
  | _ => false

/-! ## Heat store unit of a train -/

/-- The entry with relation LINKED STORE, where it supplies allowances: a linked store is configured and the entry is
PRESENT or LATE (R95). -/
def linkedStore (s : State) : Option StoreFields :=
  if s.inForce.items.linked.isSome then
    match s.view.find? fun e => e.relation == .linkedStore with
    | some e =>
      match e.fields with
      | .store f => if e.status = .lost then none else some f
      | .train _ => none
    | none => none
  else none

/-- The heat reservation (R96). -/
def heatReservation (s : State) : Nat :=
  match s.inForce.items.linked with
  | some a => (s.view.map (Entry.reservedHeat s.ownKind a)).sum
  | none => 0

/-- The store cap of an allowance under a heat ratio, limited to rated (R97, R100). -/
def storeCapOf (allowance reserved ratio rated : Nat) : Nat := min ((allowance - reserved) * 100 / ratio) rated

/-- A compressor's store cap; none when the linked store is absent (R97). -/
def storeCapC (s : State) : Option Nat :=
  (linkedStore s).map fun f => storeCapOf f.charge (heatReservation s) s.inForce.items.hc s.inForce.rated

/-- An expander's store cap; 0 when the linked store is absent (R100). -/
def storeCapX (s : State) : Nat :=
  match linkedStore s with
  | some f => storeCapOf f.discharge (heatReservation s) s.inForce.items.hx s.inForce.rated
  | none => 0

/-- The cooled cap (R98). -/
def cooledCap (s : State) : Nat := s.inForce.rated * s.inForce.items.cooledFraction / 100

/-- An expander's quality cap; 0 when the linked store is absent (R101). -/
def qualityCap (s : State) : Nat :=
  match linkedStore s with
  | some f =>
    min (s.inForce.rated * (f.outlet - s.inForce.cold.getD 0) / (s.inForce.hot.getD 0 - s.inForce.cold.getD 0)) s.inForce.rated
  | none => 0

/-- The held measured output, or none. -/
def heldOutput (s : State) : Option Nat :=
  match s.link.holder with
  | some ⟨.train o _ _ _ _, _⟩ => some o
  | _ => none

/-- The held mass flow, or none. -/
def heldMassFlow (s : State) : Option Nat :=
  match s.link.holder with
  | some ⟨.train _ f _ _ _, _⟩ => some f
  | _ => none

/-- The train's heat flow: 0 in cooled mode and while no output is held, at most 5000 (R94). -/
def heatFlow (s : State) : Nat :=
  match heldOutput s, s.inForce.kind with
  | some o, some .C => if s.heat.cooled then 0 else min (o * s.inForce.items.hc / 100) 5000
  | some o, some .X => min (o * s.inForce.items.hx / 100) 5000
  | _, _ => 0

/-- A compressor is to be in cooled mode: its linked store is absent, or its store cap is below m (R98). -/
def wantsCooled (s : State) : Bool :=
  match storeCapC s with
  | none => true
  | some c => decide (c < s.inForce.minLoad)

/-! ## The upper limit -/

/-- The heat store unit's part of the least: for a compressor its cooled cap in cooled mode and its store cap otherwise, for an
expander the lesser of store cap and quality cap (R49). -/
def heatCap (s : State) : Nat :=
  match s.inForce.kind with
  | some .C => if s.heat.cooled then cooledCap s else (storeCapC s).getD s.inForce.rated
  | some .X => min (storeCapX s) (qualityCap s)
  | _ => 0

/-- The least of the caps. -/
def leastCap (s : State) : Nat :=
  min s.inForce.rated (min (bandCap s) (min (rateCap s) (min (heatCap s) s.bank.cap)))

/-- The upper limit U: the least of the caps, or 0 where that is below m (R49). -/
def upperLimit (s : State) : Nat := if leastCap s < s.inForce.minLoad then 0 else leastCap s

end Sys2Proof.Machine
end

