-- ==== Sys2Proof/Machine/HeatStore.lean ====
section
/-! DEFINITION. The heat store unit of a store station: zone classes (R87), classified allowances (R88), published allowances
(R89 to R91). -/

namespace Sys2Proof.Machine

/-- The class of a zone from its new temperature and its class before, by the thresholds in force (R87). -/
def classify (hot cold : Nat) (before : ZoneClass) (t : Nat) : ZoneClass :=
  if hot ≤ t then .hot
  else if t ≤ cold then .cold
  else if hot ≤ t + 10 then
    match before with
    | .hot => .hot
    | _ => .warm
  else if t ≤ cold + 10 then
    match before with
    | .cold => .cold
    | _ => .warm
  else .warm

/-- The zone table after a record: every zone takes its temperature and class together. -/
def classifyZones (hot cold : Nat) : List Zone → List Nat → List Zone
  | z :: zs, t :: ts => ⟨some t, classify hot cold z.cls t⟩ :: classifyZones hot cold zs ts
  | zs, [] => zs
  | [], _ => []

/-- The hot zone count. -/
def hotCount (zs : List Zone) : Nat := zs.countP fun z => z.cls == .hot

/-- An allowance by a zone count: full from 2, half at 1, 0 at 0 (R88). -/
def allowanceOf (count rated : Nat) : Nat := if count = 0 then 0 else if count = 1 then rated / 2 else rated

/-- A store measurement record is taken: the zones are classed, and the counts, classified allowances and outlet temperature
derived (R87, R88). -/
def classifyRecord (zones : List Nat) (s : State) : State :=
  let zs := classifyZones (s.inForce.hot.getD 0) (s.inForce.cold.getD 0) s.heat.zones zones
  { s with heat := { s.heat with
      zones := zs
      hotZones := hotCount zs
      classCharge := allowanceOf (8 - hotCount zs) (s.inForce.items.qc.getD 0)
      classDischarge := allowanceOf (hotCount zs) (s.inForce.items.qd.getD 0)
      outlet := zones.headD 0 } }

/-- A monitor is ACTIVE in mode RETRY. -/
def activeRetry (s : State) (m : Monitor) : Bool :=
  (s.bank.monitor m).cond == .active && s.inForce.modes.get m == .retry

/-- The published allowances, charge and discharge, as the first line of R89 that applies gives them. -/
def publishedOf (s : State) : Nat × Nat :=
  if s.seq.state != .active then (0, 0)
  else if activeRetry s .stale then (min s.heat.heldCharge s.heat.classCharge, min s.heat.heldDischarge s.heat.classDischarge)
  else if activeRetry s .zoneHigh then (0, s.heat.classDischarge)
  else (s.heat.classCharge, s.heat.classDischarge)

/-- A store forms its published allowances again (R89); a train publishes none. -/
def formPublished (s : State) : State :=
  if s.isStore then
    { s with heat := { s.heat with pubCharge := (publishedOf s).1, pubDischarge := (publishedOf s).2 } }
  else s

/-- M_STALE becomes ACTIVE in RETRY on a store: the values the published allowances have are the held ones (R89). -/
def holdPublished (s : State) : State :=
  { s with heat := { s.heat with heldCharge := s.heat.pubCharge, heldDischarge := s.heat.pubDischarge } }

end Sys2Proof.Machine
end

