-- ==== Sys2Proof/Machine/Flags.lean ====
section
/-! DEFINITION. The flags that are computed: AVAILABLE (R51), the cooled flag (R98), MONITOR ACTIVE (R3), and the frames that
carry them (R2, R3, R5). -/

namespace Sys2Proof.Machine

/-- The states in which a train may be AVAILABLE (R51, condition 1). -/
def StationState.mayBeAvailable : StationState → Bool
  | .standby => true
  | .starting => true
  | .running => true
  | .offline => false
  | .joining => false
  | .leaving => false
  | .tripped => false
  | .conflict => false
  | .active => false

/-- The four conditions of AVAILABLE (R51). -/
def availableNow (s : State) : Bool :=
  s.seq.state.mayBeAvailable && s.permit && s.bank.latchedSet.isEmpty && s.share.lastU != 0

/-- AVAILABLE is evaluated. -/
def evalAvailable (s : State) : State := { s with seq := { s.seq with available := availableNow s } }

/-- U is read: the value read is kept as last read, and AVAILABLE is evaluated (R51). -/
def readU (s : State) : State := evalAvailable { s with share := { s.share with lastU := upperLimit s } }

/-- A compressor decides its mode; a change of mode sets or clears the cooled flag and queues STORE COOLED (R98). -/
def decideMode (s : State) : State :=
  if s.inForce.kind = some .C ∧ wantsCooled s ≠ s.heat.cooled then
    produce (.storeCooled (wantsCooled s)) { s with heat := { s.heat with cooled := wantsCooled s } }
  else s

/-- MONITOR ACTIVE: some monitor is ACTIVE or LATCHED (R3). -/
def monitorActive (s : State) : Bool :=
  allMonitors.any fun m => (s.bank.monitor m).cond == .active || (s.bank.monitor m).cond == .latched

/-- The fields of the TRAIN STATUS built from the station as it stands (R2). -/
def trainFieldsNow (s : State) : TrainFields :=
  { kind := s.ownKind
    cavern := s.inForce.cavern
    linked := s.inForce.items.linked
    held := s.book.held.isSome
    cooled := s.heat.cooled
    available := s.seq.available
    clockFree := s.clock.free
    vcode := s.inForce.items.vcode
    interval := intervalField s.clock.current
    target := s.book.target
    command := s.share.command
    output := (heldOutput s).getD 0
    massFlow := (heldMassFlow s).getD 0
    heatFlow := heatFlow s
    upper := upperLimit s
    minLoad := s.inForce.minLoad }

/-- The fields of the STORE STATUS built from the station as it stands (R3). -/
def storeFieldsNow (s : State) : StoreFields :=
  { monitorActive := monitorActive s
    stale := s.link.staleMark
    vcode := s.inForce.items.vcode
    charge := s.heat.pubCharge
    discharge := s.heat.pubDischarge
    outlet := s.heat.outlet
    hotZones := s.heat.hotZones }

/-- The status frame built from the station as it stands. -/
def statusNow (s : State) : StatusFrame :=
  { address := s.inForce.address
    state := some s.seq.state
    fields := if s.isStore then .store (storeFieldsNow s) else .train (trainFieldsNow s) }

/-- A train reads U at frame building (R2, log 20). -/
def readUAtBuild (s : State) : State := if s.isTrain then readU s else s

/-- A status frame is built and made pending, replacing one the bus has not taken (R1, R4). -/
def buildStatus (s : State) : State :=
  let s' := readUAtBuild s
  { s' with bus := { s'.bus with pendingStatus := some (statusNow s') } }

/-- An ALERT is asked for: it is made pending in place of any other, and a pending status frame is rebuilt from the state as
it stands after the change that called for it (R5). -/
def askAlert (reason : AlertReason) (cut : CutReport) (s : State) : State :=
  let s' := { s with bus := { s.bus with pendingAlert := some ⟨s.inForce.address, reason, cut⟩ } }
  if s.bus.pendingStatus.isSome then buildStatus s' else s'

end Sys2Proof.Machine
end

