-- ==== Sys2Proof/Machine/Sequencer.lean ====
section
/-! DEFINITION. The train sequencer's changes: the command and what follows from it (R47, R50, R66, R110), the end of a leave
(R113), the trip (R114), the conflict (R19, R117), the entries to STANDBY. -/

namespace Sys2Proof.Machine

/-- The standby time: 240 minutes for code 0, n × 2 minutes for n (R104). -/
def standbyTime (code : Nat) : Nat := if code = 0 then minutes 240 else minutes (code * 2)

/-! ## The end of a leave -/

/-- Everything that stops, empties or clears when the station enters OFFLINE at the end of a leave; the configuration, clock,
lists, target, last loaded interval, derived limits, zone table, log and report queue are kept (R1, R9, R11, R23, R45, R46,
R86, R99, R113, R122, R156, R157). -/
def standDown (s : State) : State :=
  { s with
    bus := { s.bus with statusTimer := none, pendingStatus := none, rx := [], overrun := false }
    view := []
    book := { s.book with held := none, settle := 0, persistence := 0, agree := true }
    share := { s.share with command := 0, timer := none, wake := 0 }
    heat := { s.heat with cooled := false, pubCharge := 0, pubDischarge := 0 }
    seq := { s.seq with
      available := false, joinTimer := none, startTimer := none, standbyTimer := none, tripHeld := false, leaveCount := 0,
      tripOut := false }
    bank := Bank.cleared s.capAtRated
    link := { s.link with holder := none, staleTimer := none, staleMark := false } }

/-- A leave ends: the cut report goes into ALERT LEAVE and to the account, the partial spans are credited, the station stands
down to OFFLINE, and STATE CHANGE is queued (R113, R139). The SETPOINT of the event is built after this, so its mode is NORMAL
(log 40, the model's choice). -/
def endLeave (s : State) : State :=
  let cut := cutReport s
  let s₁ := accountLeave (noteCut .leave cut s)
  let s₂ := { s₁ with bus := { s₁.bus with pendingAlert := some ⟨s.inForce.address, .leave, cut⟩ } }
  enterState .offline .leaveEnd (standDown s₂)

/-! ## The command -/

/-- The standby timer follows the command in RUNNING: started from its full length when the command becomes 0, stopped when
it becomes nonzero (R110). -/
def standbyOnCommand (old new : Nat) (s : State) : State :=
  if s.seq.state = .running then
    if new = 0 then
      { s with seq := { s.seq with standbyTimer := some (s.now + standbyTime s.inForce.items.standbyCode) } }
    else if old = 0 then { s with seq := { s.seq with standbyTimer := none } }
    else s
  else s

/-- The command changes while the train is loaded: the last loaded interval is updated, the sequencer told, and a command of 0
in LEAVING ends the leave (R66, R110, R113). A command that does not change tells nobody. -/
def setCommand (c : Nat) (s : State) : State :=
  if c = s.share.command then s
  else
    let loaded := if c ≠ 0 ∧ s.clock.current.isSome then s.clock.current else s.share.lastLoaded
    let s₁ := standbyOnCommand s.share.command c { s with share := { s.share with command := c, lastLoaded := loaded } }
    if s.seq.state = .leaving ∧ c = 0 then endLeave s₁ else s₁

/-- The read of U that R50 makes at each event that can change a cap: a compressor decides its mode, U is read, AVAILABLE is
evaluated, and in RUNNING or LEAVING a command above U is cut to it at once, with a SETPOINT. Every event that reads U queues its own
reports before it, and so before a STORE COOLED or STATE CHANGE of the read (log 38, the model's choice). Where the cut ends a leave, the
SETPOINT is built after the cooled flag was cleared and carries mode NORMAL, also where the read had changed to cooled mode
(log 40, the model's choice). -/
def readUpper (s : State) : State :=
  if s.isTrain && s.isSealed then
    let s' := readU (decideMode s)
    if s'.seq.state.loaded && decide (s'.share.lastU < s'.share.command) then sendSetpoint (setCommand s'.share.lastU s') else s'
  else s

/-- R50 after an event that may have changed the monitor cap: the read is made where it did, after the event's own reports (log 38). -/
def readIfCapChanged (capBefore : Nat) (s : State) : State := if s.bank.cap = capBefore then s else readUpper s

/-! ## Leaving RUNNING and LEAVING -/

/-- M_THERMAL or M_MARGIN at a change out of RUNNING or LEAVING: PENDING or ACTIVE becomes CLEAR, and a latched one keeps its
latch with its mark cleared (R127, R133). -/
def unloadMonitor (m : MonState) : MonState :=
  match m.cond with
  | .latched => { m with mark := false }
  | _ => {}

/-- The monitor cap is set to rated where no monitor is ACTIVE in RETRY after an event and one was before it (R129). -/
def releaseCap (wasActive : Bool) (s : State) : State :=
  if wasActive && !anyActiveRetry s && s.isTrain then { s with bank := { s.bank with cap := s.inForce.rated } } else s

/-- The bank at a change of state from RUNNING or LEAVING to any other state (R126, R127). -/
def unloadBank (s : State) : State :=
  releaseCap (anyActiveRetry s)
    { s with bank := { s.bank with
        thermal := unloadMonitor s.bank.thermal
        margin := unloadMonitor s.bank.margin
        blankThermal := none
        blankMargin := none } }

/-- The bank where the state left was RUNNING or LEAVING. -/
def unloadIfLoaded (left : StationState) (s : State) : State := if left.loaded then unloadBank s else s

/-- The sequencer's timers, marks and counts that end with the state they belong to; TRIP OUT is deasserted in every state
but TRIPPED and CONFLICT (R114, R115, R117). -/
def stopSequence (s : State) : State :=
  { s with seq := { s.seq with
      joinTimer := none, startTimer := none, standbyTimer := none, tripHeld := false, leaveCount := 0, tripOut := false } }

/-- The command and the wake counter at a change to a state that holds no command (R47, R67). -/
def dropCommand (s : State) : State := { s with share := { s.share with command := 0, wake := 0 } }

/-- A SETPOINT is sent at a change of state that lowered the command, on a train (R47, R65). -/
def setpointIfFell (old : Nat) (s : State) : State := if old ≠ 0 ∧ s.isTrain then sendSetpoint s else s

/-! ## STANDBY, the trip and the conflict -/

/-- A train enters STANDBY: command and wake counter 0, its timers stopped, AVAILABLE evaluated, STATE CHANGE queued, and a
SETPOINT where the command fell (R47, R107, R110, R111). -/
def enterStandby (cause : Cause) (s : State) : State :=
  let s₁ := unloadIfLoaded s.seq.state (dropCommand (stopSequence s))
  let s₂ := setpointIfFell s.share.command (evalAvailable (enterState .standby cause s₁))
  readIfCapChanged s.bank.cap s₂

/-- A store enters ACTIVE and forms its published allowances (R89, R106, R116). -/
def enterActive (cause : Cause) (s : State) : State :=
  formPublished (evalAvailable (enterState .active cause (stopSequence s)))

/-- The station trips, naming the monitors that latched (R114). The ALERT and the rebuilt status frame stand as after the
trip (R5). -/
def trip (latched : List Monitor) (s : State) : State :=
  let cut := cutReport s
  let s₁ := unloadIfLoaded s.seq.state (dropCommand (stopSequence s))
  let s₂ := { s₁ with seq := { s₁.seq with state := .tripped, tripOut := true } }
  let s₃ := noteTripped (noteCut .trip cut (formPublished (evalAvailable s₂)))
  let s₄ := askAlert .trip cut (setpointIfFell s.share.command s₃)
  produce (.stateChange s.seq.state .tripped .trip) (produce (.trip latched) s₄)

/-- The latches of one record or stale expiry reach the sequencer together: held to the end of the window in JOINING, a trip
in a service state, nothing further in TRIPPED and CONFLICT (R106, R114, R133). -/
def handleLatches (latched : List Monitor) (s : State) : State :=
  if latched.isEmpty then s
  else if s.seq.state = .joining then { s with seq := { s.seq with tripHeld := true } }
  else if s.seq.state.inService then trip latched s
  else s

/-- A frame from the station's own address puts the station in CONFLICT (R19, R117). -/
def addressConflict (s : State) : State :=
  let s₁ := unloadIfLoaded s.seq.state (dropCommand (stopSequence s))
  let s₂ := { s₁ with seq := { s₁.seq with state := .conflict, tripOut := true } }
  let s₃ := noteTripped (formPublished (evalAvailable s₂))
  let s₄ := { s₃ with bus := { s₃.bus with
      pendingAlert := some ⟨s.inForce.address, .conflict, {}⟩, statusTimer := none, pendingStatus := none } }
  let s₅ := setpointIfFell s.share.command s₄
  readIfCapChanged s.bank.cap (produce (.stateChange s.seq.state .conflict .conflict) (produce .addressConflict s₅))

end Sys2Proof.Machine
end

