-- ==== Sys2Proof/Machine/Share.lean ====
section
/-! DEFINITION. The share computation (R52 to R64) and the wake count (R67, R108). -/

namespace Sys2Proof.Machine

/-! ## Direction and error -/

/-- The direction a target calls for (R52). -/
def direction (target : Option Int) : Option Kind :=
  match target with
  | none => none
  | some t => if t < 0 then some .C else if 0 < t then some .X else none

/-- The command an entry counts with in the power sum of a direction's kind (R21, R54). -/
def Entry.summedCommand (k : Kind) (e : Entry) : Nat :=
  match e.fields with
  | .train f => if f.kind = k then f.command else 0
  | .store _ => 0

/-- C without the station's own command. -/
def peerSum (view : List Entry) (k : Kind) : Nat := (view.map (Entry.summedCommand k)).sum

/-- E = |T| − C, with the station's own command in C (R54). -/
def errorOf (target : Option Int) (view : List Entry) (k : Kind) (own : Nat) : Int :=
  ((target.getD 0).natAbs : Int) - (peerSum view k + own : Nat)

/-! ## Eligible trains -/

/-- A train that may take a share, by its address, with the values used for it (R55). -/
structure Party where
  address : Nat
  command : Nat
  upper : Nat
  minLoad : Nat
  deriving DecidableEq, Repr

/-- An entry that R21 counts for headroom (R55). -/
def Entry.party (k : Kind) (e : Entry) : Option Party :=
  match e.fields with
  | .train f =>
    if e.status = .present ∧ f.kind = k ∧ e.state = .running ∧ f.available = true ∧ f.held = false ∧ f.minLoad ≤ f.upper then
      some ⟨e.address, f.command, f.upper, f.minLoad⟩
    else none
  | .store _ => none

/-- The station takes its place among the peers by address. -/
def insertParty (p : Party) : List Party → List Party
  | [] => [p]
  | x :: xs => if p.address < x.address then p :: x :: xs else x :: insertParty p xs

/-- The eligible trains in ascending order of address; `own` is the station itself where it is eligible (R55). -/
def eligible (view : List Entry) (k : Kind) (own : Option Party) : List Party :=
  let peers := view.filterMap (Entry.party k)
  match own with
  | some p => insertParty p peers
  | none => peers

/-! ## Rooms and shares -/

/-- A train's headroom or downroom and its share. -/
structure Alloc where
  address : Nat
  room : Nat
  share : Nat
  deriving DecidableEq, Repr

/-- The trains that have a headroom (E above 0) or a downroom (E below 0), with it (R56). -/
def rooms (rising : Bool) (ps : List Party) : List Alloc :=
  if rising then ps.map fun p => ⟨p.address, p.upper - p.command, 0⟩
  else (ps.filter fun p => p.command != 0).map fun p => ⟨p.address, p.command - p.minLoad, 0⟩

/-- H: the sum of the rooms (R56). -/
def totalRoom (xs : List Alloc) : Nat := (xs.map Alloc.room).sum

/-- The highest-addressed eligible train whose command equals its own minimum stable load (R58). A peer that advertises m = 0 and
command 0 is one by R58's words, though R56 says that a train with command 0 takes no part in a reduction: here it may be the one
that is shed (log 36, the model's choice). -/
def shedAddress (ps : List Party) : Option Nat :=
  ((ps.filter fun p => p.command == p.minLoad).map Party.address).getLast?

/-- One pass of the remainder: one count in ascending order of address to each train whose share is below its room (R59). -/
def remainderPass : Nat → List Alloc → Nat × List Alloc
  | rem, [] => (rem, [])
  | 0, xs => (0, xs)
  | rem + 1, x :: xs =>
    if x.share < x.room then
      let r := remainderPass rem xs
      (r.1, { x with share := x.share + 1 } :: r.2)
    else
      let r := remainderPass (rem + 1) xs
      (r.1, x :: r.2)

/-- The passes start again from the lowest address until the remainder is 0; each gives out at least one count while some
share is below its room, so as many passes as there are counts suffice (R59). -/
def remainderPasses : Nat → Nat → List Alloc → List Alloc
  | 0, _, xs => xs
  | fuel + 1, rem, xs =>
    let r := remainderPass rem xs
    if r.1 = 0 then r.2 else remainderPasses fuel r.1 r.2

/-- The truncated shares ⌊Eb × h / H⌋ (R59). -/
def truncatedShares (bounded : Nat) (xs : List Alloc) : List Alloc :=
  xs.map fun x => { x with share := bounded * x.room / totalRoom xs }

def totalShare (xs : List Alloc) : Nat := (xs.map Alloc.share).sum

/-- Every train's share of the bounded error (R59). -/
def shares (bounded : Nat) (xs : List Alloc) : List Alloc :=
  let ys := truncatedShares bounded xs
  remainderPasses (bounded - totalShare ys) (bounded - totalShare ys) ys

/-- The share of one address; 0 where it has none. -/
def shareOf (xs : List Alloc) (address : Nat) : Nat :=
  ((xs.find? fun x => x.address == address).map Alloc.share).getD 0

/-- The desired value of the eligible train at `own` (R57 to R60). Where E is below 0 and H is 0, R57 leaves every desired value at its
command and R58 sheds a train, since |E| is above H: here the train is shed (log 35, the model's choice). -/
def sharedDesired (e : Int) (ps : List Party) (own command : Nat) : Nat :=
  if e = 0 then command
  else if 0 < e then
    let xs := rooms true ps
    command + shareOf (shares (min e.natAbs (totalRoom xs)) xs) own
  else
    let xs := rooms false ps
    if totalRoom xs < e.natAbs then
      let shed := shedAddress ps
      if shed = some own then 0
      else command - shareOf (shares (totalRoom xs) (xs.filter fun x => some x.address != shed)) own
    else command - shareOf (shares e.natAbs xs) own

/-! ## The stages -/

/-- The desired value of a train out of direction: down by r, and 0 once that is at or below m (R53). -/
def stepDown (command r m : Nat) : Nat := if command - r ≤ m then 0 else command - r

/-- The minimum-stable snap (R61). -/
def snap (m desired : Nat) : Nat :=
  if desired = 0 ∨ m ≤ desired then desired else if (m + 1) / 2 ≤ desired then m else 0

/-- The ramp: a rise is limited to r, or to the greater of m and r from 0 (R62). -/
def ramp (command m r desired : Nat) : Nat :=
  if desired ≤ command then desired else min desired (if command = 0 then max m r else command + r)

/-- The cut to the upper limit (R63). -/
def cutTo (u v : Nat) : Nat := min u v

/-- An entry that closes the cross-run interlock for a train of kind `k` (R64). -/
def Entry.interlocks (k : Kind) (e : Entry) : Bool :=
  match e.fields with
  | .train f => e.relation == .sameCavern && f.kind == k.opposite && f.command != 0
  | .store _ => false

/-- The four conditions of a rise (R64). -/
def mayRise (s : State) (k : Kind) : Bool :=
  s.book.held.isNone && s.seq.available && direction s.book.target == some k && !s.view.any (·.interlocks k)

/-- A rise is taken where the conditions hold, and otherwise the old command is kept, cut to U (R64). -/
def allow (s : State) (k : Kind) (result : Nat) : Nat :=
  if result ≤ s.share.command then result else if mayRise s k then result else cutTo s.share.lastU s.share.command

/-- The station itself as an eligible train: in RUNNING, in direction, AVAILABLE and not HELD (R55). -/
def ownParty (s : State) : Option Party :=
  if s.seq.state = .running ∧ s.seq.available = true ∧ s.book.held = none then
    some ⟨s.inForce.address, s.share.command, s.share.lastU, s.inForce.minLoad⟩
  else none

/-- The desired value of a train in direction (R55, R60). -/
def desiredInDirection (s : State) (k : Kind) : Nat :=
  match ownParty s with
  | none => s.share.command
  | some p =>
    sharedDesired (errorOf s.book.target s.view k s.share.command) (eligible s.view k (some p)) p.address s.share.command

/-- The train is in direction: RUNNING and of the direction's kind (R52). -/
def inDirection (s : State) (k : Kind) : Bool := s.seq.state == .running && direction s.book.target == some k

/-- The share computation: the new command of a train of kind `k` in RUNNING or LEAVING, from the state as the book and the
read of U left it (R52 to R64). -/
def newCommand (s : State) (k : Kind) : Nat :=
  if inDirection s k then
    let d := snap s.inForce.minLoad (desiredInDirection s k)
    allow s k (cutTo s.share.lastU (ramp s.share.command s.inForce.minLoad s.inForce.rampStep d))
  else cutTo s.share.lastU (stepDown s.share.command s.inForce.rampStep s.inForce.minLoad)

/-! ## The wake count and the election -/

/-- The upper limit a starting peer is expected to bring (R21, R67). -/
def Entry.expectedRoom (k : Kind) (e : Entry) : Nat :=
  match e.fields with
  | .train f => if e.status ≠ .lost ∧ f.kind = k ∧ e.state = .starting then f.upper else 0
  | .store _ => 0

/-- The wake excess: E with an own command of 0, less the eligible peers' headrooms and the starting peers' expected ones
(R67). -/
def wakeExcess (s : State) (k : Kind) : Int :=
  errorOf s.book.target s.view k 0
    - (totalRoom (rooms true (eligible s.view k none)) + (s.view.map (Entry.expectedRoom k)).sum : Nat)

/-- The four conditions under which the wake counter rises (R67). -/
def wakeCounts (s : State) (k : Kind) : Bool :=
  direction s.book.target == some k && s.seq.available && s.book.held.isNone && decide (0 < wakeExcess s k)

/-- The wake counter after an expiry in STANDBY (R67). -/
def nextWake (s : State) (k : Kind) : Nat :=
  if wakeCounts s k then min s.inForce.items.wakeDelay (s.share.wake + 1) else 0

/-- A rival of the wake election (R21, R108). -/
def Entry.isRival (k : Kind) (e : Entry) : Bool :=
  match e.fields with
  | .train f => e.status != .lost && f.kind == k && e.state == .standby && f.available && !f.held
  | .store _ => false

/-- The station's address is lower than every rival's (R108). -/
def winsElection (s : State) (k : Kind) : Bool :=
  s.view.all fun e => !e.isRival k || decide (s.inForce.address < e.address)

/-- The entry to STARTING (R109). -/
def enterStarting (s : State) : State :=
  let s₁ := { s with
    share := { s.share with wake := 0, command := 0 }
    seq := { s.seq with startTimer := some (s.now + seconds s.inForce.items.startTime) } }
  evalAvailable (enterState .starting .wake s₁)

/-! ## The expiry -/

/-- The work of the third to fifth stages of R48 in STANDBY. -/
def standbyExpiry (k : Kind) (s : State) : State :=
  let w := nextWake s k
  let s₁ := { s with share := { s.share with wake := w } }
  if w = s.inForce.items.wakeDelay ∧ winsElection s k then enterStarting s₁ else s₁

/-- The work of the third to fifth stages of R48 in RUNNING and LEAVING. -/
def loadedExpiry (k : Kind) (s : State) : State := setCommand (newCommand s k) (notePeriod s)

/-- The second stage of R48: a compressor decides its mode, U is read and AVAILABLE evaluated. -/
def readAtExpiry (s : State) : State := readU (decideMode s)

/-- The stages of a control period expiry of a train, in their order (R48). -/
def expiryStages (k : Kind) (s : State) : State :=
  let s₂ := readAtExpiry (bookExpiry s)
  let s₃ :=
    if s₂.seq.state.loaded then loadedExpiry k s₂
    else if s₂.seq.state = .standby then standbyExpiry k s₂
    else s₂
  sendSetpoint s₃

end Sys2Proof.Machine
end

