-- ==== Sys2Proof/Machine/Bank.lean ====
section
/-! DEFINITION. The monitor bank: judging a record (R123 to R125), the retry cut and its release (R128, R129), the stale
expiry and its end (R130, R131), CLEAR (R133, R134). -/

namespace Sys2Proof.Machine

/-! ## Judging -/

/-- The condition state, counts and mark of a monitor after a judgement with deglitch `d` (R124); ACTIVE is not yet turned
into LATCHED here. -/
def judgeMonitor (d : Nat) (present : Bool) (m : MonState) : MonState :=
  match m.cond, present with
  | .clear, true => if d ≤ 1 then ⟨.active, 0, 0, true⟩ else ⟨.pending, 1, m.release, true⟩
  | .clear, false => { m with mark := false }
  | .pending, true => if d ≤ m.onset + 1 then ⟨.active, 0, 0, true⟩ else { m with onset := m.onset + 1, mark := true }
  | .pending, false => ⟨.clear, 0, m.release, false⟩
  | .active, true => { m with release := 0, mark := true }
  | .active, false => if d ≤ m.release + 1 then ⟨.clear, 0, 0, false⟩ else { m with release := m.release + 1, mark := false }
  | .latched, b => { m with mark := b }

/-- The judgement entered ACTIVE. -/
def becameActive (before after : MonState) : Bool := before.cond != .active && after.cond == .active

/-- Monitor `m` becomes ACTIVE: in LATCH it is LATCHED at once, in RETRY and WARN the report MONITOR WARN is queued (R125). The
answer is the state and whether it latched. -/
def onActive (m : Monitor) (s : State) : State × Bool :=
  match s.inForce.modes.get m with
  | .latch =>
    ({ s with bank := s.bank.setMonitor m { s.bank.monitor m with cond := .latched } }, true)
  | .retry => (produce (.monitorWarn m .retry) s, false)
  | .warn => (produce (.monitorWarn m .warn) s, false)
  | .off => (s, false)

/-- Monitor `m` is judged on a record (R124, R125); one whose mode in force is OFF is not (R123). The answer is the state and
the monitors that latched so far at this record. -/
def judgeAt (m : Monitor) (d : Nat) (present : Bool) (s : State) : State × List Monitor :=
  if s.inForce.modes.get m = .off then (s, [])
  else
    let before := s.bank.monitor m
    let after := judgeMonitor d present before
    let s' := { s with bank := s.bank.setMonitor m after }
    if becameActive before after then
      match onActive m s' with
      | (t, true) => (t, [m])
      | (t, false) => (t, [])
    else (s', [])

/-- M_THERMAL's condition in a record (R123). -/
def thermalCondition (f : InForce) (t : Nat) : Bool :=
  match f.kind with
  | some .C => decide (f.items.thermalHigh < t)
  | some .X => decide (t < f.items.thermalLow)
  | _ => false

/-- M_THERMAL is judged in RUNNING and LEAVING once its blanking has run out (R123, R126). -/
def judgeThermal (t : Nat) (s : State) : State × List Monitor :=
  if s.seq.state.loaded && s.bank.blankThermal.isNone then
    judgeAt .thermal s.inForce.items.dgThermal (thermalCondition s.inForce t) s
  else (s, [])

/-- M_MARGIN likewise (R123, R126). -/
def judgeMargin (v : Nat) (s : State) : State × List Monitor :=
  if s.seq.state.loaded && s.bank.blankMargin.isNone then
    judgeAt .margin s.inForce.items.dgMargin (decide (v < s.inForce.items.marginLow)) s
  else (s, [])

/-- The first stage of R123: each monitor the record concerns is judged. No rule orders the monitors among themselves: here they are
judged in the order of their codes, so the MONITOR WARN of M_THERMAL takes its number before that of M_MARGIN (log 33, the model's
choice). -/
def judgeRecord (r : Measurement) (s : State) : State × List Monitor :=
  match r with
  | .train _ _ p t v =>
    let a := judgeAt .native s.inForce.items.dgNative (nativeCondition s.inForce p) s
    let b := judgeThermal t a.1
    let c := judgeMargin v b.1
    (c.1, a.2 ++ b.2 ++ c.2)
  | .store zones => judgeAt .zoneHigh s.inForce.items.dgZone (zones.any fun z => decide (s.inForce.items.storeMax < z)) s

/-- A record ends the condition of M_STALE: the mark is cleared, an ACTIVE monitor becomes CLEAR, and the monitor cap is
released where none is then ACTIVE in RETRY (R131). -/
def endStale (s : State) : State :=
  let m := s.bank.stale
  let m' := if m.cond = .active then { m with cond := .clear, onset := 0, release := 0, mark := false } else { m with mark := false }
  releaseCap (anyActiveRetry s) { s with bank := { s.bank with stale := m' } }

/-- The second stage of R123: while some monitor is ACTIVE in RETRY the cap becomes the lesser of cap and command, less the
retry step; where the last of them returned to CLEAR it is released (R128, R129). -/
def retryCut (wasActive : Bool) (s : State) : State :=
  if anyActiveRetry s then
    { s with bank := { s.bank with cap := min s.bank.cap s.share.command - s.inForce.items.retryStep } }
  else releaseCap wasActive s

/-- The retry cut is a train's (R128). -/
def retryStage (wasActive : Bool) (s : State) : State := if s.isTrain then retryCut wasActive s else s

/-- The bank's work at the arrival of a record: the end of a stale spell, the judgements, the retry cut, the latches to the
sequencer, the read of U and on a store the published allowances (R123, R131). -/
def bankRecord (r : Measurement) (s : State) : State :=
  let s₁ := endStale s
  let (s₂, latched) := judgeRecord r s₁
  readUpper (formPublished (handleLatches latched (retryStage (anyActiveRetry s₁) s₂)))

/-- A measurement record is taken: the holder is replaced, the stale timer restarted and its mark cleared, and the record
handed to the account, the heat store unit and the bank (R123, R156, R157). -/
def takeRecord (r : Measurement) (s : State) : State :=
  let s₁ := { s with link := { s.link with
      holder := some ⟨r, s.now⟩
      staleTimer := some (s.now + s.inForce.items.staleLimit * s.inForce.p)
      staleMark := false } }
  match r with
  | .train output _ _ _ _ => bankRecord r (accountRecord output s₁)
  | .store zones => bankRecord r (classifyRecord zones s₁)

/-! ## The stale expiry -/

/-- M_STALE judged at the expiry of its timer, by its mode in force (R130). The answer is the state and the latch. -/
def judgeStale (s : State) : State × List Monitor :=
  let m := s.bank.stale
  match s.inForce.modes.stale with
  | .off => (s, [])
  | .latch =>
    if m.cond = .latched then ({ s with bank := { s.bank with stale := { m with mark := true } } }, [])
    else ({ s with bank := { s.bank with stale := ⟨.latched, 0, 0, true⟩ } }, [.stale])
  | .warn =>
    (produce (.monitorWarn .stale .warn) { s with bank := { s.bank with stale := ⟨.active, 0, 0, true⟩ } }, [])
  | .retry =>
    let s₁ := { s with bank := { s.bank with
      stale := ⟨.active, 0, 0, true⟩
      cap := if s.isTrain then min s.bank.cap s.share.command else s.bank.cap } }
    (produce (.monitorWarn .stale .retry) (holdPublished s₁), [])

/-- The stale timer's expiry: the measurements are stale, the bank judges M_STALE, the latch reaches the sequencer, the
published allowances are formed and U is read (R130, R157), so the bank's report takes its number before one of that read (log 38). -/
def staleExpiry (s : State) : State :=
  let s₁ := { s with link := { s.link with staleTimer := none, staleMark := true } }
  let (s₂, latched) := judgeStale s₁
  readUpper (formPublished (handleLatches latched s₂))

/-! ## CLEAR -/

/-- Some latched monitor still presents its condition: its mark is set (R134). -/
def latchedPresent (s : State) : Bool := allMonitors.any fun m => (s.bank.monitor m).cond == .latched && (s.bank.monitor m).mark

/-- A latched monitor whose mark is clear becomes CLEAR with its counts at 0 (R134). -/
def unlatch (m : MonState) : MonState :=
  if m.cond = .latched ∧ m.mark = false then {} else m

/-- Every latched monitor whose condition has gone is unlatched (R116, R134). -/
def unlatchGone (s : State) : State :=
  { s with bank := { s.bank with
      native := unlatch s.bank.native
      thermal := unlatch s.bank.thermal
      margin := unlatch s.bank.margin
      stale := unlatch s.bank.stale
      zoneHigh := unlatch s.bank.zoneHigh } }

/-- The return from TRIPPED at an accepted CLEAR: a train enters STANDBY, a store ACTIVE, TRIP CLEARED and then STATE CHANGE
are queued (R116). -/
def leaveTripped (s : State) : State :=
  let s₁ := produce .tripCleared s
  if s.isStore then enterActive .clear s₁ else enterStandby .clear s₁

/-- An accepted CLEAR: the latched monitors whose conditions have gone are unlatched, TRIPPED is left, and the upper limit and
the published allowances are formed again (R50, R51, R89, R116), the reports of the CLEAR before one of the read of U (log 38). -/
def acceptClear (s : State) : State :=
  let s₁ := unlatchGone s
  let s₂ := if s.seq.state = .tripped then leaveTripped s₁ else s₁
  readUpper (formPublished (evalAvailable s₂))

end Sys2Proof.Machine
end

