-- ==== Sys2Proof/Machine/Seal.lean ====
section
/-! DEFINITION. Configuration and its seal: SET ITEM (R152), the checks and derivations of SEAL (R69, R70, R85, R93, R121,
R153, R154), and the station's state at an accepted SEAL (R105). -/

namespace Sys2Proof.Machine

/-! ## SET ITEM -/

/-- What SET ITEM finds: no such item or choice, or the store with the value and whether the value was brought into range. -/
inductive ItemResult where
  | unknown
  | taken (items : Items) (clamped : Bool)
  deriving DecidableEq, Repr

/-- A numeric item. -/
def takeRange (lo hi : Nat) (v : Int) (put : Nat → Items) : ItemResult :=
  let r := itemRange lo hi v
  .taken (put r.1) r.2

/-- The mode item of a monitor; M_NATIVE stays in LATCH, with CLAMPED for any other mode (R84, R121). -/
def setMode (i : Items) (m : Monitor) (mode : Mode) : ItemResult :=
  match m with
  | .native => .taken { i with modeNative := .latch } (mode != .latch)
  | .thermal => .taken { i with modeThermal := mode } false
  | .margin => .taken { i with modeMargin := some mode } false
  | .stale => .taken { i with modeStale := mode } false
  | .zoneHigh => .taken { i with modeZone := mode } false

/-- The deglitch item of a monitor; M_STALE has none (R121). -/
def setDeglitch (i : Items) (m : Monitor) (v : Int) : ItemResult :=
  match m with
  | .native => takeRange 1 15 v fun n => { i with dgNative := n }
  | .thermal => takeRange 1 15 v fun n => { i with dgThermal := n }
  | .margin => takeRange 1 15 v fun n => { i with dgMargin := n }
  | .zoneHigh => takeRange 1 15 v fun n => { i with dgZone := n }
  | .stale => .unknown

/-- The blanking item of a monitor; only M_THERMAL and M_MARGIN have one (R121). -/
def setBlanking (i : Items) (m : Monitor) (v : Int) : ItemResult :=
  match m with
  | .thermal => takeRange 0 600 v fun n => { i with blankThermal := n }
  | .margin => takeRange 0 600 v fun n => { i with blankMargin := n }
  | .native => .unknown
  | .stale => .unknown
  | .zoneHigh => .unknown

/-- The items that take a monitor byte: 33 mode, 34 deglitch, 35 blanking (10.4). -/
def setMonitorItem (i : Items) (item : Nat) (m : Monitor) (v : Int) : ItemResult :=
  match item with
  | 33 =>
    match modeOfCode v with
    | some mode => setMode i m mode
    | none => .unknown
  | 34 => setDeglitch i m v
  | 35 => setBlanking i m v
  | _ => .unknown

/-- The items that take no monitor, by their numbers (10.4), with the ranges of R151, R93, R68, R85, R104 and R121. -/
def setPlainItem (i : Items) (item : Nat) (v : Int) : ItemResult :=
  match item with
  | 1 => takeRange 0 15 v fun n => { i with address := some n }
  | 2 =>
    match v with
    | 1 => .taken { i with kind := some .C } false
    | 2 => .taken { i with kind := some .X } false
    | 3 => .taken { i with kind := some .H } false
    | _ => .unknown
  | 3 => takeRange 1 4 v fun n => { i with cavern := some n }
  | 4 => takeRange 0 31 v fun n => { i with vcode := n }
  | 5 => takeRange 0 7 v fun n => { i with silence := n }
  | 6 => takeRange 10 600 v fun n => { i with lostHold := n }
  | 7 => takeRange 1 2500 v fun n => { i with rated := some n }
  | 8 => takeRange 1 2500 v fun n => { i with minLoad := some n }
  | 9 => takeRange 1 10000 v fun n => { i with ramp := n }
  | 10 => .taken { i with interval := nearestInterval v } ((nearestInterval v : Int) != v)
  | 11 =>
    if v = 255 then .taken { i with linked := none } false
    else if 0 ≤ v ∧ v ≤ 15 then .taken { i with linked := some v.toNat } false
    else .unknown
  | 12 => takeRange 1 200 v fun n => { i with hc := n }
  | 13 => takeRange 0 100 v fun n => { i with cooledFraction := n }
  | 14 => takeRange 1 200 v fun n => { i with hx := n }
  | 15 => takeRange 0 800 v fun n => { i with xHot := n }
  | 16 => takeRange 0 800 v fun n => { i with xCold := n }
  | 17 => takeRange 0 25000 v fun n => { i with nativeMin := some n }
  | 18 => takeRange 0 25000 v fun n => { i with nativeMax := some n }
  | 19 => takeRange 0 25000 v fun n => { i with workMin := some n }
  | 20 => takeRange 0 25000 v fun n => { i with workMax := some n }
  | 21 => takeRange 0 2000 v fun n => { i with softBand := n }
  | 22 => takeRange 1 5000 v fun n => { i with rateLimit := n }
  | 23 => takeRange 1 1000 v fun n => { i with coeff := n }
  | 24 => takeRange 1 10000 v fun n => { i with specific := n }
  | 25 => takeRange 0 5000 v fun n => { i with qc := some n }
  | 26 => takeRange 0 5000 v fun n => { i with qd := some n }
  | 27 => takeRange 0 800 v fun n => { i with sHot := some n }
  | 28 => takeRange 0 800 v fun n => { i with sCold := some n }
  | 29 => takeRange 0 800 v fun n => { i with storeMax := n }
  | 30 => takeRange 30 1800 v fun n => { i with startTime := n }
  | 31 => takeRange 0 120 v fun n => { i with standbyCode := n }
  | 32 => takeRange 2 60 v fun n => { i with wakeDelay := n }
  | 36 => takeRange 0 800 v fun n => { i with thermalHigh := n }
  | 37 => takeRange 0 800 v fun n => { i with thermalLow := n }
  | 38 => takeRange 0 1000 v fun n => { i with marginLow := n }
  | 39 => takeRange 3 20 v fun n => { i with staleLimit := n }
  | 40 => takeRange 1 500 v fun n => { i with retryStep := n }
  | _ => .unknown

/-- An item number, monitor byte and value: the monitor byte names a monitor for the items that take one and is 0 for the
others (R165). -/
def setItemValue (i : Items) (item monitor : Nat) (v : Int) : ItemResult :=
  if item = 33 ∨ item = 34 ∨ item = 35 then
    match monitorOfCode monitor with
    | some m => setMonitorItem i item m v
    | none => .unknown
  else if monitor = 0 then setPlainItem i item v
  else .unknown

/-! ## SEAL: checks and derivations -/

/-- The required items are set: for every station, and for a train or a store (R154). -/
def requiredSet (i : Items) : Bool :=
  i.address.isSome &&
  match i.kind with
  | none => false
  | some .H => i.qc.isSome && i.qd.isSome && i.sHot.isSome && i.sCold.isSome
  | some _ => i.cavern.isSome && i.rated.isSome && i.minLoad.isSome && i.nativeMin.isSome && i.nativeMax.isSome

/-- The native pair of a train encloses a pressure (R69). -/
def nativePairOk (i : Items) : Bool := i.kind == some .H || decide (i.nativeMin.getD 0 < i.nativeMax.getD 0)

/-- A working limit brought between the native ones; an absent one takes the native limit of its side (R70). -/
def workingLimit (lo hi : Nat) (item : Option Nat) (side : Nat) : Nat := (item.map (clampNat lo hi)).getD side

/-- The effective working limits (R70). -/
def deriveWorking (i : Items) : Nat × Nat :=
  let lo := i.nativeMin.getD 0
  let hi := i.nativeMax.getD 0
  let a := workingLimit lo hi i.workMin lo
  let b := workingLimit lo hi i.workMax hi
  if a < b then (a, b) else (lo, hi)

/-- The derivation of the working limits changed a value (R70). -/
def workingClamped (i : Items) : Bool :=
  let lo := i.nativeMin.getD 0
  let hi := i.nativeMax.getD 0
  let a := workingLimit lo hi i.workMin lo
  let b := workingLimit lo hi i.workMax hi
  a != i.workMin.getD a || b != i.workMax.getD b || !decide (a < b)

/-- The thresholds in force, hot and cold: Thot stays more than 20 above Tcold (R85). -/
def deriveThresholds (hot cold : Nat) : Nat × Nat :=
  if cold + 20 < hot then (hot, cold) else if cold ≤ 779 then (cold + 21, cold) else (800, 779)

/-- The hot and cold threshold items the kind reads: a store's or an expander's. -/
def thresholdItems (i : Items) : Option (Nat × Nat) :=
  match i.kind with
  | some .H => some (i.sHot.getD 0, i.sCold.getD 0)
  | some .X => some (i.xHot, i.xCold)
  | _ => none

/-- The mode in force of each monitor (R121). -/
def deriveModes (i : Items) : Modes :=
  { native := .latch
    thermal := i.modeThermal
    margin := if i.kind = some .X then .off else i.modeMargin.getD .retry
    stale := i.modeStale
    zoneHigh := i.modeZone }

/-- M_MARGIN on an expander was set to anything other than OFF (R121). -/
def modesClamped (i : Items) : Bool := i.kind == some .X && i.modeMargin.isSome && i.modeMargin != some .off

/-- The ramp step r = ⌊ramp × p / 60000⌋, 1 where that comes to 0 (R62). -/
def rampStepOf (i : Items) : Nat := max 1 (i.ramp * periodOf i.vcode / 60000)

/-- Everything a SEAL fixes (R70, R85, R93, R121, R153). -/
def deriveInForce (i : Items) : InForce :=
  { items := i
    minLoad := min (i.minLoad.getD 0) (i.rated.getD 0)
    rampStep := rampStepOf i
    workMin := if i.kind = some .H then none else some (deriveWorking i).1
    workMax := if i.kind = some .H then none else some (deriveWorking i).2
    hot := (thresholdItems i).map fun t => (deriveThresholds t.1 t.2).1
    cold := (thresholdItems i).map fun t => (deriveThresholds t.1 t.2).2
    modes := deriveModes i }

/-- Some derivation of the SEAL changed a value (R70, R85, R93, R121, R153, R154). Raising r to 1 where R62's division gives 0 is not taken
for such a change: R154 and R150 can be read so, while R62 and R153 name no CLAMPED for r (log 41, the model's choice). -/
def sealClamped (i : Items) : Bool :=
  (i.kind != some .H && (workingClamped i || decide (i.rated.getD 0 < i.minLoad.getD 0)))
    || (thresholdItems i).any (fun t => deriveThresholds t.1 t.2 != t)
    || modesClamped i

/-! ## SEAL: the station at the acceptance -/

/-- The parts every kind starts alike: the values in force, JOINING with its join timer, the status timer, the bank, the
holder emptied with its stale timer started, the zone table reset, the cooled flag clear, command, wake counter and last
loaded interval (R1, R46, R86, R99, R105, R122, R154). -/
def startStation (s : State) : State :=
  let f := deriveInForce s.items
  let s₁ := { s with inForce := f }
  { s₁ with
    bus := { s.bus with statusTimer := some (s.now + f.p) }
    share := { s.share with command := 0, wake := 0, lastLoaded := none, timer := if s₁.isTrain then some (s.now + f.p) else none }
    heat := {}
    seq := { (stopSequence s).seq with
      available := false, joinTimer := some (s.now + (f.items.silence + 2) * f.p) }
    bank := Bank.cleared s₁.capAtRated
    link := { s.link with holder := none, staleTimer := some (s.now + f.items.staleLimit * f.p), staleMark := false } }

/-- A train's book, account and first cooled-mode decision at the seal (R43, R45, R99, R144). -/
def sealTrain (s : State) : State := decideMode (accountAtSeal (bookAtSeal s))

/-- A store's clock, book and account at the seal: untimed, empty, as after power-on (R24, R136, R154). -/
def sealStore (s : State) : State :=
  { s with
    clock := {}
    book := { s.book with noms := [], orders := [], target := none }
    account := {} }

/-- The station at an accepted SEAL; its reports are STATE CHANGE, HELD, STORE COOLED in this order, and its first status
frame is built from the station as the seal leaves it (R1, R105, log 26). -/
def acceptSeal (s : State) : State :=
  let s₁ := enterState .joining .sealed (startStation s)
  buildStatus (if s₁.isStore then sealStore s₁ else sealTrain s₁)

end Sys2Proof.Machine
end

