-- ==== Sys2Proof/Machine/Queries.lean ====
section
/-! DEFINITION. The data bodies of QUERY STATE (R158, 10.4), QUERY PEER (R159), QUERY BOOK (R37) and READ LOG (R145). -/

namespace Sys2Proof.Machine

/-- One item of QUERY STATE: field number, value length, value. -/
def fieldItem (number : Nat) (value : List Byte) : List Byte := byteOf number :: byteOf value.length :: value

/-- The address byte; a free value while the item is unset (log 6). -/
def addressByte (s : State) : Byte :=
  match s.items.address with
  | some a => byteOf a
  | none => Config.unsetAddressByte s.free

/-- The kind byte; a free value while the item is unset (log 6). -/
def kindByte (s : State) : Byte :=
  match s.items.kind with
  | some k => byteOf k.code
  | none => Config.unsetKindByte s.free

/-- The held measurement fields, 2 bytes each, none where the holder is empty. -/
def heldFields (s : State) : List Byte :=
  match s.link.holder with
  | none => []
  | some ⟨.train o f p t m, _⟩ => bytes2 o ++ bytes2 f ++ bytes2 p ++ bytes2 t ++ bytes2 m
  | some ⟨.store zones, _⟩ => zones.flatMap bytes2

/-- The time since the last record; 4294967295 where the holder is empty. -/
def sinceRecord (s : State) : List Byte :=
  match s.link.holder with
  | some h => timeField (s.now - h.arrival)
  | none => bytes4 Config.untimedCode

/-- Which timer runs, and the time left on it (field 81). -/
def runningTimer (s : State) : List Byte :=
  match s.seq.joinTimer, s.seq.startTimer, s.seq.standbyTimer with
  | some d, _, _ => 1 :: timeField (d - s.now)
  | none, some d, _ => 2 :: timeField (d - s.now)
  | none, none, some d => 3 :: timeField (d - s.now)
  | none, none, none => 0 :: bytes4 0

/-- The time left on a timer that may be stopped, 0 where it is. -/
def timeLeft (s : State) (timer : Option Nat) : List Byte :=
  match timer with
  | some d => timeField (d - s.now)
  | none => bytes4 0

/-- The fields of every station, the Train Link's own first (R158). -/
def commonFields (s : State) : List Byte :=
  fieldItem 1 [addressByte s] ++ fieldItem 2 [kindByte s] ++ fieldItem 3 [byteOf s.seq.state.code]
    ++ fieldItem 4 [flagByte s.permit] ++ fieldItem 5 [flagByte s.seq.tripOut] ++ fieldItem 6 (bytes2 s.link.faults)
    ++ fieldItem 7 [byteOf s.link.reports.length] ++ fieldItem 8 [flagByte s.link.discarded]
    ++ fieldItem 9 [byteOf s.view.length] ++ fieldItem 10 [flagByte s.link.staleMark] ++ fieldItem 11 (sinceRecord s)
    ++ fieldItem 12 (heldFields s)

/-- Fields 13 to 20 of a train (R158). -/
def trainFields (s : State) : List Byte :=
  fieldItem 13 (bytes2 s.share.command) ++ fieldItem 14 (bytes2 (upperLimit s)) ++ fieldItem 15 [flagByte s.seq.available]
    ++ fieldItem 16 [byteOf ((s.book.held.map HeldReason.code).getD 0)] ++ fieldItem 17 (bytes4 (intervalField s.clock.current))
    ++ fieldItem 18 (bytes4 (intervalField s.clock.pending)) ++ fieldItem 19 [flagByte s.clock.free]
    ++ fieldItem 20 (signed2 (targetField s.book.target))

/-- The cavern envelope's fields (R82). -/
def envelopeFields (s : State) : List Byte :=
  fieldItem 32 (bytes2 (absentField s.inForce.workMin)) ++ fieldItem 33 (bytes2 (absentField s.inForce.workMax))
    ++ fieldItem 34 (bytes2 (absentField (heldPressure s))) ++ fieldItem 35 (bytes2 (flowReservation s))
    ++ fieldItem 36 (bytes2 (flowAllowance s)) ++ fieldItem 37 (bytes2 (rateCap s)) ++ fieldItem 38 (bytes2 (bandCap s))

/-- The zones' fields 48 to 55, from zone 1 (R92). -/
def zoneFields : Nat → List Zone → List Byte
  | _, [] => []
  | n, z :: zs => fieldItem n (bytes2 (absentField z.temp) ++ [byteOf z.cls.code]) ++ zoneFields (n + 1) zs

/-- The heat store unit's fields of a store (R92). -/
def storeFields (s : State) : List Byte :=
  zoneFields 48 s.heat.zones ++ fieldItem 56 [byteOf s.heat.hotZones] ++ fieldItem 57 (bytes2 s.heat.classCharge)
    ++ fieldItem 58 (bytes2 s.heat.classDischarge) ++ fieldItem 59 (bytes2 s.heat.pubCharge)
    ++ fieldItem 60 (bytes2 s.heat.pubDischarge) ++ fieldItem 61 (bytes2 s.heat.outlet)
    ++ fieldItem 62 (bytes2 (absentField s.inForce.hot)) ++ fieldItem 63 (bytes2 (absentField s.inForce.cold))

/-- The allowance a train of kind `k` reads from its linked store. -/
def allowanceRead (s : State) (k : Kind) : Option Nat :=
  (linkedStore s).map fun f => if k = .C then f.charge else f.discharge

/-- The heat reservation in its two bytes. R96 gives it no bound, and one of 65536 or more is a free value (log 32). -/
def reservationField (reserved : Nat) : List Byte :=
  if reserved < 65536 then bytes2 reserved else bytes2 (Config.overlongHeat reserved).toNat

/-- The heat store unit's fields of a train of kind `k` (R103). -/
def heatFields (s : State) (k : Kind) : List Byte :=
  fieldItem 64 [byteOf (linkedField s.items.linked)] ++ fieldItem 65 [flagByte (linkedStore s).isSome]
    ++ fieldItem 66 (bytes2 (absentField (allowanceRead s k)))
    ++ fieldItem 67 (bytes2 (absentField ((linkedStore s).map StoreFields.outlet)))
    ++ fieldItem 68 (reservationField (heatReservation s))
    ++ (if k = .C then
          fieldItem 69 (bytes2 (absentField (storeCapC s))) ++ fieldItem 70 (bytes2 (cooledCap s))
            ++ fieldItem 71 [flagByte s.heat.cooled]
        else
          fieldItem 69 (bytes2 (storeCapX s)) ++ fieldItem 72 (bytes2 (qualityCap s))
            ++ fieldItem 73 (bytes2 (absentField s.inForce.hot)) ++ fieldItem 74 (bytes2 (absentField s.inForce.cold)))
    ++ fieldItem 75 (bytes2 (heatFlow s))

/-- The value of a monitor's field: mode in force, condition state, counts, mark (R135). -/
def monitorValue (s : State) (m : Monitor) : List Byte :=
  let v := s.bank.monitor m
  [byteOf (s.inForce.modes.get m).code, byteOf v.cond.code, byteOf v.onset, byteOf v.release, flagByte v.mark]

/-- The monitors of a train, with their blanking times, and the monitor cap (R135). -/
def trainMonitorFields (s : State) : List Byte :=
  fieldItem 96 (monitorValue s .native)
    ++ fieldItem 97 (monitorValue s .thermal ++ timeLeft s s.bank.blankThermal)
    ++ fieldItem 98 (monitorValue s .margin ++ timeLeft s s.bank.blankMargin)
    ++ fieldItem 99 (monitorValue s .stale) ++ fieldItem 101 (bytes2 s.bank.cap)

/-- The monitors of a store (R135). -/
def storeMonitorFields (s : State) : List Byte :=
  fieldItem 99 (monitorValue s .stale) ++ fieldItem 100 (monitorValue s .zoneHigh)

/-- A train's part of the items: nothing for a store, or while the kind is unset (log 7). -/
def onTrain (k : Option Kind) (items : List Byte) : List Byte := if k = some .C ∨ k = some .X then items else []

/-- The sequencer's fields, with the wake counter on a train (R120). -/
def sequencerFields (s : State) : List Byte :=
  fieldItem 80 [flagByte s.seq.tripHeld] ++ fieldItem 81 (runningTimer s)
    ++ onTrain s.items.kind (fieldItem 82 [byteOf s.share.wake]) ++ fieldItem 83 [monitorSet s.bank.latchedSet]

/-- The flags gathered so far: ORDER CHANGED as the book's mark stands (log 7). -/
def gatheredFlags (s : State) : Byte :=
  match s.account.openRec with
  | some r => byteOf (flagBits [r.heldSeen, r.trippedSeen, r.clockFreeSeen, s.book.orderChanged])
  | none => 0

/-- The account's fields of a train alone (R147). -/
def trainAccountFields (s : State) : List Byte :=
  fieldItem 131 (bytes4 ((s.account.openRec.map OpenRecord.periods).getD 0)) ++ fieldItem 132 [gatheredFlags s]

/-- The account's fields: open interval, energies, records in the log, and on a train what the open record gathered (R147). -/
def accountFields (s : State) : List Byte :=
  fieldItem 128 (bytes4 (intervalField (s.account.openRec.map OpenRecord.interval)))
    ++ fieldItem 129 (signed4 (kWh s.account.ownAcc)) ++ fieldItem 130 (signed4 (kWh s.account.plantAcc))
    ++ onTrain s.items.kind (trainAccountFields s) ++ fieldItem 133 [byteOf s.account.log.length]

/-- The fields of a kind that stand before the sequencer's. -/
def kindFields (s : State) (k : Option Kind) : List Byte :=
  match k with
  | none => []
  | some .H => storeFields s
  | some k => trainFields s ++ envelopeFields s ++ heatFields s k

/-- The monitors of a kind. -/
def monitorFields (s : State) (k : Option Kind) : List Byte :=
  match k with
  | none => []
  | some .H => storeMonitorFields s
  | some _ => trainMonitorFields s

/-- The DATA body of QUERY STATE, by the kind item; with the kind unset, the fields of every station (log 7). Section 10.4 says a
list of items and gives no order: the model's is that of the field numbers, rising (log 31, the model's choice). -/
def queryStateBody (s : State) : List Byte :=
  commonFields s ++ kindFields s s.items.kind ++ sequencerFields s ++ monitorFields s s.items.kind ++ accountFields s

/-- The DATA body of QUERY PEER (R159). -/
def queryPeerBody (s : State) (address : Nat) : List Byte :=
  match s.view.find? fun e => e.address == address with
  | none => [0]
  | some e =>
    [byteOf e.status.code, byteOf e.relation.code] ++ timeField (s.now - e.arrival)
      ++ (if e.status = .lost then timeLeft s e.holdEnd else bytes4 0) ++ statusBody e.address e.state e.fields

/-- The DATA body of QUERY BOOK (R37). -/
def queryBookBody (s : State) (l : ListName) (index : Nat) : List Byte :=
  let es := s.book.list l
  byteOf es.length :: (match es[index]? with
    | some e => bytes4 e.first ++ bytes2 e.count ++ signed2 e.amount
    | none => [])

/-- The DATA body of READ LOG (R145). -/
def readLogBody (s : State) : List Byte :=
  match s.account.log with
  | [] => [0]
  | r :: rs => byteOf (rs.length + 1) :: r.encode

end Sys2Proof.Machine
end

