-- ==== Sys2Proof/Machine/Requests.lean ====
section
/-! DEFINITION. The requests of the train controller: the exchange (R148, R150), what each request does and its reply. -/

namespace Sys2Proof.Machine

/-! ## What each request does

Each answers the station after the request and what its reply says. A refused request changes nothing (R150). -/

/-- The outcome of a request at its block. -/
structure Handled where
  state : State
  answer : Answer
  deriving DecidableEq, Repr

def refuse (code : Refuse) (s : State) : Handled := ⟨s, .refuse code⟩

/-- SET ITEM (R152). -/
def handleSetItem (item monitor : Byte) (value : Word) (s : State) : Handled :=
  match setItemValue s.items item.toNat monitor.toNat value.toInt with
  | .unknown => refuse .unknown s
  | .taken items clamped => if s.isSealed then refuse .badState s else ⟨{ s with items := items }, .accept clamped⟩

/-- SEAL (R69, R105, R154). -/
def handleSeal (s : State) : Handled :=
  if s.isSealed then refuse .badState s
  else if !requiredSet s.items then refuse .incomplete s
  else if !nativePairOk s.items then refuse .incomplete s
  else ⟨acceptSeal s, .accept (sealClamped s.items)⟩

/-- The form of a record is the form of the station's kind (R155). -/
def formFits (form : MeasureForm) (s : State) : Bool :=
  match form with
  | .train .. => s.isTrain
  | .store _ => s.isStore

/-- MEASURE (R155, R156). -/
def handleMeasure (form : MeasureForm) (s : State) : Handled :=
  if !form.wellFormed then refuse .unknown s
  else if !s.isSealed then refuse .badState s
  else if !formFits form s then refuse .badKind s
  else ⟨takeRecord (Measurement.ofForm form) s, .accept (formClamped form)⟩

/-- SET TIME (R25). -/
def handleSetTime (number : Nat) (s : State) : Handled :=
  if !s.isSealed then refuse .badState s
  else if s.isStore then refuse .badKind s
  else ⟨{ s with clock := { s.clock with pending := some (min number Config.lastInterval) } },
    .accept (decide (Config.lastInterval < number))⟩

/-- The gate of NOMINATE, ORDER and CANCEL: BAD_STATE, BAD_KIND, NO_TIME, then TOO_LATE by the list's rule (R33, R34, R35). The
first interval is the one taken (R31). -/
def bookGate (l : ListName) (first : Nat) (s : State) : Option Refuse :=
  if !s.isSealed then some .badState
  else if s.isStore then some .badKind
  else match s.clock.current with
    | none => some .noTime
    | some i => if l.tooLate i first then some .tooLate else none

/-- The range of a request includes the current interval. -/
def coversCurrent (first last : Nat) (s : State) : Bool :=
  match s.clock.current with
  | none => false
  | some i => decide (first ≤ i) && decide (i ≤ last)

/-- The book's list is replaced, unless it would pass its capacity (R32). `mark` says whether the current interval had its
order changed (R34). -/
def replaceList (l : ListName) (es : List BookEntry) (mark clamped : Bool) (s : State) : Handled :=
  if l.capacity < es.length then refuse .bookFull s
  else
    let b := s.book.setList l es
    ⟨{ s with book := { b with orderChanged := s.book.orderChanged || mark } }, .accept clamped⟩

/-- NOMINATE and ORDER: the list is trimmed to the range and the new entry inserted (R32, R33, R34). -/
def handleInsert (l : ListName) (first count : Nat) (amount : Int) (s : State) : Handled :=
  let f := clampFirst first
  let c := clampCount first count
  match bookGate l f s with
  | some r => refuse r s
  | none =>
    replaceList l (insertEntry ⟨f, c, clampPower amount⟩ (trimList f (f + c - 1) (s.book.list l)))
      (l == .orders && coversCurrent f (f + c - 1) s) (rangeClamped first count || clampPower amount != amount) s

/-- CANCEL: the named list is trimmed and nothing inserted (R35). A range that meets no entry changes nothing, the mark
included (log 14). -/
def handleCancel (list : Byte) (first count : Nat) (s : State) : Handled :=
  match listOfCode list.toNat with
  | none => refuse .unknown s
  | some l =>
    let f := clampFirst first
    let c := clampCount first count
    match bookGate l f s with
    | some r => refuse r s
    | none =>
      let es := s.book.list l
      replaceList l (trimList f (f + c - 1) es)
        (l == .orders && coversCurrent f (f + c - 1) s && es.any (·.meets f (f + c - 1))) (rangeClamped first count) s

/-- CLEAR (R116). -/
def handleClear (s : State) : Handled :=
  if !s.isSealed then refuse .badState s
  else if s.seq.state = .tripped ∧ latchedPresent s = true then refuse .badState s
  else ⟨acceptClear s, .accept false⟩

/-- A leave that ends at the acceptance, with its one SETPOINT (R113). -/
def leaveAtOnce (s : State) : State := sendSetpoint (endLeave s)

/-- RUNNING with a command enters LEAVING, the command as it stands (R112). -/
def startLeaving (s : State) : State :=
  evalAvailable (enterState .leaving .leave { s with seq := { s.seq with standbyTimer := none } })

/-- A store in ACTIVE enters LEAVING with its published allowances 0 and the leave count at 0 (R91, R112). -/
def startStoreLeaving (s : State) : State :=
  formPublished (evalAvailable (enterState .leaving .leave { s with seq := { s.seq with leaveCount := 0 } }))

/-- LEAVE, by the state (R112). -/
def handleLeave (s : State) : Handled :=
  match s.seq.state with
  | .offline => refuse .badState s
  | .joining => refuse .badState s
  | .standby => ⟨leaveAtOnce s, .accept false⟩
  | .starting => ⟨leaveAtOnce s, .accept false⟩
  | .running => if s.share.command = 0 then ⟨leaveAtOnce s, .accept false⟩ else ⟨startLeaving s, .accept false⟩
  | .leaving => ⟨s, .accept false⟩
  | .active => ⟨startStoreLeaving s, .accept false⟩
  | .tripped => refuse .badState s
  | .conflict => refuse .badState s

/-- The station after RESTART: as after power-on reset, with the delivery log kept. What the reset does not reach stays: the
time, the PERMIT level, the frame the bus has taken and the record the transmitter has begun, which run to their ends
(R4, R23, R119, R136, R161, R163). -/
def restarted (s : State) : State :=
  { State.reset with
    now := s.now
    permit := s.permit
    free := s.free
    pending := s.pending
    bus := { onBus := s.bus.onBus }
    account := { log := s.account.log }
    link := { sending := s.link.sending } }

/-- RESTART (R119). -/
def handleRestart (s : State) : Handled := ⟨restarted s, .accept false⟩

/-- QUERY STATE: the DATA, and REPORTS DISCARDED cleared; the free values of the unset items are drawn (R158). -/
def handleQueryState (s : State) : Handled :=
  ⟨{ s with free := s.free + 1, link := { s.link with discarded := false } }, .data (queryStateBody s)⟩

/-- QUERY PEER (R159). -/
def handleQueryPeer (address : Byte) (s : State) : Handled := ⟨s, .data (queryPeerBody s address.toNat)⟩

/-- QUERY BOOK (R37, R165). -/
def handleQueryBook (list index : Byte) (s : State) : Handled :=
  match listOfCode list.toNat with
  | none => refuse .unknown s
  | some l => ⟨s, .data (queryBookBody s l index.toNat)⟩

/-- READ LOG (R145). -/
def handleReadLog (s : State) : Handled := ⟨s, .data (readLogBody s)⟩

/-- RELEASE LOG: the lesser of k and the records held leave the head of the log (R146). -/
def handleReleaseLog (k : Nat) (s : State) : Handled :=
  ⟨{ s with account := { s.account with log := s.account.log.drop k } }, .accept (decide (s.account.log.length < k))⟩

/-- The request acts at its block. -/
def handle (r : Request) (s : State) : Handled :=
  match r with
  | .setItem item monitor value => handleSetItem item monitor value s
  | .seal => handleSeal s
  | .measure form => handleMeasure form s
  | .setTime n => handleSetTime n.toNat s
  | .nominate first count power => handleInsert .nominations first.toNat count.toNat power.toInt s
  | .order first count delta => handleInsert .orders first.toNat count.toNat delta.toInt s
  | .cancel list first count => handleCancel list first.toNat count.toNat s
  | .clear => handleClear s
  | .leave => handleLeave s
  | .restart => handleRestart s
  | .queryState => handleQueryState s
  | .queryPeer a => handleQueryPeer a s
  | .queryBook list index => handleQueryBook list index s
  | .readLog => handleReadLog s
  | .releaseLog k => handleReleaseLog k.toNat s

/-! ## The exchange (R148) -/

/-- The record matches the kept request in tag, code and body. -/
def isRepeat (code tag : Byte) (body : List Byte) (s : State) : Bool :=
  match s.link.kept with
  | some k => k.code == code && k.tag == tag && k.body == body
  | none => false

/-- The reply is formed, kept with its request, and owed from now on. -/
def oweReply (code tag : Byte) (body : List Byte) (h : Handled) : State :=
  { h.state with link := { h.state.link with
      kept := some ⟨code, tag, body, ⟨tag, code, h.answer⟩⟩
      owed := some ⟨tag, code, h.answer⟩ } }

/-- The kept reply is owed once more, and the request is not taken again. -/
def resend (s : State) : State := { s with link := { s.link with owed := s.link.kept.map Kept.reply } }

/-- A record with a good check arrives: discarded and counted while a reply is owed, answered from the kept reply where it is a
repeat, and taken otherwise, replacing the kept request (R148). -/
def exchange (code tag : Byte) (body : List Byte) (act : State → Handled) (s : State) : State :=
  if s.link.owed.isSome then countFault s
  else if isRepeat code tag body s then resend s
  else oweReply code tag body (act s)

/-- A request of the table arrives at instant `t`. -/
def request (t : Nat) (tag : Byte) (r : Request) (s : State) : State :=
  exchange r.code tag r.body (handle r) (s.atInstant t)

/-- A record with a good check whose code and body are read from its bytes; one that names no request is refused UNKNOWN
(R148, R165). -/
def goodRecord (code tag : Byte) (body : List Byte) (s : State) : State :=
  match decodeRequest code body with
  | some r => exchange code tag body (handle r) s
  | none => exchange code tag body (refuse .unknown) s

/-- A record as its bytes: a bad check, or no room for a code and a tag, is discarded and counted (R148, log 17). -/
def recordArrival (bytes : List Byte) (s : State) : State :=
  if !checkGood bytes then countFault s
  else match beforeCheck bytes with
    | code :: tag :: body => goodRecord code tag body s
    | _ => countFault s

/-! ## The meanings -/

def execSetItem (t : Nat) (tag item monitor : Byte) (value : Word) (s : State) : Host.Outcome State Fault Refusal :=
  .next (request t tag (.setItem item monitor value) s)

def execSeal (t : Nat) (tag : Byte) (s : State) : Host.Outcome State Fault Refusal := .next (request t tag .seal s)

def execMeasure (t : Nat) (tag : Byte) (form : MeasureForm) (s : State) : Host.Outcome State Fault Refusal :=
  .next (request t tag (.measure form) s)

def execSetTime (t : Nat) (tag : Byte) (number : Word) (s : State) : Host.Outcome State Fault Refusal :=
  .next (request t tag (.setTime number) s)

def execNominate (t : Nat) (tag : Byte) (first : Word) (count power : Half) (s : State) : Host.Outcome State Fault Refusal :=
  .next (request t tag (.nominate first count power) s)

def execOrder (t : Nat) (tag : Byte) (first : Word) (count delta : Half) (s : State) : Host.Outcome State Fault Refusal :=
  .next (request t tag (.order first count delta) s)

def execCancel (t : Nat) (tag list : Byte) (first : Word) (count : Half) (s : State) : Host.Outcome State Fault Refusal :=
  .next (request t tag (.cancel list first count) s)

def execClear (t : Nat) (tag : Byte) (s : State) : Host.Outcome State Fault Refusal := .next (request t tag .clear s)

def execLeave (t : Nat) (tag : Byte) (s : State) : Host.Outcome State Fault Refusal := .next (request t tag .leave s)

def execRestart (t : Nat) (tag : Byte) (s : State) : Host.Outcome State Fault Refusal := .next (request t tag .restart s)

def execQueryState (t : Nat) (tag : Byte) (s : State) : Host.Outcome State Fault Refusal :=
  .next (request t tag .queryState s)

def execQueryPeer (t : Nat) (tag address : Byte) (s : State) : Host.Outcome State Fault Refusal :=
  .next (request t tag (.queryPeer address) s)

def execQueryBook (t : Nat) (tag list index : Byte) (s : State) : Host.Outcome State Fault Refusal :=
  .next (request t tag (.queryBook list index) s)

def execReadLog (t : Nat) (tag : Byte) (s : State) : Host.Outcome State Fault Refusal := .next (request t tag .readLog s)

def execReleaseLog (t : Nat) (tag : Byte) (k : Half) (s : State) : Host.Outcome State Fault Refusal :=
  .next (request t tag (.releaseLog k) s)

end Sys2Proof.Machine
end

