-- ==== Sys2Proof/Machine/Link.lean ====
section
/-! DEFINITION. The train link's other events: repeats, unknown and damaged records (R148), the transmitter (R149, R161), power-on
reset (R163). -/

namespace Sys2Proof.Machine

/-- The train controller sends the kept request's record again: discarded and counted while a reply is owed, answered from the
kept reply otherwise. With no request kept there is no such record (R148, log 3). -/
def repeatKept (s : State) : State :=
  match s.link.kept with
  | some k => exchange k.code k.tag k.body (refuse .unknown) s
  | none => s

def execRepeatRequest (t : Nat) (s : State) : Host.Outcome State Fault Refusal := .next (repeatKept (s.atInstant t))

/-- A record with a good check, given by its code, tag and body (R148, R165). -/
def execUnknownRequest (t : Nat) (code tag : Byte) (body : List Byte) (s : State) : Host.Outcome State Fault Refusal :=
  .next (goodRecord code tag body (s.atInstant t))

/-- A record given by its bytes (R148, R165). -/
def execLinkRecordDiscarded (t : Nat) (bytes : List Byte) (s : State) : Host.Outcome State Fault Refusal :=
  .next (recordArrival bytes (s.atInstant t))

/-- The idle transmitter's choice: an owed reply, then the pending SETPOINT, then the head report; it begins that record, and the
SETPOINT or report it took is no longer waiting (R149, R161). -/
def transmit (s : State) : State :=
  match s.link.sending with
  | some _ => s
  | none =>
    match s.link.owed with
    | some r => { s with link := { s.link with sending := some ⟨true, r.encode⟩ } }
    | none =>
      match s.link.setpoint with
      | some p => { s with link := { s.link with sending := some ⟨false, p.encode⟩, setpoint := none } }
      | none =>
        match s.link.reports with
        | r :: rs => { s with link := { s.link with sending := some ⟨false, r.encode⟩, reports := rs } }
        | [] => s

def execLinkTransmit (t : Nat) (s : State) : Host.Outcome State Fault Refusal := .next (transmit (s.atInstant t))

/-- The record being sent has gone out: the transmitter is idle, and a reply that went out is no longer owed (R148, R149). -/
def recordSent (s : State) : State :=
  match s.link.sending with
  | none => s
  | some r => { s with link := { s.link with sending := none, owed := if r.isReply then none else s.link.owed } }

def execLinkRecordSent (t : Nat) (s : State) : Host.Outcome State Fault Refusal := .next (recordSent (s.atInstant t))

/-- Power-on reset: every block in its power-on state. The model's time, its counter of free values and its queue go on, and the
PERMIT line has its outside level (R163, log 18). -/
def poweredOn (s : State) : State :=
  { State.reset with now := s.now, permit := s.permit, free := s.free, pending := s.pending }

def execPowerOnReset (t : Nat) (s : State) : Host.Outcome State Fault Refusal := .next (poweredOn (s.atInstant t))

end Sys2Proof.Machine
end

