-- ==== Sys2Proof/Machine/Lines.lean ====
section
/-! DEFINITION. The discrete lines and the interval clock: PERMIT (R107, R109, R111, R162), BOUNDARY (R24 to R29), the free-run
deadline and advances (R28). -/

namespace Sys2Proof.Machine

/-! ## PERMIT -/

/-- The removal of PERMIT moves STARTING and RUNNING to STANDBY and ends a leave in LEAVING; in every other state only AVAILABLE
is evaluated (R107, R109, R111). -/
def permitRemoved (s : State) : State :=
  match s.seq.state with
  | .starting => enterStandby .permit s
  | .running => enterStandby .permit s
  | .leaving => if s.isTrain then setpointIfFell s.share.command (endLeave { s with share := { s.share with command := 0 } }) else evalAvailable s
  | .offline => evalAvailable s
  | .joining => evalAvailable s
  | .standby => evalAvailable s
  | .tripped => evalAvailable s
  | .conflict => evalAvailable s
  | .active => evalAvailable s

/-- A change of the PERMIT level; a level that is already there is no change (R162). -/
def permitTo (level : Bool) (s : State) : State :=
  if level = s.permit then s
  else if level then evalAvailable { s with permit := true }
  else permitRemoved { s with permit := false }

def execPermitChange (t : Nat) (level : Bool) (s : State) : Host.Outcome State Fault Refusal :=
  .next (permitTo level (s.atInstant t))

/-! ## The interval clock -/

/-- The number after this one; from 4294967294 it is 0 (R27). -/
def nextInterval (i : Nat) : Nat := if Config.lastInterval ≤ i then 0 else i + 1

/-- The number an accepted pulse or an advance sets: the pending number where one is held, otherwise the next one (R27, R28). -/
def numberAfter (c : Clock) (current : Nat) : Nat := c.pending.getD (nextInterval current)

/-- The clock after an accepted pulse: it is the last accepted pulse, the pending number is used, CLOCK FREE is clear and no
free-run advance stands since it (R26, R27, R29). -/
def Clock.pulsed (c : Clock) (now : Nat) : Clock :=
  { c with pending := none, lastPulse := some now, lastAdvance := none, free := false }

/-- A pulse less than L/2 after an instant. -/
def within (s : State) (instant : Option Nat) : Bool :=
  decide (2 * (s.now - instant.getD 0) < s.inForce.intervalMs)

/-- An accepted pulse that is an interval change (R26, R27, R29, R30). -/
def pulseChange (number : Nat) (s : State) : State := intervalChange number false { s with clock := s.clock.pulsed s.now }

/-- A BOUNDARY pulse (R24, R26, R27, R29). -/
def boundary (s : State) : State :=
  if s.isStore then s
  else match s.clock.current with
    | none =>
      match s.clock.pending with
      | none => s
      | some n => pulseChange n s
    | some i =>
      if s.clock.free then
        if within s s.clock.lastAdvance && s.clock.pending.isNone then { s with clock := s.clock.pulsed s.now }
        else pulseChange (numberAfter s.clock i) s
      else if within s s.clock.lastPulse then s
      else pulseChange (numberAfter s.clock i) s

def execBoundaryPulse (t : Nat) (s : State) : Host.Outcome State Fault Refusal := .next (boundary (s.atInstant t))

/-- One free-run advance at the station's instant: the number advances or the pending one is applied, the instant is the last
advance, CLOCK FREE is set, and it is an interval change; the report is queued where the flag was clear (R28). -/
def advance (current : Nat) (s : State) : State :=
  let n := numberAfter s.clock current
  let s₁ := { s with clock := { s.clock with pending := none, lastAdvance := some s.now, free := true } }
  intervalChange n true (if s.clock.free then s₁ else produce (.clockFree n) s₁)

/-- The deadline 1.5 × L after the last accepted pulse (R28), with the L in force. R24 does not say whether a deadline that a pulse
set before a SEAL moves where that SEAL changes L: here it does (log 34, the model's choice). -/
def freeRunDue (s : State) : Option Nat := s.clock.lastPulse.map fun p => p + s.inForce.intervalMs * 3 / 2

/-- The next whole L after the last accepted pulse that lies after the last advance (R28), with the L in force; an advance still to
come at a SEAL that changes L moves with it (log 34, the model's choice). -/
def nextAdvanceDue (s : State) : Option Nat :=
  match s.clock.lastPulse, s.clock.lastAdvance with
  | some p, some a => some (p + ((a - p) / s.inForce.intervalMs + 1) * s.inForce.intervalMs)
  | _, _ => none

/-- No pulse within 1.5 × L: the clock enters free run. On an untimed clock, in free run, or on a store there is no such
deadline (R28, log 3). -/
def freeRunStart (s : State) : State :=
  match s.clock.current, freeRunDue s with
  | some i, some d => if s.clock.free || s.isStore then s else advance i (s.atInstant d)
  | _, _ => s

def execFreeRunDeadline (s : State) : Host.Outcome State Fault Refusal := .next (freeRunStart s)

/-- A further whole L in free run (R28). -/
def freeRunOn (s : State) : State :=
  match s.clock.current, nextAdvanceDue s with
  | some i, some d => if s.clock.free && !s.isStore then advance i (s.atInstant d) else s
  | _, _ => s

def execFreeRunAdvance (s : State) : Host.Outcome State Fault Refusal := .next (freeRunOn s)

end Sys2Proof.Machine
end

