-- ==== Sys2Proof/Machine/BusEvents.lean ====
section
/-! DEFINITION. The coordination bus and the station view: arrivals and their tags (R7 to R10), the application of frames
(R11 to R13, R17, R18), the taking and the end of a transmission (R4, R5). -/

namespace Sys2Proof.Machine

/-! ## Arrivals -/

def findEntry (view : List Entry) (address : Nat) : Option Entry := view.find? fun e => e.address == address

def Frame.address : Frame → Nat
  | .status f => f.address
  | .alert a => a.address

/-- Test 4 of R7: a train's linked store sends a STORE STATUS, or an ALERT and its entry is of kind H. -/
def isLinkedFrame (f : Frame) (s : State) : Bool :=
  s.isTrain && s.inForce.items.linked == some f.address &&
  match f with
  | .status ⟨_, _, .store _⟩ => true
  | .status ⟨_, _, .train _⟩ => false
  | .alert a =>
    match findEntry s.view a.address with
    | some e =>
      match e.fields with
      | .store _ => true
      | .train _ => false
    | none => false

/-- Test 5 of R7: a TRAIN STATUS of the train's own cavern group, or an ALERT from an address whose entry is one. The group is
compared as received (log 21). -/
def isCavernFrame (f : Frame) (s : State) : Bool :=
  s.isTrain &&
  match f with
  | .status ⟨_, _, .train g⟩ => g.cavern == s.inForce.cavern
  | .status ⟨_, _, .store _⟩ => false
  | .alert a =>
    match findEntry s.view a.address with
    | some e =>
      match e.fields with
      | .train g => g.cavern == s.inForce.cavern
      | .store _ => false
    | none => false

/-- The tag of a valid frame from another address (R7). -/
def tagOf (f : Frame) (s : State) : Relation :=
  if isLinkedFrame f s then .linkedStore else if isCavernFrame f s then .sameCavern else .other

/-- A tagged frame joins the tail of the receive queue, or is dropped with one RX OVERRUN for each overrun period (R9, R10). -/
def enqueue (f : Frame) (s : State) : State :=
  if s.bus.rx.length < Config.rxCapacity then
    { s with bus := { s.bus with rx := s.bus.rx ++ [⟨f, tagOf f s, s.now⟩] } }
  else if s.bus.overrun then s
  else produce .rxOverrun { s with bus := { s.bus with overrun := true } }

/-- A frame that passes the check and names a known kind: from the own address it is an address conflict, which acts in every
state from JOINING onward but CONFLICT, and otherwise it is queued (R7, R19). -/
def receiveFrame (f : Frame) (s : State) : State :=
  if f.address = s.inForce.address then
    if s.seq.state = .conflict then s else addressConflict s
  else enqueue f s

/-- A frame completes on the bus. The bus interface takes in frames from the seal until OFFLINE (R7). -/
def arrival (bytes : List Byte) (s : State) : State :=
  if s.isSealed then
    match decodeFrame bytes with
    | .checkBad => s
    | .unknownKind => s
    | .frame f => receiveFrame f s
  else s

def execFrameArrival (t : Nat) (bytes : List Byte) (s : State) : Host.Outcome State Fault Refusal :=
  .next (arrival bytes (s.atInstant t))

/-! ## Application -/

/-- The view removes the head frame; the overrun mark is cleared when that leaves the queue empty (R9, R10). -/
def removeHead (s : State) : State :=
  { s with bus := { s.bus with rx := s.bus.rx.tail, overrun := s.bus.overrun && !s.bus.rx.tail.isEmpty } }

/-- An entry put in its place by address, replacing the one of its address (R11, R12). -/
def putEntry (e : Entry) : List Entry → List Entry
  | [] => [e]
  | x :: xs =>
    if e.address < x.address then e :: x :: xs
    else if e.address = x.address then e :: xs
    else x :: putEntry e xs

/-- An entry changed in place. -/
def updateEntry (view : List Entry) (address : Nat) (f : Entry → Entry) : List Entry :=
  view.map fun e => if e.address == address then f e else e

/-- The entry a status frame makes: the frame's fields clamped, its arrival time and tag, PRESENT. A state code that names no state
leaves the previous state, or OFFLINE in a new entry (R11, R12, R13). -/
def entryFrom (f : StatusFrame) (tag : Relation) (arrival : Nat) (old : Option Entry) : Entry :=
  { address := f.address
    state := f.state.getD ((old.map Entry.state).getD .offline)
    fields := f.fields.clamp
    arrival := arrival
    relation := tag
    status := .present
    holdEnd := none }

/-- The report of the view at the application of a status frame (R11, R12). -/
def applyReport (address : Nat) (old : Option Entry) : Option Report :=
  match old with
  | none => some (.peerJoined address)
  | some e => if e.status = .lost then some (.peerReturned address) else none

def produceOpt (r : Option Report) (s : State) : State :=
  match r with
  | some r => produce r s
  | none => s

/-- The view hands an applied status frame on, on a train: a TRAIN STATUS to the account and the book, a STORE STATUS that changed
a train entry to the account (R12, R138). -/
def handOn (f : StatusFrame) (old : Option Entry) (arrival : Nat) (s : State) : State :=
  match f.fields.clamp, old.map Entry.fields with
  | .train g, _ => judge (accountFrame f.address g.kind g.output arrival s)
  | .store _, some (.train _) => accountDrop f.address arrival s
  | .store _, _ => s

/-- A status frame is applied to its sender's entry (R11, R12, R13). -/
def applyStatus (f : StatusFrame) (tag : Relation) (arrival : Nat) (s : State) : State :=
  let old := findEntry s.view f.address
  let s₁ := produceOpt (applyReport f.address old) { s with view := putEntry (entryFrom f tag arrival old) s.view }
  readUpper (if s.isTrain then handOn f old arrival s₁ else s₁)

/-- The view takes the head of the queue where it is a status frame; otherwise there is no such event (log 3). -/
def applyHeadStatus (s : State) : State :=
  match s.bus.rx with
  | ⟨.status f, tag, arrival⟩ :: _ => applyStatus f tag arrival (removeHead s)
  | _ => s

def execApplyStatusFrame (t : Nat) (s : State) : Host.Outcome State Fault Refusal := .next (applyHeadStatus (s.atInstant t))

/-- What an ALERT TRIP or LEAVE does to the fields of an entry (R17). -/
def Fields.alerted : Fields → Fields
  | .train f => .train { f with available := false }
  | .store f => .store { f with charge := 0, discharge := 0 }

/-- The advertised state an ALERT TRIP or LEAVE sets (R17). -/
def alertedState : AlertReason → StationState
  | .trip => .tripped
  | .leave => .leaving
  | .conflict => .conflict

/-- An ALERT TRIP or LEAVE is applied; without an entry it does nothing (R11, R17). -/
def applyAlert (a : Alert) (s : State) : State :=
  match findEntry s.view a.address with
  | none => s
  | some _ =>
    readUpper { s with view := updateEntry s.view a.address fun e =>
      { e with state := alertedState a.reason, fields := e.fields.alerted } }

/-- The view takes the head of the queue where it is an ALERT TRIP or LEAVE. -/
def applyHeadAlert (s : State) : State :=
  match s.bus.rx with
  | ⟨.alert a, _, _⟩ :: _ => if a.reason = .conflict then s else applyAlert a (removeHead s)
  | _ => s

def execApplyAlert (t : Nat) (s : State) : Host.Outcome State Fault Refusal := .next (applyHeadAlert (s.atInstant t))

/-- The end of a lost hold started now (R16). -/
def holdFromNow (s : State) : Option Nat := some (s.now + seconds s.inForce.items.lostHold)

/-- An entry becomes LOST, or stays so, and its lost hold starts from its full length; PEER LOST is queued where it was not LOST
(R15, R18). Where the read of U that follows changes a compressor's mode or ends a leave, R160 lets either report take its number first:
here PEER LOST does (log 38, the model's choice). -/
def loseEntry (e : Entry) (s : State) : State :=
  let s₁ := { s with view := updateEntry s.view e.address fun x => { x with status := .lost, holdEnd := holdFromNow s } }
  readUpper (if e.status = .lost then s₁ else produce (.peerLost e.address) s₁)

/-- An ALERT CONFLICT is applied; without an entry it does nothing (R11, R18). -/
def applyConflict (a : Alert) (s : State) : State :=
  match findEntry s.view a.address with
  | none => s
  | some e => loseEntry e s

/-- The view takes the head of the queue where it is an ALERT CONFLICT. -/
def applyHeadConflict (s : State) : State :=
  match s.bus.rx with
  | ⟨.alert a, _, _⟩ :: _ => if a.reason = .conflict then applyConflict a (removeHead s) else s
  | _ => s

def execApplyAlertConflict (t : Nat) (s : State) : Host.Outcome State Fault Refusal :=
  .next (applyHeadConflict (s.atInstant t))

/-! ## Sending -/

/-- The idle medium takes the pending ALERT, or else the pending status frame; what it takes is no longer pending (R4, R5). -/
def takeFrame (s : State) : State :=
  match s.bus.onBus, s.bus.pendingAlert, s.bus.pendingStatus with
  | some _, _, _ => s
  | none, some a, _ => { s with bus := { s.bus with onBus := some a.encode, pendingAlert := none } }
  | none, none, some f => { s with bus := { s.bus with onBus := some f.encode, pendingStatus := none } }
  | none, none, none => s

def execBusTakeFrame (t : Nat) (s : State) : Host.Outcome State Fault Refusal := .next (takeFrame (s.atInstant t))

/-- A frame of the station has run to its end; the medium is idle again (R4). -/
def endTransmission (s : State) : State := { s with bus := { s.bus with onBus := none } }

def execFrameTransmissionEnd (t : Nat) (s : State) : Host.Outcome State Fault Refusal :=
  .next (endTransmission (s.atInstant t))

end Sys2Proof.Machine
end

