-- ==== Sys2Proof/Machine/Timers.lean ====
section
/-! DEFINITION. The expiries of the station's timers and of the entries' deadlines. Each happens at its own deadline, or at the
station's instant where that is later; a timer that is stopped has no expiry, and the command then changes nothing (log 1, 3). -/

namespace Sys2Proof.Machine

/-! ## Status timer -/

/-- A store's leave ends: the station enters OFFLINE with ALERT LEAVE asked for; no cut report and no SETPOINT (R91, R113). -/
def endStoreLeave (s : State) : State := endLeave s

/-- The expiry's work: a new status frame, or in a leaving store the count of expiries and at the third the end of the leave
(R1, R91). -/
def statusWork (s : State) : State :=
  if s.isStore && s.seq.state == .leaving then
    let s₁ := { s with seq := { s.seq with leaveCount := s.seq.leaveCount + 1 } }
    if 3 ≤ s₁.seq.leaveCount then endStoreLeave s₁ else buildStatus s₁
  else buildStatus s

/-- The status timer expires and runs on by p (R1). -/
def statusExpiry (s : State) : State :=
  match s.bus.statusTimer with
  | none => s
  | some d =>
    let s₁ := s.atInstant d
    statusWork { s₁ with bus := { s₁.bus with statusTimer := some (d + s.inForce.p) } }

def execStatusTimerExpiry (s : State) : Host.Outcome State Fault Refusal := .next (statusExpiry s)

/-! ## Entries -/

/-- The period q of an entry, from the code of its last status frame (1.4). -/
def Entry.q (e : Entry) : Nat :=
  match e.fields with
  | .train f => periodOf f.vcode
  | .store f => periodOf f.vcode

/-- A PRESENT entry's LATE deadline, 1.5 × q after its last frame's arrival (R14). -/
def Entry.lateDue (e : Entry) : Nat := e.arrival + e.q * 3 / 2

/-- An entry's LOST deadline, (s+2) × q after its last frame's arrival (R15). -/
def Entry.lostDue (e : Entry) (silence : Nat) : Nat := e.arrival + (silence + 2) * e.q

/-- The LATE deadline of an address runs out (R14). -/
def lateExpiry (address : Nat) (s : State) : State :=
  match findEntry s.view address with
  | none => s
  | some e =>
    if e.status = .present then
      let s₁ := s.atInstant e.lateDue
      readUpper { s₁ with view := updateEntry s₁.view address fun x => { x with status := .late } }
    else s

def execLateDeadline (address : Nat) (s : State) : Host.Outcome State Fault Refusal := .next (lateExpiry address s)

/-- The LOST deadline of an address runs out (R15). -/
def lostExpiry (address : Nat) (s : State) : State :=
  match findEntry s.view address with
  | none => s
  | some e => if e.status = .lost then s else loseEntry e (s.atInstant (e.lostDue s.inForce.items.silence))

def execLostDeadline (address : Nat) (s : State) : Host.Outcome State Fault Refusal := .next (lostExpiry address s)

/-- An entry is freed: it leaves the table, PEER DROPPED is queued, the account ends its integration and U is read
(R16, R50, R139). PEER DROPPED takes its number before a report of that read (log 38, the model's choice). -/
def freeEntry (address : Nat) (s : State) : State :=
  readUpper (accountDrop address s.now
    (produce (.peerDropped address) { s with view := s.view.filter fun e => e.address != address }))

/-- The lost hold of an address runs out (R16). -/
def holdExpiry (address : Nat) (s : State) : State :=
  match findEntry s.view address with
  | none => s
  | some e =>
    match e.status, e.holdEnd with
    | .lost, some d => freeEntry address (s.atInstant d)
    | _, _ => s

def execLostHoldExpiry (address : Nat) (s : State) : Host.Outcome State Fault Refusal := .next (holdExpiry address s)

/-! ## Share timer -/

/-- The share timer of a train expires and runs on by p (R46, R48). -/
def controlExpiry (s : State) : State :=
  match s.share.timer, s.inForce.kind with
  | some d, some k =>
    if s.isTrain then
      let s₁ := s.atInstant d
      expiryStages k { s₁ with share := { s₁.share with timer := some (d + s.inForce.p) } }
    else s
  | _, _ => s

def execControlPeriodExpiry (s : State) : Host.Outcome State Fault Refusal := .next (controlExpiry s)

/-! ## Sequencer timers -/

/-- The end of the join window: TRIPPED where a monitor is latched, otherwise STANDBY or ACTIVE (R106). -/
def endWindow (s : State) : State :=
  if s.bank.latchedSet.isEmpty then
    if s.isStore then enterActive .joinEnd s else enterStandby .joinEnd s
  else trip s.bank.latchedSet s

def joinExpiry (s : State) : State :=
  match s.seq.joinTimer with
  | none => s
  | some d => if s.seq.state = .joining then endWindow (s.atInstant d) else s

def execJoinTimerExpiry (s : State) : Host.Outcome State Fault Refusal := .next (joinExpiry s)

/-- A blanking timer as it is started: a time of 0 blanks nothing (R126). -/
def blankingFrom (s : State) (time : Nat) : Option Nat := if time = 0 then none else some (s.now + seconds time)

/-- The start is done: RUNNING with command 0, the standby timer from its full length, the blanking timers started (R109, R110,
R126). -/
def enterRunning (s : State) : State :=
  let s₁ := { s with
    seq := { s.seq with
      startTimer := none
      standbyTimer := some (s.now + standbyTime s.inForce.items.standbyCode) }
    bank := { s.bank with
      blankThermal := blankingFrom s s.inForce.items.blankThermal
      blankMargin := blankingFrom s s.inForce.items.blankMargin } }
  evalAvailable (enterState .running .startDone s₁)

def startExpiry (s : State) : State :=
  match s.seq.startTimer with
  | none => s
  | some d => if s.seq.state = .starting then enterRunning (s.atInstant d) else s

def execStartTimerExpiry (s : State) : Host.Outcome State Fault Refusal := .next (startExpiry s)

/-- The standby timer runs out: STANDBY with command 0 (R110). -/
def standbyExpires (s : State) : State :=
  match s.seq.standbyTimer with
  | none => s
  | some d => if s.seq.state = .running then enterStandby .standbyTimer (s.atInstant d) else s

def execStandbyTimerExpiry (s : State) : Host.Outcome State Fault Refusal := .next (standbyExpires s)

/-! ## Bank and holder timers -/

/-- The blanking of M_THERMAL or M_MARGIN runs out; no other monitor has blanking (R126). -/
def blankingExpiry (m : Monitor) (s : State) : State :=
  match m, s.bank.blankThermal, s.bank.blankMargin with
  | .thermal, some d, _ =>
    let s₁ := s.atInstant d
    { s₁ with bank := { s₁.bank with blankThermal := none } }
  | .margin, _, some d =>
    let s₁ := s.atInstant d
    { s₁ with bank := { s₁.bank with blankMargin := none } }
  | _, _, _ => s

def execBlankingTimerExpiry (monitor : Monitor) (s : State) : Host.Outcome State Fault Refusal :=
  .next (blankingExpiry monitor s)

/-- The stale timer runs out (R130, R157). -/
def staleTimerExpires (s : State) : State :=
  match s.link.staleTimer with
  | none => s
  | some d => staleExpiry (s.atInstant d)

def execStaleTimerExpiry (s : State) : Host.Outcome State Fault Refusal := .next (staleTimerExpires s)

end Sys2Proof.Machine
end

