-- ==== Sys2Proof/Machine/Dispatch.lean ====
section
/-! DEFINITION. The command's meaning, one arm for every row of spec/opcode_table.json. -/

namespace Sys2Proof.Machine

def exec (i : Instr) (s : State) : Host.Outcome State Fault Refusal :=
  match i with
  | .setItem t tag item monitor value => Sys2Proof.Machine.execSetItem t tag item monitor value s
  | .seal t tag => Sys2Proof.Machine.execSeal t tag s
  | .measure t tag form => Sys2Proof.Machine.execMeasure t tag form s
  | .setTime t tag number => Sys2Proof.Machine.execSetTime t tag number s
  | .nominate t tag first count power => Sys2Proof.Machine.execNominate t tag first count power s
  | .order t tag first count delta => Sys2Proof.Machine.execOrder t tag first count delta s
  | .cancel t tag list first count => Sys2Proof.Machine.execCancel t tag list first count s
  | .clear t tag => Sys2Proof.Machine.execClear t tag s
  | .leave t tag => Sys2Proof.Machine.execLeave t tag s
  | .restart t tag => Sys2Proof.Machine.execRestart t tag s
  | .queryState t tag => Sys2Proof.Machine.execQueryState t tag s
  | .queryPeer t tag address => Sys2Proof.Machine.execQueryPeer t tag address s
  | .queryBook t tag list index => Sys2Proof.Machine.execQueryBook t tag list index s
  | .readLog t tag => Sys2Proof.Machine.execReadLog t tag s
  | .releaseLog t tag k => Sys2Proof.Machine.execReleaseLog t tag k s
  | .repeatRequest t => Sys2Proof.Machine.execRepeatRequest t s
  | .unknownRequest t code tag body => Sys2Proof.Machine.execUnknownRequest t code tag body s
  | .linkRecordDiscarded t bytes => Sys2Proof.Machine.execLinkRecordDiscarded t bytes s
  | .linkTransmit t => Sys2Proof.Machine.execLinkTransmit t s
  | .linkRecordSent t => Sys2Proof.Machine.execLinkRecordSent t s
  | .powerOnReset t => Sys2Proof.Machine.execPowerOnReset t s
  | .permitChange t level => Sys2Proof.Machine.execPermitChange t level s
  | .boundaryPulse t => Sys2Proof.Machine.execBoundaryPulse t s
  | .frameArrival t bytes => Sys2Proof.Machine.execFrameArrival t bytes s
  | .applyStatusFrame t => Sys2Proof.Machine.execApplyStatusFrame t s
  | .applyAlert t => Sys2Proof.Machine.execApplyAlert t s
  | .applyAlertConflict t => Sys2Proof.Machine.execApplyAlertConflict t s
  | .busTakeFrame t => Sys2Proof.Machine.execBusTakeFrame t s
  | .statusTimerExpiry => Sys2Proof.Machine.execStatusTimerExpiry s
  | .lateDeadline address => Sys2Proof.Machine.execLateDeadline address s
  | .lostDeadline address => Sys2Proof.Machine.execLostDeadline address s
  | .lostHoldExpiry address => Sys2Proof.Machine.execLostHoldExpiry address s
  | .freeRunDeadline => Sys2Proof.Machine.execFreeRunDeadline s
  | .freeRunAdvance => Sys2Proof.Machine.execFreeRunAdvance s
  | .controlPeriodExpiry => Sys2Proof.Machine.execControlPeriodExpiry s
  | .joinTimerExpiry => Sys2Proof.Machine.execJoinTimerExpiry s
  | .startTimerExpiry => Sys2Proof.Machine.execStartTimerExpiry s
  | .standbyTimerExpiry => Sys2Proof.Machine.execStandbyTimerExpiry s
  | .blankingTimerExpiry monitor => Sys2Proof.Machine.execBlankingTimerExpiry monitor s
  | .staleTimerExpiry => Sys2Proof.Machine.execStaleTimerExpiry s
  | .frameTransmissionEnd t => Sys2Proof.Machine.execFrameTransmissionEnd t s

end Sys2Proof.Machine
end

