-- ==== Sys2Proof/Safety.lean ====
section
/-! DEFINITION. The properties the statements speak of: what a new request is and how it is answered, and the invariants of the
station. -/

namespace Sys2Proof.Machine

/-! ## Outcomes and requests -/

/-- Every next state the command can give satisfies `P`, and there is one. -/
def Gives (c : Instr) (s : State) (P : State → Prop) : Prop := ∃ u, exec c s = .next u ∧ P u

/-- A record with this tag carrying this request is a new request: no reply is owed, and the record differs from the kept request
in tag, code or body (R148). -/
def IsNew (s : State) (tag : Byte) (r : Request) : Prop :=
  s.link.owed = none ∧ ∀ k, s.link.kept = some k → ¬ (k.code = r.code ∧ k.tag = tag ∧ k.body = r.body)

/-- The station after a request was taken and answered: the reply is kept with the request, and owed (R148, R150). -/
def answered (u : State) (tag : Byte) (r : Request) (a : Answer) : State :=
  { u with link := { u.link with kept := some ⟨r.code, tag, r.body, ⟨tag, r.code, a⟩⟩, owed := some ⟨tag, r.code, a⟩ } }

/-- The request that a request row of the table carries, with its instant and tag. -/
def asRequest : Instr → Option (Nat × Byte × Request)
  | .setItem t tag item monitor value => some (t, tag, .setItem item monitor value)
  | .seal t tag => some (t, tag, .seal)
  | .measure t tag form => some (t, tag, .measure form)
  | .setTime t tag number => some (t, tag, .setTime number)
  | .nominate t tag first count power => some (t, tag, .nominate first count power)
  | .order t tag first count delta => some (t, tag, .order first count delta)
  | .cancel t tag list first count => some (t, tag, .cancel list first count)
  | .clear t tag => some (t, tag, .clear)
  | .leave t tag => some (t, tag, .leave)
  | .restart t tag => some (t, tag, .restart)
  | .queryState t tag => some (t, tag, .queryState)
  | .queryPeer t tag address => some (t, tag, .queryPeer address)
  | .queryBook t tag list index => some (t, tag, .queryBook list index)
  | .readLog t tag => some (t, tag, .readLog)
  | .releaseLog t tag k => some (t, tag, .releaseLog k)
  | _ => none

/-- The station after a record that was discarded and counted (R148). -/
def counted (u : State) : State := { u with link := { u.link with faults := min 65535 (u.link.faults + 1) } }

/-- The report queue after a block produced a report: it holds the report with the number that stood, or, where it held 16, stays as it
was with REPORTS DISCARDED set (R160). -/
def Queued (before after : State) (r : Report) : Prop :=
  (before.link.reports.length < 16 → ⟨before.link.reportNo, r⟩ ∈ after.link.reports)
  ∧ (16 ≤ before.link.reports.length → after.link.reports = before.link.reports ∧ after.link.discarded = true)

/-! ## The configuration items as the spec's tables give them -/

/-- One numeric item: its number and monitor byte, its range, and where it is kept. -/
structure ItemRow where
  item : Byte
  monitor : Byte
  lo : Nat
  hi : Nat
  put : Items → Nat → Items

/-- The numeric items of R68, R85, R93, R104, R121 and R151 with their ranges, by the numbers of 10.4. -/
def itemTable : List ItemRow :=
  [⟨1, 0, 0, 15, fun i n => { i with address := some n }⟩,
   ⟨3, 0, 1, 4, fun i n => { i with cavern := some n }⟩,
   ⟨4, 0, 0, 31, fun i n => { i with vcode := n }⟩,
   ⟨5, 0, 0, 7, fun i n => { i with silence := n }⟩,
   ⟨6, 0, 10, 600, fun i n => { i with lostHold := n }⟩,
   ⟨7, 0, 1, 2500, fun i n => { i with rated := some n }⟩,
   ⟨8, 0, 1, 2500, fun i n => { i with minLoad := some n }⟩,
   ⟨9, 0, 1, 10000, fun i n => { i with ramp := n }⟩,
   ⟨12, 0, 1, 200, fun i n => { i with hc := n }⟩,
   ⟨13, 0, 0, 100, fun i n => { i with cooledFraction := n }⟩,
   ⟨14, 0, 1, 200, fun i n => { i with hx := n }⟩,
   ⟨15, 0, 0, 800, fun i n => { i with xHot := n }⟩,
   ⟨16, 0, 0, 800, fun i n => { i with xCold := n }⟩] ++
  [⟨17, 0, 0, 25000, fun i n => { i with nativeMin := some n }⟩,
   ⟨18, 0, 0, 25000, fun i n => { i with nativeMax := some n }⟩,
   ⟨19, 0, 0, 25000, fun i n => { i with workMin := some n }⟩,
   ⟨20, 0, 0, 25000, fun i n => { i with workMax := some n }⟩,
   ⟨21, 0, 0, 2000, fun i n => { i with softBand := n }⟩,
   ⟨22, 0, 1, 5000, fun i n => { i with rateLimit := n }⟩,
   ⟨23, 0, 1, 1000, fun i n => { i with coeff := n }⟩,
   ⟨24, 0, 1, 10000, fun i n => { i with specific := n }⟩,
   ⟨25, 0, 0, 5000, fun i n => { i with qc := some n }⟩,
   ⟨26, 0, 0, 5000, fun i n => { i with qd := some n }⟩,
   ⟨27, 0, 0, 800, fun i n => { i with sHot := some n }⟩,
   ⟨28, 0, 0, 800, fun i n => { i with sCold := some n }⟩,
   ⟨29, 0, 0, 800, fun i n => { i with storeMax := n }⟩] ++
  [⟨30, 0, 30, 1800, fun i n => { i with startTime := n }⟩,
   ⟨31, 0, 0, 120, fun i n => { i with standbyCode := n }⟩,
   ⟨32, 0, 2, 60, fun i n => { i with wakeDelay := n }⟩,
   ⟨34, 1, 1, 15, fun i n => { i with dgNative := n }⟩,
   ⟨34, 2, 1, 15, fun i n => { i with dgThermal := n }⟩,
   ⟨34, 3, 1, 15, fun i n => { i with dgMargin := n }⟩,
   ⟨34, 5, 1, 15, fun i n => { i with dgZone := n }⟩,
   ⟨35, 2, 0, 600, fun i n => { i with blankThermal := n }⟩,
   ⟨35, 3, 0, 600, fun i n => { i with blankMargin := n }⟩,
   ⟨36, 0, 0, 800, fun i n => { i with thermalHigh := n }⟩,
   ⟨37, 0, 0, 800, fun i n => { i with thermalLow := n }⟩,
   ⟨38, 0, 0, 1000, fun i n => { i with marginLow := n }⟩,
   ⟨39, 0, 3, 20, fun i n => { i with staleLimit := n }⟩,
   ⟨40, 0, 1, 500, fun i n => { i with retryStep := n }⟩]

/-- The nearer end of a range for a signed value, as a natural number. -/
def nearest (lo hi : Nat) (v : Int) : Nat := if v < lo then lo else if (hi : Int) < v then hi else v.toNat

/-- A SET ITEM that R152 and R165 refuse UNKNOWN: it names no item, a monitor byte that does not belong to the item, or a code that
names no choice. -/
def NamesNothing (item monitor : Nat) (v : Int) : Prop :=
  item = 0 ∨ 40 < item
  ∨ (item ≠ 33 ∧ item ≠ 34 ∧ item ≠ 35 ∧ monitor ≠ 0)
  ∨ (item = 2 ∧ ¬ (1 ≤ v ∧ v ≤ 3))
  ∨ (item = 11 ∧ ¬ (0 ≤ v ∧ v ≤ 15) ∧ v ≠ 255)
  ∨ (item = 33 ∧ ¬ (1 ≤ monitor ∧ monitor ≤ 5 ∧ 1 ≤ v ∧ v ≤ 4))
  ∨ (item = 34 ∧ monitor ≠ 1 ∧ monitor ≠ 2 ∧ monitor ≠ 3 ∧ monitor ≠ 5)
  ∨ (item = 35 ∧ monitor ≠ 2 ∧ monitor ≠ 3)

/-! ## Reading a QUERY STATE body -/

/-- The value under a field number in a list of items, each a number, a length and a value (10.4). `fuel` bounds the items
walked over. -/
def itemValue (number : Byte) : Nat → List Byte → Option (List Byte)
  | 0, _ => none
  | fuel + 1, bs =>
    match bs with
    | k :: n :: rest => if k = number then some (rest.take n.toNat) else itemValue number fuel (rest.drop n.toNat)
    | _ => none

/-- The body shows this value under this field number. -/
abbrev Shows (body : List Byte) (number : Byte) (value : List Byte) : Prop := itemValue number 100 body = some value

/-- The field numbers of QUERY STATE by the kind, as the table of 10.4 gives them; with the kind unset, those of every kind (log 7). -/
def queryNumbers (k : Option Kind) : List Nat :=
  [1, 2, 3, 4, 5, 6, 7, 8, 9, 10, 11, 12, 80, 81, 83, 128, 129, 130, 133] ++
  (match k with
  | none => []
  | some .H => [48, 49, 50, 51, 52, 53, 54, 55, 56, 57, 58, 59, 60, 61, 62, 63, 99, 100]
  | some .C => [13, 14, 15, 16, 17, 18, 19, 20, 32, 33, 34, 35, 36, 37, 38, 64, 65, 66, 67, 68, 69, 70, 71, 75, 82, 96, 97, 98, 99, 101,
      131, 132]
  | some .X => [13, 14, 15, 16, 17, 18, 19, 20, 32, 33, 34, 35, 36, 37, 38, 64, 65, 66, 67, 68, 69, 72, 73, 74, 75, 82, 96, 97, 98, 99,
      101, 131, 132])

/-- A flag or level in QUERY STATE (10.4). -/
def flagShown (b : Bool) : List Byte := [if b then 1 else 0]

/-- The five bytes of a monitor in QUERY STATE: mode in force, condition state, counts and mark (10.4, R135). -/
def monitorShown (s : State) (m : Monitor) : List Byte :=
  [byteOf (s.inForce.modes.get m).code, byteOf (s.bank.monitor m).cond.code, byteOf (s.bank.monitor m).onset,
    byteOf (s.bank.monitor m).release, if (s.bank.monitor m).mark then 1 else 0]

/-- The schedule's amount for an interval in a list of the book, 0 where no entry covers it (R38). -/
def amountAt (es : List BookEntry) (i : Nat) : Int := ((coveringEntry es i).map BookEntry.amount).getD 0

/-- A list of the book after a new entry was inserted over the intervals from `f` to `f + c - 1`: those have the new amount, every
other interval keeps what it had (R32). -/
def CoversAfter (before after : List BookEntry) (f c : Nat) (v : Int) : Prop :=
  (∀ j, f ≤ j → j < f + c → (coveringEntry after j).map BookEntry.amount = some v)
  ∧ ∀ j, ¬ (f ≤ j ∧ j < f + c) →
      (coveringEntry after j).map BookEntry.amount = (coveringEntry before j).map BookEntry.amount

/-- A list of the book after a range was trimmed out of it: none of its intervals is covered, every other keeps what it had
(R32). -/
def TrimmedAfter (before after : List BookEntry) (f c : Nat) : Prop :=
  (∀ j, f ≤ j → j < f + c → coveringEntry after j = none)
  ∧ ∀ j, ¬ (f ≤ j ∧ j < f + c) →
      (coveringEntry after j).map BookEntry.amount = (coveringEntry before j).map BookEntry.amount

/-- The count of a request as R31 takes it, for a first interval already in range. -/
def takenCount (first count : Nat) : Nat :=
  min (if count = 0 ∨ 96 < count then 96 else count) (4294967295 - first)

/-- How many entries a list holds once the intervals from `f` to `f + c - 1` are trimmed out of it: of each entry the part before the
range and the part after it, where there are such parts (R32). -/
def entriesLeft (f c : Nat) (es : List BookEntry) : Nat :=
  (es.map fun e => (if e.first < f then 1 else 0) + (if f + c < e.first + e.count then 1 else 0)).sum

/-- The class of a zone after a record, row by row of R87's table. -/
def ZoneRule (hot cold : Nat) (before : ZoneClass) (t : Nat) (after : ZoneClass) : Prop :=
  (hot ≤ t → after = .hot)
  ∧ (hot ≤ t + 10 ∧ t < hot → after = if before = .hot then .hot else .warm)
  ∧ (cold + 10 < t ∧ t + 10 < hot → after = .warm)
  ∧ (cold < t ∧ t ≤ cold + 10 → after = if before = .cold then .cold else .warm)
  ∧ (t ≤ cold → after = .cold)

/-- A monitor after `k` records in a row that all present its condition, or all do not (R124). -/
def judgedRun (d : Nat) (present : Bool) : Nat → MonState → MonState
  | 0, m => m
  | k + 1, m => judgedRun d present k (judgeMonitor d present m)

/-! ## A record at the monitor bank (R123) -/

/-- A record presents the condition of a monitor, each field after its clamping (R83, R123, R132). -/
def presents (f : InForce) (form : MeasureForm) (m : Monitor) : Bool :=
  match m, form with
  | .native, .train _ _ p _ _ =>
    decide ((f.kind = some .C ∧ f.items.nativeMax.getD 0 < min p.toNat 25000)
      ∨ (f.kind = some .X ∧ min p.toNat 25000 < f.items.nativeMin.getD 0))
  | .thermal, .train _ _ _ h _ =>
    decide ((f.kind = some .C ∧ f.items.thermalHigh < min h.toNat 800) ∨ (f.kind = some .X ∧ min h.toNat 800 < f.items.thermalLow))
  | .margin, .train _ _ _ _ v => decide (min v.toNat 1000 < f.items.marginLow)
  | .zoneHigh, .store zones => zones.any fun z => decide (f.items.storeMax < min z.toNat 800)
  | _, _ => false

/-- The monitor is judged on a record of this form in this state: its mode is not OFF, and M_THERMAL and M_MARGIN only in RUNNING and
LEAVING once their blanking has run out (R123, R126). -/
def judges (s : State) (form : MeasureForm) (m : Monitor) : Prop :=
  s.inForce.modes.get m ≠ .off
  ∧ match m, form with
    | .native, .train .. => True
    | .thermal, .train .. => (s.seq.state = .running ∨ s.seq.state = .leaving) ∧ s.bank.blankThermal = none
    | .margin, .train .. => (s.seq.state = .running ∨ s.seq.state = .leaving) ∧ s.bank.blankMargin = none
    | .zoneHigh, .store _ => True
    | _, _ => False

/-- The deglitch count of a monitor that is judged at records (R121). -/
def deglitchOf (i : Items) : Monitor → Nat
  | .native => i.dgNative
  | .thermal => i.dgThermal
  | .margin => i.dgMargin
  | .zoneHigh => i.dgZone
  | .stale => 1

/-- The monitor was not ACTIVE and the table of R124 takes it there at this record. -/
def BecomesActive (s : State) (form : MeasureForm) (m : Monitor) : Prop :=
  judges s form m ∧ (s.bank.monitor m).cond ≠ .active
  ∧ (judgeMonitor (deglitchOf s.inForce.items m) (presents s.inForce form m) (s.bank.monitor m)).cond = .active

/-- The monitor latches at this record: it becomes ACTIVE in mode LATCH (R125). -/
def Latches (s : State) (form : MeasureForm) (m : Monitor) : Prop := BecomesActive s form m ∧ s.inForce.modes.get m = .latch

/-- The monitor after the judgements of a record: M_STALE's condition has ended (R131), a judged one is as the table of R124 gives,
with LATCHED in place of ACTIVE where it latches (R125), and one that is not judged is as before. -/
def JudgedAs (s : State) (form : MeasureForm) (m : Monitor) (v : MonState) : Prop :=
  (m = .stale → v = if s.bank.stale.cond = .active then ⟨.clear, 0, 0, false⟩ else { s.bank.stale with mark := false })
  ∧ (m ≠ .stale → ¬ judges s form m → v = s.bank.monitor m)
  ∧ (m ≠ .stale → judges s form m → ¬ Latches s form m →
      v = judgeMonitor (deglitchOf s.inForce.items m) (presents s.inForce form m) (s.bank.monitor m))
  ∧ (Latches s form m → v = ⟨.latched, 0, 0, true⟩)

/-- A monitor is ACTIVE in mode RETRY, in a bank given monitor by monitor (R128, R129). -/
def RetryIn (s : State) (bank : Monitor → MonState) (m : Monitor) : Prop :=
  (bank m).cond = .active ∧ s.inForce.modes.get m = .retry

/-! ## The desired value of a train in direction (R54 to R60) -/

/-- The sum of the commands of the train entries of a kind, whatever their status (R21, R54). -/
def commandsOf (view : List Entry) (k : Kind) : Nat :=
  (view.map fun e => match e.fields with
    | .train f => if f.kind = k then f.command else 0
    | .store _ => 0).sum

/-- The entry takes part in headroom, downroom and shedding with these values (R21, R55). -/
def TakesPart (k : Kind) (e : Entry) (p : Party) : Prop :=
  ∃ f, e.fields = .train f ∧ e.status = .present ∧ f.kind = k ∧ e.state = .running ∧ f.available = true ∧ f.held = false
    ∧ f.minLoad ≤ f.upper ∧ p = ⟨e.address, f.command, f.upper, f.minLoad⟩

/-- The share of an address among shares: its own, or 0 where it has none. -/
def ShareIs (xs : List Alloc) (address share : Nat) : Prop :=
  (∀ x ∈ xs, x.address = address → share = x.share) ∧ ((∀ x ∈ xs, x.address ≠ address) → share = 0)

/-- The eligible train at `own` is the one shed: its command equals its m, and no train of higher address is at its own (R58). -/
def IsShed (ps : List Party) (own : Nat) : Prop :=
  ∃ p ∈ ps, p.address = own ∧ p.command = p.minLoad ∧ ∀ q ∈ ps, q.command = q.minLoad → q.address ≤ own

/-- The desired value `d` of the eligible train at `own` with a command and m, for the error E among the eligible trains (R56 to R60).
Where E is below 0 and its magnitude above H, every train but the shed one falls to its own m. At H = 0 that is log 35's choice, and at
a peer with m = 0 log 36's. -/
def DesiredIs (e : Int) (ps : List Party) (own command m d : Nat) : Prop :=
  (e = 0 → d = command)
  ∧ (0 < e → ∃ share, d = command + share
      ∧ ShareIs (shares (min e.natAbs (ps.map fun p => p.upper - p.command).sum) (ps.map fun p => ⟨p.address, p.upper - p.command, 0⟩))
          own share)
  ∧ (e < 0 → e.natAbs ≤ ((ps.filter fun p => p.command ≠ 0).map fun p => p.command - p.minLoad).sum → ∃ share, d = command - share
      ∧ ShareIs (shares e.natAbs ((ps.filter fun p => p.command ≠ 0).map fun p => ⟨p.address, p.command - p.minLoad, 0⟩)) own share)
  ∧ (e < 0 → ((ps.filter fun p => p.command ≠ 0).map fun p => p.command - p.minLoad).sum < e.natAbs →
      (IsShed ps own → d = 0) ∧ (¬ IsShed ps own → d = min command m))

/-! ## The read of U between expiries (R50) -/

/-- The upper limit that the read of an event finds, with the holder, the view and the monitor cap that the event leaves; a compressor
decides its mode at that read (R49, R50, R98). -/
def limitRead (s : State) (holder : Option Holder) (view : List Entry) (cap : Nat) : Nat :=
  let r := { s with view := view, link := { s.link with holder := holder }, bank := { s.bank with cap := cap } }
  upperLimit { r with heat := { s.heat with
    cooled := if s.inForce.kind = some .C then (storeCapC r).all fun c => decide (c < s.inForce.minLoad) else s.heat.cooled } }

/-- What the read of U of an event does, from the limit that it finds: in RUNNING and LEAVING a command above the limit is cut to it, with
a SETPOINT, the last loaded interval follows a nonzero command, a command of 0 starts the standby timer in RUNNING and ends the leave
in LEAVING; where there is no cut, and in every other state, the command, the state and the pending SETPOINT stay (R50, R65, R66, R110,
R113). -/
def CutAtRead (s u : State) (limit : Nat) : Prop :=
  (s.isTrain = true → s.seq.state = .running ∨ s.seq.state = .leaving →
    u.share.command = min s.share.command limit
    ∧ u.seq.state = (if s.seq.state = .leaving ∧ s.share.command ≠ 0 ∧ limit = 0 then .offline else s.seq.state)
    ∧ (u.seq.state ≠ .offline → u.share.lastU = limit ∧ upperLimit u = limit)
    ∧ u.link.setpoint = (if limit < s.share.command then
        some ⟨u.share.command, decide (u.inForce.kind = some .C ∧ u.heat.cooled = true), u.seq.state⟩ else s.link.setpoint)
    ∧ u.share.lastLoaded = (if limit < s.share.command ∧ limit ≠ 0 ∧ s.clock.current ≠ none then s.clock.current
        else s.share.lastLoaded)
    ∧ (u.seq.state = .running → u.seq.standbyTimer = if s.share.command ≠ 0 ∧ limit = 0 then
        some (u.now + (if s.inForce.items.standbyCode = 0 then 240 else s.inForce.items.standbyCode * 2) * 60000)
        else s.seq.standbyTimer))
  ∧ (¬ (s.isTrain = true ∧ (s.seq.state = .running ∨ s.seq.state = .leaving)) →
    u.share.command = s.share.command ∧ u.seq.state = s.seq.state ∧ u.link.setpoint = s.link.setpoint)

/-- Every report but those of the read of U, STORE COOLED and the STATE CHANGE of a leave's end, was in the queue before. -/
def OnlyReadReports (s u : State) : Prop :=
  ∀ x ∈ u.link.reports, x ∈ s.link.reports ∨ x.report = .storeCooled true ∨ x.report = .storeCooled false
    ∨ x.report = .stateChange .leaving .offline .leaveEnd

/-! ## Published allowances and the frame of a trip (R5, R89, R114) -/

/-- The published allowances of a store in ACTIVE by R89's lines, the first that applies. -/
def PublishedByTable (u : State) : Prop :=
  (u.bank.stale.cond = .active ∧ u.inForce.modes.stale = .retry →
    u.heat.pubCharge = min u.heat.heldCharge u.heat.classCharge ∧ u.heat.pubDischarge = min u.heat.heldDischarge u.heat.classDischarge)
  ∧ (¬ (u.bank.stale.cond = .active ∧ u.inForce.modes.stale = .retry) →
    (u.bank.zoneHigh.cond = .active ∧ u.inForce.modes.zoneHigh = .retry →
      u.heat.pubCharge = 0 ∧ u.heat.pubDischarge = u.heat.classDischarge)
    ∧ (¬ (u.bank.zoneHigh.cond = .active ∧ u.inForce.modes.zoneHigh = .retry) →
      u.heat.pubCharge = u.heat.classCharge ∧ u.heat.pubDischarge = u.heat.classDischarge))

/-- A status frame that was pending at a trip is rebuilt from the state after it: TRIPPED with command 0 and AVAILABLE clear, or with zero
allowances, every other field as the station stands; the mode is the one before the read of U that follows the trip. Where none was
pending none is (R2, R3, R5, R114). -/
def RebuiltAtTrip (s u : State) : Prop :=
  (s.bus.pendingStatus = none → u.bus.pendingStatus = none)
  ∧ (s.bus.pendingStatus ≠ none →
    (∀ k, s.inForce.kind = some k → k ≠ .H → ∀ v : State, v = { u with heat := { u.heat with cooled := s.heat.cooled } } →
      u.bus.pendingStatus = some ⟨s.inForce.address, some .tripped, .train {
        kind := k, cavern := s.inForce.cavern, linked := s.inForce.items.linked, held := s.book.held.isSome,
        cooled := s.heat.cooled, available := false, clockFree := s.clock.free, vcode := s.inForce.items.vcode,
        interval := s.clock.current.getD 4294967295, target := s.book.target, command := 0,
        output := (heldOutput u).getD 0, massFlow := (heldMassFlow u).getD 0, heatFlow := heatFlow v, upper := upperLimit v,
        minLoad := s.inForce.minLoad }⟩)
    ∧ (s.isStore = true → u.bus.pendingStatus = some ⟨s.inForce.address, some .tripped, .store {
        monitorActive := true, stale := u.link.staleMark, vcode := s.inForce.items.vcode, charge := 0, discharge := 0,
        outlet := u.heat.outlet, hotZones := u.heat.hotZones }⟩))

/-! ## The delivery account and an interval change (R30, R137 to R144) -/

/-- The energy of an output held from one instant to another, with the sign of its kind; 0 where the span would run backward (R138). -/
def energyOf (k : Option Kind) (output since upto : Nat) : Int :=
  (if k = some .C then -1 else if k = some .X then 1 else 0) * ((output : Int) * ((upto - since : Nat) : Int))

/-- The energy of every peer's held output up to an instant (R140). -/
def peersEnergy (ps : List PeerPoint) (upto : Nat) : Int := (ps.map fun p => energyOf (some p.kind) p.output p.since upto).sum

/-- The energy of the station's own held output up to an instant, 0 where nothing is held (R137). -/
def OwnEnergyIs (s : State) (upto : Nat) (span : Int) : Prop :=
  (s.account.ownPoint = none → span = 0)
  ∧ ∀ q, s.account.ownPoint = some q → span = energyOf s.inForce.kind q.output q.since upto

/-- The record that an interval change writes, where an interval is open (R142, R143). -/
def RecordWritten (s u : State) (instant : Nat) (byFreeRun : Bool) : Prop :=
  (s.account.openRec = none → u.account.log = s.account.log)
  ∧ ∀ o, s.account.openRec = some o → ∀ span : Int, OwnEnergyIs s instant span → ∀ own plant : Int,
      own = s.account.ownAcc + span → plant = s.account.plantAcc + span + peersEnergy s.account.peerPoints instant →
      u.account.log = (if s.account.log.length < 48 then s.account.log else s.account.log.drop 1) ++
        [{ interval := o.interval, target := o.target, own := kWh own, plant := kWh plant,
           deviation := kWh plant - o.target * (if s.inForce.items.interval = 15 then 25
             else if s.inForce.items.interval = 30 then 50 else 100),
           periods := o.periods, heldSeen := o.heldSeen, trippedSeen := o.trippedSeen,
           clockFreeSeen := o.clockFreeSeen || byFreeRun, orderChanged := s.book.orderChanged,
           olderDropped := decide (48 ≤ s.account.log.length), cut := o.cut }]
      ∧ (s.link.reports.length + 3 ≤ 16 → ∃ k, ⟨k, .intervalClosed o.interval u.account.log.length⟩ ∈ u.link.reports)

/-- The judgement of a timed station in interval `i`: n and a counted, AGREE by 2a > n, HELD cleared by AGREE and otherwise kept with
reason DISAGREE (R40, R42, R43). -/
def JudgedIn (s u : State) (i : Nat) : Prop :=
  u.book.n = (u.view.filter fun e => match e.fields with
    | .train x => decide (e.status ≠ .lost ∧ x.interval ≠ 4294967295)
    | .store _ => false).length + 1
  ∧ u.book.a = (u.view.filter fun e => match e.fields with
    | .train x => decide (e.status ≠ .lost ∧ x.interval ≠ 4294967295 ∧ x.interval = i ∧ x.target = u.book.target)
    | .store _ => false).length + 1
  ∧ (u.book.agree = true ↔ u.book.n < 2 * u.book.a)
  ∧ (u.book.agree = true → u.book.held = none)
  ∧ (u.book.agree = false → u.book.held = s.book.held.map fun _ => .disagree)

/-- An interval change at an instant to interval `n`, as the book, the account and the share unit take it: the record that closes is
written, the points move, the lists are purged, the target is derived, and from JOINING onward the settle window starts, agreement
is judged and the interval is opened (R30, R36, R38, R40, R41, R66, R140, R141, R144). -/
def TakesChange (s u : State) (instant n : Nat) (byFreeRun : Bool) : Prop :=
  RecordWritten s u instant byFreeRun
  ∧ u.account.ownAcc = 0 ∧ u.account.plantAcc = 0
  ∧ u.account.ownPoint = s.account.ownPoint.map (fun q => { q with since := instant })
  ∧ u.account.peerPoints = s.account.peerPoints.map (fun p => { p with since := instant })
  ∧ u.book.noms = s.book.noms.filter (fun e => decide (n ≤ e.first + e.count - 1))
  ∧ u.book.orders = s.book.orders.filter (fun e => decide (n ≤ e.first + e.count - 1))
  ∧ u.book.target = some (max (-3000) (min (amountAt u.book.noms n + amountAt u.book.orders n) 3000))
  ∧ u.book.orderChanged = false
  ∧ (s.seq.state = .offline → u.account.openRec = none ∧ u.book.settle = s.book.settle ∧ u.book.persistence = s.book.persistence
      ∧ u.book.held = s.book.held)
  ∧ (s.seq.state ≠ .offline → u.book.settle = 2 ∧ u.book.persistence = 0 ∧ JudgedIn s u n
      ∧ u.account.openRec = some {
          interval := n, target := u.book.target.getD 0, periods := 0, heldSeen := u.book.held.isSome,
          trippedSeen := decide (s.seq.state = .tripped ∨ s.seq.state = .conflict), clockFreeSeen := byFreeRun, cut := none })
  ∧ u.share.lastLoaded = (if s.share.command = 0 then s.share.lastLoaded else some n)
  ∧ u.share.command = s.share.command ∧ u.seq = s.seq ∧ u.view = s.view

/-- A peer's energy comes to the plant accumulator while an interval is open (R138, R139). -/
def PlantCredited (s u : State) (e : Int) : Prop :=
  u.account.plantAcc = s.account.plantAcc + (if s.account.openRec = none then 0 else e) ∧ u.account.ownAcc = s.account.ownAcc

/-- The point is the only one of its address. -/
def OnlyPoint (ps : List PeerPoint) (p : PeerPoint) : Prop := p ∈ ps ∧ ∀ q ∈ ps, q.address = p.address → q = p

/-! ## What a command may change -/

/-- The parts of the station, each a register or a group of registers that change together. -/
inductive Part where
  | items | inForce
  | statusTimer | pendingStatus | pendingAlert | onBus | receiveQueue
  | view | clock | noms | orders | target | agreement | orderMark
  | command | shareTimer | wake | lastLoaded | lastU
  | zones | published | heldAllowances | cooled
  | state | available | joinTimer | startTimer | standbyTimer | tripHeld | leaveCount | tripOut
  | native | thermal | margin | stale | zoneHigh | blanking | cap
  | openRecord | energies | ownPoint | peerPoints | log
  | exchange | setpoint | reports | faults | sending | holder | staleTimer
  | permit | free
  deriving DecidableEq, Repr

/-- The part has the same value in both states. -/
def Part.same (p : Part) (s u : State) : Prop :=
  match p with
  | .items => u.items = s.items
  | .inForce => u.inForce = s.inForce
  | .statusTimer => u.bus.statusTimer = s.bus.statusTimer
  | .pendingStatus => u.bus.pendingStatus = s.bus.pendingStatus
  | .pendingAlert => u.bus.pendingAlert = s.bus.pendingAlert
  | .onBus => u.bus.onBus = s.bus.onBus
  | .receiveQueue => u.bus.rx = s.bus.rx ∧ u.bus.overrun = s.bus.overrun
  | .view => u.view = s.view
  | .clock => u.clock = s.clock
  | .noms => u.book.noms = s.book.noms
  | .orders => u.book.orders = s.book.orders
  | .target => u.book.target = s.book.target
  | .agreement => u.book.agree = s.book.agree ∧ u.book.n = s.book.n ∧ u.book.a = s.book.a
      ∧ u.book.persistence = s.book.persistence ∧ u.book.settle = s.book.settle ∧ u.book.held = s.book.held
  | .orderMark => u.book.orderChanged = s.book.orderChanged
  | .command => u.share.command = s.share.command
  | .shareTimer => u.share.timer = s.share.timer
  | .wake => u.share.wake = s.share.wake
  | .lastLoaded => u.share.lastLoaded = s.share.lastLoaded
  | .lastU => u.share.lastU = s.share.lastU
  | .zones => u.heat.zones = s.heat.zones ∧ u.heat.hotZones = s.heat.hotZones ∧ u.heat.classCharge = s.heat.classCharge
      ∧ u.heat.classDischarge = s.heat.classDischarge ∧ u.heat.outlet = s.heat.outlet
  | .published => u.heat.pubCharge = s.heat.pubCharge ∧ u.heat.pubDischarge = s.heat.pubDischarge
  | .heldAllowances => u.heat.heldCharge = s.heat.heldCharge ∧ u.heat.heldDischarge = s.heat.heldDischarge
  | .cooled => u.heat.cooled = s.heat.cooled
  | .state => u.seq.state = s.seq.state
  | .available => u.seq.available = s.seq.available
  | .joinTimer => u.seq.joinTimer = s.seq.joinTimer
  | .startTimer => u.seq.startTimer = s.seq.startTimer
  | .standbyTimer => u.seq.standbyTimer = s.seq.standbyTimer
  | .tripHeld => u.seq.tripHeld = s.seq.tripHeld
  | .leaveCount => u.seq.leaveCount = s.seq.leaveCount
  | .tripOut => u.seq.tripOut = s.seq.tripOut
  | .native => u.bank.native = s.bank.native
  | .thermal => u.bank.thermal = s.bank.thermal
  | .margin => u.bank.margin = s.bank.margin
  | .stale => u.bank.stale = s.bank.stale
  | .zoneHigh => u.bank.zoneHigh = s.bank.zoneHigh
  | .blanking => u.bank.blankThermal = s.bank.blankThermal ∧ u.bank.blankMargin = s.bank.blankMargin
  | .cap => u.bank.cap = s.bank.cap
  | .openRecord => u.account.openRec = s.account.openRec
  | .energies => u.account.ownAcc = s.account.ownAcc ∧ u.account.plantAcc = s.account.plantAcc
  | .ownPoint => u.account.ownPoint = s.account.ownPoint
  | .peerPoints => u.account.peerPoints = s.account.peerPoints
  | .log => u.account.log = s.account.log
  | .exchange => u.link.kept = s.link.kept ∧ u.link.owed = s.link.owed
  | .setpoint => u.link.setpoint = s.link.setpoint
  | .reports => u.link.reports = s.link.reports ∧ u.link.reportNo = s.link.reportNo ∧ u.link.discarded = s.link.discarded
  | .faults => u.link.faults = s.link.faults
  | .sending => u.link.sending = s.link.sending
  | .holder => u.link.holder = s.link.holder
  | .staleTimer => u.link.staleTimer = s.link.staleTimer ∧ u.link.staleMark = s.link.staleMark
  | .permit => u.permit = s.permit
  | .free => u.free = s.free

/-- What a read of U may change: the value as last read, AVAILABLE, a compressor's mode, and the command it cuts (R50, R51, R98). -/
def readParts : List Part := [.command, .lastU, .cooled, .available, .setpoint, .reports, .standbyTimer, .lastLoaded]

/-- What ends with a state of the sequencer (R47, R114, R115, R126, R127). -/
def stateParts : List Part :=
  [.state, .available, .joinTimer, .startTimer, .standbyTimer, .tripHeld, .leaveCount, .tripOut, .reports]

/-- What a fall of a train out of service, into STANDBY, TRIPPED or CONFLICT, may change. -/
def fallParts : List Part :=
  stateParts ++ [.command, .wake, .thermal, .margin, .blanking, .cap, .setpoint, .lastU, .cooled]

/-- What a trip or a conflict may change beside (R5, R19, R114, R141). -/
def tripParts : List Part := fallParts ++ [.published, .openRecord, .pendingAlert, .pendingStatus]

/-- What the end of a leave may change (R113, R139). -/
def leaveEndParts : List Part :=
  stateParts ++ [.command, .shareTimer, .wake, .statusTimer, .pendingStatus, .pendingAlert, .receiveQueue, .view, .agreement,
    .cooled, .published, .native, .thermal, .margin, .stale, .zoneHigh, .blanking, .cap, .openRecord, .energies] ++
  [.ownPoint, .peerPoints, .holder, .staleTimer, .setpoint]

/-- What an interval change may change (R30, R140). -/
def changeParts : List Part :=
  [.clock, .noms, .orders, .target, .agreement, .orderMark, .openRecord, .energies, .ownPoint, .peerPoints, .log, .lastLoaded,
    .reports, .free]

/-- What an accepted SEAL may change (R105, R154). -/
def sealParts : List Part :=
  stateParts ++ [.inForce, .statusTimer, .pendingStatus, .clock, .noms, .orders, .target, .agreement, .command, .shareTimer, .wake,
    .lastLoaded, .lastU, .zones, .published, .heldAllowances, .cooled, .native, .thermal, .margin] ++
  [.stale, .zoneHigh, .blanking, .cap, .openRecord, .energies, .ownPoint, .peerPoints, .log, .holder, .staleTimer]

/-- What the exchange of a request may change (R148). -/
def requestParts : List Part := [.exchange, .faults]

/-- Every part but those that no reset of the station reaches: the PERMIT line and the model's counter (R163, log 18). -/
def resetParts : List Part :=
  sealParts ++ [.items, .pendingAlert, .onBus, .receiveQueue, .view, .orderMark, .exchange, .setpoint, .faults, .sending]

/-- The parts of the station that a command may change where it does not end a leave in LEAVING. -/
def mayChange : Instr → List Part
  | .setItem .. => .items :: requestParts
  | .seal .. => sealParts ++ requestParts
  | .measure .. => [.holder, .staleTimer, .ownPoint, .energies, .native, .stale, .zoneHigh, .zones] ++ tripParts ++ readParts
      ++ requestParts
  | .setTime .. => .clock :: requestParts
  | .nominate .. => .noms :: requestParts
  | .order .. => .orders :: .orderMark :: requestParts
  | .cancel .. => .noms :: .orders :: .orderMark :: requestParts
  | .clear .. => [.native, .stale, .zoneHigh, .published] ++ fallParts ++ readParts ++ requestParts
  | .leave .. => leaveEndParts ++ requestParts
  | .restart .. => (resetParts ++ requestParts).filter fun p => p != .log && p != .onBus && p != .sending
  | .queryState .. => .reports :: .free :: requestParts
  | .queryPeer .. => requestParts
  | .queryBook .. => requestParts
  | .readLog .. => requestParts
  | .releaseLog .. => .log :: requestParts
  | .repeatRequest .. => requestParts
  | .unknownRequest .. => requestParts
  | .linkRecordDiscarded _ bytes => if checkGood bytes then .permit :: .free :: .pendingAlert :: resetParts else [.faults]
  | .linkTransmit .. => [.sending, .setpoint, .reports]
  | .linkRecordSent .. => [.sending, .exchange]
  | .powerOnReset .. => resetParts
  | .permitChange .. => .permit :: fallParts
  | .boundaryPulse .. => changeParts
  | .frameArrival .. => [.receiveQueue, .statusTimer] ++ tripParts
  | .applyStatusFrame .. => [.receiveQueue, .view, .peerPoints, .energies, .agreement] ++ readParts
  | .applyAlert .. => [.receiveQueue, .view] ++ readParts
  | .applyAlertConflict .. => [.receiveQueue, .view] ++ readParts
  | .busTakeFrame .. => [.onBus, .pendingAlert, .pendingStatus]
  | .statusTimerExpiry => [.statusTimer, .pendingStatus, .available, .lastU, .leaveCount]
  | .lateDeadline _ => .view :: readParts
  | .lostDeadline _ => .view :: readParts
  | .lostHoldExpiry _ => [.view, .peerPoints, .energies] ++ readParts
  | .freeRunDeadline => changeParts
  | .freeRunAdvance => changeParts
  | .controlPeriodExpiry => [.shareTimer, .target, .agreement, .openRecord, .wake, .startTimer, .state] ++ readParts
  | .joinTimerExpiry => tripParts
  | .startTimerExpiry => [.state, .startTimer, .standbyTimer, .blanking, .available, .reports]
  | .standbyTimerExpiry => fallParts
  | .blankingTimerExpiry _ => [.blanking]
  | .staleTimerExpiry => [.staleTimer, .stale, .heldAllowances] ++ tripParts ++ readParts
  | .frameTransmissionEnd .. => [.onBus]

/-! ## Frames in range (R13, R164) -/

/-- The fields of a TRAIN STATUS within the ranges of the spec. -/
def TrainFields.InRange (f : TrainFields) : Prop :=
  (f.kind = .C ∨ f.kind = .X) ∧ 1 ≤ f.cavern ∧ f.cavern ≤ 4 ∧ (∀ a, f.linked = some a → a < 16) ∧ f.vcode ≤ 31
  ∧ f.interval ≤ 4294967295 ∧ (∀ v, f.target = some v → -3000 ≤ v ∧ v ≤ 3000) ∧ f.command ≤ 2500 ∧ f.output ≤ 2500
  ∧ f.massFlow ≤ 1000 ∧ f.heatFlow ≤ 5000 ∧ f.upper ≤ 2500 ∧ f.minLoad ≤ 2500

/-- The fields of a STORE STATUS within the ranges of the spec. -/
def StoreFields.InRange (f : StoreFields) : Prop :=
  f.vcode ≤ 31 ∧ f.charge ≤ 5000 ∧ f.discharge ≤ 5000 ∧ f.outlet ≤ 800 ∧ f.hotZones ≤ 8

/-- A frame the station may send: its values in range, its state one of its kind, no cut report in an ALERT CONFLICT. -/
def Frame.InRange : Frame → Prop
  | .status ⟨a, st, .train f⟩ => a < 16 ∧ f.InRange ∧ ∃ x, st = some x ∧ x ≠ .active
  | .status ⟨a, st, .store f⟩ => a < 16 ∧ f.InRange ∧ ∃ x, st = some x ∧ x ≠ .standby ∧ x ≠ .starting ∧ x ≠ .running
  | .alert a => a.address < 16 ∧ (∀ i, a.cut.first = some i → i ≤ 4294967294) ∧ a.cut.toRun ≤ 65535
      ∧ (∀ i, a.cut.last = some i → i ≤ 4294967294) ∧ (a.reason = .conflict → a.cut = {})

/-- A request whose measurement record has eight zones where it is of the store form (R155). -/
def Request.WellFormed : Request → Prop
  | .measure (.store zones) => zones.length = 8
  | _ => True

/-! ## Invariants -/

/-- A train's command is 0, or it is loaded and its command lies between m and its current upper limit (R47, R50). -/
def CommandLaw (s : State) : Prop :=
  s.share.command = 0
  ∨ (s.seq.state.loaded = true ∧ s.inForce.minLoad ≤ s.share.command ∧ s.share.command ≤ upperLimit s)

/-- The queues, lists and counts stay within their capacities (R9, R31, R41, R42, R143, R148, R160). -/
def CapacityLaw (s : State) : Prop :=
  s.bus.rx.length ≤ 8 ∧ s.link.reports.length ≤ 16 ∧ s.link.reportNo ≤ 65535 ∧ s.link.faults ≤ 65535
  ∧ s.account.log.length ≤ 48 ∧ s.book.noms.length ≤ 32 ∧ s.book.orders.length ≤ 16
  ∧ s.book.settle ≤ 2 ∧ s.book.persistence ≤ 3 ∧ s.heat.zones.length = 8

/-- One list of the book: counts 1 to 96, amounts in range, no interval past 4294967294, in order of first interval, no interval
covered twice (R31). -/
def ListLaw (es : List BookEntry) : Prop :=
  (∀ e ∈ es, 1 ≤ e.count ∧ e.count ≤ 96 ∧ -3000 ≤ e.amount ∧ e.amount ≤ 3000 ∧ e.first + e.count ≤ 4294967295)
  ∧ es.Pairwise fun x y => x.first + x.count ≤ y.first

/-- Both lists of the book (R31). -/
def BookLaw (s : State) : Prop := ListLaw s.book.noms ∧ ListLaw s.book.orders

/-- The peer table is in order of address with one entry for each, no entry has the station's own address, the same holds of the
frames that wait, and both are empty in OFFLINE (R7, R9, R11). -/
def ViewLaw (s : State) : Prop :=
  (s.view.Pairwise fun x y => x.address < y.address)
  ∧ (∀ e ∈ s.view, e.address < 16 ∧ e.address ≠ s.inForce.address)
  ∧ (∀ f ∈ s.bus.rx, f.frame.address < 16 ∧ f.frame.address ≠ s.inForce.address)
  ∧ (s.seq.state = .offline → s.view = [] ∧ s.bus.rx = [])

/-- A lost hold stands on exactly the LOST entries (R12, R15, R16). -/
def HoldLaw (s : State) : Prop := ∀ e ∈ s.view, e.holdEnd.isSome = true ↔ e.status = .lost

/-- AVAILABLE is set exactly while its four conditions hold (R51). -/
def AvailableLaw (s : State) : Prop :=
  s.seq.available = true ↔
    (s.seq.state = .standby ∨ s.seq.state = .starting ∨ s.seq.state = .running) ∧ s.permit = true
    ∧ (∀ m, (s.bank.monitor m).cond ≠ .latched) ∧ s.share.lastU ≠ 0

/-- TRIP OUT is asserted exactly in TRIPPED and CONFLICT (R115). -/
def TripOutLaw (s : State) : Prop := s.seq.tripOut = true ↔ s.seq.state = .tripped ∨ s.seq.state = .conflict

/-- No monitor is LATCHED in a service state: a latch there trips the station (R112, R114). -/
def LatchLaw (s : State) : Prop := s.seq.state.inService = true → ∀ m, (s.bank.monitor m).cond ≠ .latched

/-- A station is starting or running, or a train leaving, only while PERMIT is asserted, and only a store is in ACTIVE (6.1, R107,
R109, R111). -/
def PermitLaw (s : State) : Prop :=
  (s.seq.state = .starting ∨ s.seq.state = .running ∨ (s.seq.state = .leaving ∧ s.isTrain = true) → s.permit = true)
  ∧ (s.seq.state = .active → s.isStore = true)

/-- Which timers run in which states; the blanking timers run only in RUNNING and LEAVING (R1, R46, R105, R107, R109, R110, R126, R157). -/
def TimerLaw (s : State) : Prop :=
  (s.bus.statusTimer.isSome = true ↔ s.seq.state ≠ .offline ∧ s.seq.state ≠ .conflict)
  ∧ (s.share.timer.isSome = true ↔ s.seq.state ≠ .offline ∧ s.isTrain = true)
  ∧ (s.seq.joinTimer.isSome = true ↔ s.seq.state = .joining)
  ∧ (s.seq.startTimer.isSome = true ↔ s.seq.state = .starting)
  ∧ (s.seq.standbyTimer.isSome = true ↔ s.seq.state = .running ∧ s.share.command = 0)
  ∧ (s.link.staleTimer.isSome = true ↔ s.seq.state ≠ .offline ∧ s.link.staleMark = false)
  ∧ (s.bank.blankThermal.isSome = true ∨ s.bank.blankMargin.isSome = true → s.seq.state = .running ∨ s.seq.state = .leaving)

/-- An owed reply is the kept request's, and the transmitter sends a reply only while one is owed (R148, R149). -/
def LinkLaw (s : State) : Prop :=
  (∀ r, s.link.owed = some r → s.link.kept.map Kept.reply = some r)
  ∧ (∀ x, s.link.sending = some x → x.isReply = true → s.link.owed.isSome = true)

/-- A store keeps no time, no schedule and no account (R24, R136, R154). -/
def StoreLaw (s : State) : Prop :=
  s.isStore = true →
    s.clock = {} ∧ s.book.noms = [] ∧ s.book.orders = [] ∧ s.book.target = none ∧ s.account = {} ∧ s.share.command = 0

/-- A train out of cooled mode, or of another kind than C, has the cooled flag clear (R99). -/
def CooledLaw (s : State) : Prop := s.heat.cooled = true → s.inForce.kind = some .C ∧ s.seq.state ≠ .offline

/-- The wake delay, as configured and as in force, lies in 2 to 60 (R104). -/
def WakeDelayLaw (s : State) : Prop :=
  (2 ≤ s.items.wakeDelay ∧ s.items.wakeDelay ≤ 60) ∧ 2 ≤ s.inForce.items.wakeDelay ∧ s.inForce.items.wakeDelay ≤ 60

/-- The mode in force of M_NATIVE is LATCH, whatever was set (R121). -/
def NativeModeLaw (s : State) : Prop := s.inForce.modes.native = .latch

/-- A property that every step keeps. -/
def KeptByStep (P : State → Prop) : Prop := ∀ s s', P s → step s = .next s' → P s'

end Sys2Proof.Machine
end

