-- ==== Sys2Proof/Certificates/Slice0/Obligations.lean ====
section
/-! DEFINITION. The statements for the provers, each a proposition about `exec`, `step` or a shared operation, named for what it says. -/

section Statements

open Sys2Proof Sys2Proof.Machine

/-! ## The step and the resets -/

/-- A step executes the command at the front of the queue on the station with the queue's rest; on an empty queue it changes nothing
(log 2, the model's choice). -/
def Obligations.StepTakesFrontOfQueue : Prop :=
  (∀ (c : Instr) (rest : List Instr) (s : State),
    step { s with pending := c :: rest } = exec c { s with pending := rest })
  ∧ ∀ s : State, s.pending = [] → step s = .next s

/-- Every command ends in a next state, leaves the queue alone, never runs time backward, and changes no part of the station but those its
rules name: the list of `mayChange`, and where it ends a leave in LEAVING the parts that the end of a leave changes.
The instants are the model's choice (log 1), and so is that an event that cannot happen changes nothing (log 3). -/
def Obligations.EachCommandChangesOnlyItsParts : Prop :=
  (∀ (c : Instr) (s : State), Gives c s fun u => u.pending = s.pending ∧ s.now ≤ u.now)
  ∧ ∀ (c : Instr) (s u : State) (p : Part), c.wellFormed = true → exec c s = .next u → p ∉ mayChange c →
    (s.seq.state = .leaving → u.seq.state = .offline → p ∉ leaveEndParts) → p.same s u

/-- Power-on reset gives the reset state (but for the model's time, queue and counter and the PERMIT line), and in it everything
the spec names is stopped, empty or at its default, every configuration item included.
What the reset keeps is the model's choice (log 18). -/
def Obligations.PowerOnResetGivesResetState : Prop :=
  (∀ (t : Nat) (s : State), exec (.powerOnReset t) s =
    .next { State.reset with now := max s.now t, permit := s.permit, free := s.free, pending := s.pending })
  ∧ State.reset.bus = { statusTimer := none, pendingStatus := none, pendingAlert := none, onBus := none, rx := [], overrun := false }
  ∧ State.reset.view = []
  ∧ State.reset.clock = { current := none, pending := none, lastPulse := none, lastAdvance := none, free := false }
  ∧ State.reset.book = ⟨[], [], none, true, 0, 0, 0, 0, none, false⟩
  ∧ State.reset.share.command = 0 ∧ State.reset.share.timer = none ∧ State.reset.share.wake = 0
  ∧ State.reset.share.lastLoaded = none
  ∧ State.reset.heat.zones = List.replicate 8 ⟨none, .unclassified⟩ ∧ State.reset.heat.hotZones = 0
  ∧ State.reset.heat.classCharge = 0 ∧ State.reset.heat.classDischarge = 0
  ∧ State.reset.heat.pubCharge = 0 ∧ State.reset.heat.pubDischarge = 0 ∧ State.reset.heat.outlet = 0
  ∧ State.reset.heat.cooled = false
  ∧ State.reset.seq = ⟨.offline, false, none, none, none, false, 0, false⟩
  ∧ (∀ m, State.reset.bank.monitor m = ⟨.clear, 0, 0, false⟩)
  ∧ State.reset.bank.blankThermal = none ∧ State.reset.bank.blankMargin = none
  ∧ State.reset.account = { openRec := none, ownAcc := 0, plantAcc := 0, ownPoint := none, peerPoints := [], log := [] }
  ∧ State.reset.link = ⟨none, none, none, [], 0, false, 0, none, none, none, false⟩
  ∧ State.reset.inForce.workMin = none ∧ State.reset.inForce.workMax = none
  ∧ State.reset.items = {
      address := none, kind := none, cavern := none, vcode := 19, silence := 2, lostHold := 60, rated := none, minLoad := none,
      ramp := 600, interval := 15, linked := none, hc := 60, cooledFraction := 30, hx := 110, xHot := 500, xCold := 200,
      nativeMin := none, nativeMax := none, workMin := none, workMax := none, softBand := 300, rateLimit := 5000, coeff := 1,
      specific := 400, qc := none, qd := none, sHot := none, sCold := none, storeMax := 700, startTime := 300, standbyCode := 15,
      wakeDelay := 5, modeNative := .latch, modeThermal := .retry, modeMargin := none, modeStale := .retry, modeZone := .retry,
      dgNative := 3, dgThermal := 3, dgMargin := 3, dgZone := 3, blankThermal := 60, blankMargin := 60, thermalHigh := 600,
      thermalLow := 350, marginLow := 80, staleLimit := 5, retryStep := 50 }
  ∧ (deriveModes State.reset.items).margin = .retry

/-! ## Configuration -/

/-- SET ITEM in OFFLINE takes every numeric item, brought to the nearer end of its range with CLAMPED, and changes no other item. -/
def Obligations.NumericItemsTakenInRange : Prop :=
  ∀ row ∈ itemTable, ∀ (s : State) (t : Nat) (tag : Byte) (value : Word),
    s.seq.state = .offline → IsNew s tag (.setItem row.item row.monitor value) →
    exec (.setItem t tag row.item row.monitor value) s =
      .next (answered { s.atInstant t with items := row.put s.items (nearest row.lo row.hi value.toInt) } tag
        (.setItem row.item row.monitor value) (.accept (decide (value.toInt < row.lo ∨ (row.hi : Int) < value.toInt))))

/-- SET ITEM in OFFLINE takes the coded items: the kind, the interval length nearest to the value, the linked store, and the monitor
modes, of which M_NATIVE's stays LATCH. -/
def Obligations.CodedItemsTaken : Prop :=
  ∀ (s : State) (t : Nat) (tag : Byte) (value : Word), s.seq.state = .offline →
    (∀ k : Kind, value.toInt = k.code → IsNew s tag (.setItem 2 0 value) →
      exec (.setItem t tag 2 0 value) s =
        .next (answered { s.atInstant t with items := { s.items with kind := some k } } tag (.setItem 2 0 value) (.accept false)))
    ∧ (IsNew s tag (.setItem 10 0 value) → ∃ l : Nat, (l = 15 ∨ l = 30 ∨ l = 60)
      ∧ (∀ l' : Nat, l' = 15 ∨ l' = 30 ∨ l' = 60 →
          (value.toInt - l).natAbs < (value.toInt - l').natAbs ∨ ((value.toInt - l).natAbs = (value.toInt - l').natAbs ∧ l ≤ l'))
      ∧ exec (.setItem t tag 10 0 value) s =
        .next (answered { s.atInstant t with items := { s.items with interval := l } } tag (.setItem 10 0 value)
          (.accept (decide ((l : Int) ≠ value.toInt)))))
    ∧ (∀ a : Nat, a < 16 → value.toInt = a → IsNew s tag (.setItem 11 0 value) →
      exec (.setItem t tag 11 0 value) s =
        .next (answered { s.atInstant t with items := { s.items with linked := some a } } tag (.setItem 11 0 value) (.accept false)))
    ∧ (value.toInt = 255 → IsNew s tag (.setItem 11 0 value) →
      exec (.setItem t tag 11 0 value) s =
        .next (answered { s.atInstant t with items := { s.items with linked := none } } tag (.setItem 11 0 value) (.accept false)))
    ∧ (∀ mode : Mode, value.toInt = mode.code →
      (IsNew s tag (.setItem 33 1 value) → exec (.setItem t tag 33 1 value) s =
        .next (answered { s.atInstant t with items := { s.items with modeNative := .latch } } tag (.setItem 33 1 value)
          (.accept (decide (mode ≠ .latch)))))
      ∧ (IsNew s tag (.setItem 33 2 value) → exec (.setItem t tag 33 2 value) s =
        .next (answered { s.atInstant t with items := { s.items with modeThermal := mode } } tag (.setItem 33 2 value)
          (.accept false)))
      ∧ (IsNew s tag (.setItem 33 3 value) → exec (.setItem t tag 33 3 value) s =
        .next (answered { s.atInstant t with items := { s.items with modeMargin := some mode } } tag (.setItem 33 3 value)
          (.accept false)))
      ∧ (IsNew s tag (.setItem 33 4 value) → exec (.setItem t tag 33 4 value) s =
        .next (answered { s.atInstant t with items := { s.items with modeStale := mode } } tag (.setItem 33 4 value)
          (.accept false)))
      ∧ (IsNew s tag (.setItem 33 5 value) → exec (.setItem t tag 33 5 value) s =
        .next (answered { s.atInstant t with items := { s.items with modeZone := mode } } tag (.setItem 33 5 value)
          (.accept false))))

/-! ## SEAL -/

/-- An accepted SEAL of a train starts every block: JOINING with its timers, command 0, a first status frame, the bank cleared with
its cap at rated, HELD for NO TIME while untimed, the current interval opened where none is open.
That the first frame is built last is the model's reading (log 26). -/
def Obligations.SealStartsTrain : Prop :=
  ∀ (s : State) (t : Nat) (tag : Byte) (k : Kind) (a g r m lo hi : Nat),
    s.seq.state = .offline → IsNew s tag .seal → k ≠ .H → s.items.kind = some k → s.items.address = some a →
    s.items.cavern = some g → s.items.rated = some r → s.items.minLoad = some m → s.items.nativeMin = some lo →
    s.items.nativeMax = some hi → lo < hi →
    Gives (.seal t tag) s fun u =>
      u.now = max s.now t ∧ u.seq.state = .joining
      ∧ u.seq.joinTimer = some (max s.now t + (s.items.silence + 2) * ((s.items.vcode + 1) * 50))
      ∧ u.seq.startTimer = none ∧ u.seq.standbyTimer = none ∧ u.seq.available = false ∧ u.seq.tripOut = false
      ∧ u.seq.tripHeld = false
      ∧ u.bus.statusTimer = some (max s.now t + (s.items.vcode + 1) * 50)
      ∧ (∃ f, u.bus.pendingStatus = some ⟨a, some .joining, .train f⟩ ∧ f.kind = k ∧ f.command = 0 ∧ f.available = false)
      ∧ u.share.timer = some (max s.now t + (s.items.vcode + 1) * 50) ∧ u.share.command = 0 ∧ u.share.wake = 0
      ∧ u.share.lastLoaded = none
      ∧ u.link.holder = none ∧ u.link.staleMark = false
      ∧ u.link.staleTimer = some (max s.now t + s.items.staleLimit * ((s.items.vcode + 1) * 50))
      ∧ u.bank.cap = r ∧ (∀ mon, u.bank.monitor mon = ⟨.clear, 0, 0, false⟩)
      ∧ u.inForce.items = s.items ∧ u.inForce.minLoad = min m r
      ∧ u.inForce.rampStep = max 1 (s.items.ramp * ((s.items.vcode + 1) * 50) / 60000)
      ∧ (s.clock.current = none → u.book.held = some .noTime)
      ∧ (∀ i, s.clock.current = some i → s.account.openRec = none →
          ∃ o, u.account.openRec = some o ∧ o.interval = i ∧ o.target = s.book.target.getD 0 ∧ u.account.ownAcc = 0
            ∧ u.account.plantAcc = 0)
      ∧ (s.account.openRec ≠ none → (∃ o, u.account.openRec = some o) ∧ u.account.ownAcc = s.account.ownAcc)
      ∧ u.items = s.items ∧ u.clock = s.clock ∧ u.view = s.view ∧ u.permit = s.permit ∧ u.account.log = s.account.log
      ∧ u.book.noms = s.book.noms ∧ u.book.orders = s.book.orders ∧ u.book.target = s.book.target
      ∧ (∃ clamped, u.link.owed = some ⟨tag, 2, .accept clamped⟩)
      ∧ (k = .C → s.view = [] → s.clock.current = none → s.link.reports.length + 3 ≤ 16 →
          u.link.reports = s.link.reports ++
            [⟨s.link.reportNo, .stateChange .offline .joining .sealed⟩,
             ⟨(s.link.reportNo + 1) % 65536, .held .noTime 0 0⟩,
             ⟨((s.link.reportNo + 1) % 65536 + 1) % 65536, .storeCooled true⟩])

/-- What an accepted SEAL of a train derives: the working limits, an expander's thresholds, the mode of M_MARGIN, and CLAMPED exactly
where a derivation changed a value. That r raised to 1 is not such a change is the model's choice (log 41). -/
def Obligations.SealDerivesTrainLimits : Prop :=
  ∀ (s : State) (t : Nat) (tag : Byte) (k : Kind) (a g r m lo hi wl wh : Nat),
    s.seq.state = .offline → IsNew s tag .seal → k ≠ .H → s.items.kind = some k → s.items.address = some a →
    s.items.cavern = some g → s.items.rated = some r → s.items.minLoad = some m → s.items.nativeMin = some lo →
    s.items.nativeMax = some hi → lo < hi →
    wl = (match s.items.workMin with | none => lo | some x => max lo (min x hi)) →
    wh = (match s.items.workMax with | none => hi | some x => max lo (min x hi)) →
    Gives (.seal t tag) s fun u =>
      (wl < wh → u.inForce.workMin = some wl ∧ u.inForce.workMax = some wh)
      ∧ (¬ wl < wh → u.inForce.workMin = some lo ∧ u.inForce.workMax = some hi)
      ∧ (k = .X → s.items.xCold + 20 < s.items.xHot →
          u.inForce.hot = some s.items.xHot ∧ u.inForce.cold = some s.items.xCold)
      ∧ (k = .X → ¬ s.items.xCold + 20 < s.items.xHot → s.items.xCold ≤ 779 →
          u.inForce.hot = some (s.items.xCold + 21) ∧ u.inForce.cold = some s.items.xCold)
      ∧ (k = .X → ¬ s.items.xCold + 20 < s.items.xHot → 779 < s.items.xCold →
          u.inForce.hot = some 800 ∧ u.inForce.cold = some 779)
      ∧ (k = .X → u.inForce.modes.margin = .off)
      ∧ (k = .C → u.inForce.modes.margin = s.items.modeMargin.getD .retry)
      ∧ u.inForce.modes.native = .latch ∧ u.inForce.modes.thermal = s.items.modeThermal
      ∧ u.inForce.modes.stale = s.items.modeStale
      ∧ u.items = s.items
      ∧ ∃ clamped, u.link.owed = some ⟨tag, 2, .accept clamped⟩
        ∧ (clamped = true ↔
            (∃ x, s.items.workMin = some x ∧ x ≠ wl) ∨ (∃ x, s.items.workMax = some x ∧ x ≠ wh) ∨ ¬ wl < wh ∨ r < m
            ∨ (k = .X ∧ ¬ s.items.xCold + 20 < s.items.xHot)
            ∨ (k = .X ∧ ∃ md, s.items.modeMargin = some md ∧ md ≠ .off))

/-- An accepted SEAL of a store starts it in JOINING with an empty zone table, no allowance, no clock, no schedule and no account.
That the first frame is built last is the model's reading (log 26). -/
def Obligations.SealStartsStore : Prop :=
  ∀ (s : State) (t : Nat) (tag : Byte) (a qc qd hot cold : Nat),
    s.seq.state = .offline → IsNew s tag .seal → s.items.kind = some .H → s.items.address = some a →
    s.items.qc = some qc → s.items.qd = some qd → s.items.sHot = some hot → s.items.sCold = some cold →
    Gives (.seal t tag) s fun u =>
      u.seq.state = .joining
      ∧ u.seq.joinTimer = some (max s.now t + (s.items.silence + 2) * ((s.items.vcode + 1) * 50))
      ∧ u.bus.statusTimer = some (max s.now t + (s.items.vcode + 1) * 50)
      ∧ (∃ f, u.bus.pendingStatus = some ⟨a, some .joining, .store f⟩ ∧ f.charge = 0 ∧ f.discharge = 0 ∧ f.hotZones = 0)
      ∧ u.share.timer = none ∧ u.share.command = 0
      ∧ u.heat.zones = List.replicate 8 ⟨none, .unclassified⟩ ∧ u.heat.hotZones = 0 ∧ u.heat.classCharge = 0
      ∧ u.heat.classDischarge = 0 ∧ u.heat.pubCharge = 0 ∧ u.heat.pubDischarge = 0 ∧ u.heat.outlet = 0
      ∧ u.clock = {} ∧ u.book.noms = [] ∧ u.book.orders = [] ∧ u.book.target = none ∧ u.account = {}
      ∧ u.link.holder = none
      ∧ u.link.staleTimer = some (max s.now t + s.items.staleLimit * ((s.items.vcode + 1) * 50))
      ∧ (cold + 20 < hot → u.inForce.hot = some hot ∧ u.inForce.cold = some cold
          ∧ u.link.owed = some ⟨tag, 2, .accept false⟩)
      ∧ (¬ cold + 20 < hot → cold ≤ 779 → u.inForce.hot = some (cold + 21) ∧ u.inForce.cold = some cold)
      ∧ (¬ cold + 20 < hot → 779 < cold → u.inForce.hot = some 800 ∧ u.inForce.cold = some 779)
      ∧ (∃ clamped, u.link.owed = some ⟨tag, 2, .accept clamped⟩)
      ∧ (s.link.reports.length < 16 →
          u.link.reports = s.link.reports ++ [⟨s.link.reportNo, .stateChange .offline .joining .sealed⟩])

/-- SET ITEM is refused UNKNOWN where it names nothing, in every state, and otherwise BAD_STATE outside OFFLINE. SEAL is refused
BAD_STATE once sealed and INCOMPLETE where a required item is unset or the native pair encloses no pressure. MEASURE is refused UNKNOWN
for a wrong length, BAD_STATE in OFFLINE and BAD_KIND for the other kind's form. Nothing changes. -/
def Obligations.ConfigurationRefusals : Prop :=
  (∀ (s : State) (t : Nat) (tag item monitor : Byte) (value : Word), IsNew s tag (.setItem item monitor value) →
    (NamesNothing item.toNat monitor.toNat value.toInt →
      exec (.setItem t tag item monitor value) s =
        .next (answered (s.atInstant t) tag (.setItem item monitor value) (.refuse .unknown)))
    ∧ (¬ NamesNothing item.toNat monitor.toNat value.toInt → s.seq.state ≠ .offline →
      exec (.setItem t tag item monitor value) s =
        .next (answered (s.atInstant t) tag (.setItem item monitor value) (.refuse .badState))))
  ∧ ∀ (s : State) (t : Nat) (tag : Byte),
    (IsNew s tag .seal → s.seq.state ≠ .offline →
      exec (.seal t tag) s = .next (answered (s.atInstant t) tag .seal (.refuse .badState)))
    ∧ (IsNew s tag .seal → s.seq.state = .offline →
        (s.items.address = none ∨ s.items.kind = none
          ∨ (s.items.kind ≠ some .H ∧ (s.items.cavern = none ∨ s.items.rated = none ∨ s.items.minLoad = none
              ∨ s.items.nativeMin = none ∨ s.items.nativeMax = none
              ∨ ∃ lo hi, s.items.nativeMin = some lo ∧ s.items.nativeMax = some hi ∧ hi ≤ lo))
          ∨ (s.items.kind = some .H ∧ (s.items.qc = none ∨ s.items.qd = none ∨ s.items.sHot = none ∨ s.items.sCold = none))) →
        exec (.seal t tag) s = .next (answered (s.atInstant t) tag .seal (.refuse .incomplete)))
    ∧ (∀ zones : List Half, zones.length ≠ 8 → IsNew s tag (.measure (.store zones)) →
        exec (.measure t tag (.store zones)) s =
          .next (answered (s.atInstant t) tag (.measure (.store zones)) (.refuse .unknown)))
    ∧ (∀ form : MeasureForm, form.wellFormed = true → IsNew s tag (.measure form) → s.seq.state = .offline →
        exec (.measure t tag form) s = .next (answered (s.atInstant t) tag (.measure form) (.refuse .badState)))
    ∧ (∀ o f p h m : Half, s.isStore = true → IsNew s tag (.measure (.train o f p h m)) → s.seq.state ≠ .offline →
        exec (.measure t tag (.train o f p h m)) s =
          .next (answered (s.atInstant t) tag (.measure (.train o f p h m)) (.refuse .badKind)))
    ∧ (∀ zones : List Half, zones.length = 8 → s.isTrain = true → IsNew s tag (.measure (.store zones)) →
        s.seq.state ≠ .offline →
        exec (.measure t tag (.store zones)) s =
          .next (answered (s.atInstant t) tag (.measure (.store zones)) (.refuse .badKind)))

/-! ## Measurements -/

/-- A train's MEASURE is taken in every state after the seal: the holder takes the clamped fields, the stale timer restarts, the own
energy is credited at the held output, and the command never rises: where the record does not trip the train it is cut to the U read with
the record and the monitor cap, with a SETPOINT where it fell, and a trip sends one with command 0. Where the record's read of U ends a
leave, the station is in OFFLINE and its holder empty. The mode in that SETPOINT is the model's choice (log 40), the state in the
trip's its reading (log 11). -/
def Obligations.TrainMeasureTaken : Prop :=
  ∀ (s : State) (t : Nat) (tag : Byte) (o f p h m : Half),
    s.isTrain = true → s.seq.state ≠ .offline → IsNew s tag (.measure (.train o f p h m)) →
    Gives (.measure t tag (.train o f p h m)) s fun u =>
      u.now = max s.now t
      ∧ u.link.owed = some ⟨tag, 3, .accept (decide (2500 < o.toNat ∨ 1000 < f.toNat ∨ 25000 < p.toNat ∨ 800 < h.toNat
          ∨ 1000 < m.toNat))⟩
      ∧ (u.seq.state ≠ .offline →
          u.link.holder = some ⟨.train (min o.toNat 2500) (min f.toNat 1000) (min p.toNat 25000) (min h.toNat 800)
            (min m.toNat 1000), max s.now t⟩
          ∧ u.link.staleTimer = some (max s.now t + s.inForce.items.staleLimit * s.inForce.p) ∧ u.link.staleMark = false
          ∧ u.account.ownPoint = some ⟨min o.toNat 2500, max s.now t⟩)
      ∧ (u.seq.state = .offline → s.seq.state = .leaving ∧ u.link.holder = none ∧ u.account.ownPoint = none)
      ∧ (s.account.openRec ≠ none → ∀ q, s.account.ownPoint = some q →
          u.account.ownAcc = s.account.ownAcc
            + (if s.inForce.kind = some .C then -1 else 1) * ((q.output : Int) * ((max s.now t - q.since : Nat) : Int)))
      ∧ (s.account.openRec = none ∨ s.account.ownPoint = none → u.account.ownAcc = s.account.ownAcc)
      ∧ (¬ (u.seq.state = .tripped ∧ s.seq.state ≠ .tripped) → ∃ cap, (u.seq.state ≠ .offline → u.bank.cap = cap)
          ∧ CutAtRead s u (limitRead s (some ⟨.train (min o.toNat 2500) (min f.toNat 1000) (min p.toNat 25000) (min h.toNat 800)
              (min m.toNat 1000), max s.now t⟩) s.view cap))
      ∧ (u.seq.state = .tripped → s.seq.state ≠ .tripped → u.share.command = 0
          ∧ (s.share.command ≠ 0 → ∃ q, u.link.setpoint = some q ∧ q.command = 0 ∧ q.state = .tripped)
          ∧ (s.share.command = 0 → u.link.setpoint = s.link.setpoint))
      ∧ u.share.command ≤ s.share.command
      ∧ u.items = s.items ∧ u.inForce = s.inForce ∧ u.clock = s.clock ∧ u.permit = s.permit
      ∧ u.book.noms = s.book.noms ∧ u.book.orders = s.book.orders ∧ u.book.target = s.book.target
      ∧ u.account.log = s.account.log ∧ u.heat.zones = s.heat.zones

/-- A store's MEASURE classes every zone by R87's table from its new temperature and its class before, and derives the hot count, the
classified allowances and the outlet temperature, and the published allowances by the state and M_ZONE_HIGH, its RETRY included. -/
def Obligations.StoreMeasureClassesZones : Prop :=
  ∀ (s : State) (t : Nat) (tag : Byte) (zones : List Half) (hot cold : Nat),
    s.isStore = true → s.seq.state ≠ .offline → IsNew s tag (.measure (.store zones)) → zones.length = 8 →
    s.heat.zones.length = 8 → s.inForce.hot = some hot → s.inForce.cold = some cold → cold + 20 < hot →
    Gives (.measure t tag (.store zones)) s fun u =>
      u.heat.zones.length = 8
      ∧ (∀ i, i < 8 → ∀ v, zones[i]? = some v → ∀ before, s.heat.zones[i]? = some before →
          ∃ cls, u.heat.zones[i]? = some ⟨some (min v.toNat 800), cls⟩ ∧ ZoneRule hot cold before.cls (min v.toNat 800) cls)
      ∧ u.heat.hotZones = (u.heat.zones.filter fun z => z.cls = .hot).length
      ∧ (u.heat.hotZones ≤ 6 → u.heat.classCharge = s.inForce.items.qc.getD 0)
      ∧ (u.heat.hotZones = 7 → u.heat.classCharge = s.inForce.items.qc.getD 0 / 2)
      ∧ (u.heat.hotZones = 8 → u.heat.classCharge = 0)
      ∧ (2 ≤ u.heat.hotZones → u.heat.classDischarge = s.inForce.items.qd.getD 0)
      ∧ (u.heat.hotZones = 1 → u.heat.classDischarge = s.inForce.items.qd.getD 0 / 2)
      ∧ (u.heat.hotZones = 0 → u.heat.classDischarge = 0)
      ∧ (∀ v, zones[0]? = some v → u.heat.outlet = min v.toNat 800)
      ∧ u.link.holder = some ⟨.store (zones.map fun z => min z.toNat 800), max s.now t⟩ ∧ u.link.staleMark = false
      ∧ u.link.staleTimer = some (max s.now t + s.inForce.items.staleLimit * s.inForce.p)
      ∧ u.link.owed = some ⟨tag, 3, .accept (zones.any fun z => decide (800 < z.toNat))⟩
      ∧ (u.seq.state ≠ .active → u.heat.pubCharge = 0 ∧ u.heat.pubDischarge = 0)
      ∧ (u.seq.state = .active → u.bank.zoneHigh.cond ≠ .active → u.bank.stale.cond ≠ .active →
          u.heat.pubCharge = u.heat.classCharge ∧ u.heat.pubDischarge = u.heat.classDischarge)
      ∧ u.bank.stale.cond ≠ .active
      ∧ (u.seq.state = .active → u.bank.zoneHigh.cond = .active → u.inForce.modes.zoneHigh = .retry →
          u.heat.pubCharge = 0 ∧ u.heat.pubDischarge = u.heat.classDischarge)
      ∧ (u.seq.state = .active → u.bank.zoneHigh.cond = .active → u.inForce.modes.zoneHigh ≠ .retry →
          u.heat.pubCharge = u.heat.classCharge ∧ u.heat.pubDischarge = u.heat.classDischarge)
      ∧ u.items = s.items ∧ u.inForce = s.inForce ∧ u.view = s.view ∧ u.account.log = s.account.log

/-! ## Time and schedule -/

/-- SET TIME: refused BAD_STATE in OFFLINE and BAD_KIND on a store, and on a train the number waits for the next accepted pulse, which
makes it the current number; nothing else of the clock changes before. -/
def Obligations.SetTimeWaitsForPulse : Prop :=
  ∀ (s : State) (t : Nat) (tag : Byte) (number : Word), IsNew s tag (.setTime number) →
    (s.seq.state = .offline →
      exec (.setTime t tag number) s = .next (answered (s.atInstant t) tag (.setTime number) (.refuse .badState)))
    ∧ (s.seq.state ≠ .offline → s.isStore = true →
      exec (.setTime t tag number) s = .next (answered (s.atInstant t) tag (.setTime number) (.refuse .badKind)))
    ∧ (s.seq.state ≠ .offline → s.isTrain = true →
      exec (.setTime t tag number) s =
        .next (answered { s.atInstant t with clock := { s.clock with pending := some (min number.toNat 4294967294) } } tag
          (.setTime number) (.accept (decide (number.toNat = 4294967295))))
      ∧ ∀ t' : Nat, t ≤ t' → s.clock.current = none →
          Gives (.boundaryPulse t')
            (answered { s.atInstant t with clock := { s.clock with pending := some (min number.toNat 4294967294) } } tag
              (.setTime number) (.accept (decide (number.toNat = 4294967295)))) fun u =>
            u.clock.current = some (min number.toNat 4294967294) ∧ u.clock.pending = none)

/-- NOMINATE on a timed train, for a first interval after the current one, sets the power of its range and leaves every other interval's
as it was; the target does not change. -/
def Obligations.NominateCoversItsRange : Prop :=
  ∀ (s : State) (t : Nat) (tag : Byte) (first : Word) (count power : Half) (i f c : Nat),
    s.isTrain = true → s.seq.state ≠ .offline → IsNew s tag (.nominate first count power) → s.clock.current = some i →
    ListLaw s.book.noms → f = min first.toNat 4294967294 → c = takenCount f count.toNat → i < f →
    s.book.noms.length + 2 ≤ 32 →
    Gives (.nominate t tag first count power) s fun u =>
      ListLaw u.book.noms ∧ u.book.noms.length ≤ s.book.noms.length + 2
      ∧ CoversAfter s.book.noms u.book.noms f c (max (-3000) (min power.toInt 3000))
      ∧ ∃ clamped, u = answered { s.atInstant t with book := { s.book with noms := u.book.noms } } tag
          (.nominate first count power) (.accept clamped)
        ∧ (clamped = true ↔ first.toNat = 4294967295 ∨ 96 < count.toNat
            ∨ 4294967295 - f < (if count.toNat = 0 then 96 else min count.toNat 96)
            ∨ power.toInt < -3000 ∨ 3000 < power.toInt)

/-- ORDER on a timed train, for a first interval not before the current one, sets the delta of its range, leaves every other interval's
as it was, and marks the current interval where the range covers it. -/
def Obligations.OrderCoversItsRange : Prop :=
  ∀ (s : State) (t : Nat) (tag : Byte) (first : Word) (count delta : Half) (i f c : Nat),
    s.isTrain = true → s.seq.state ≠ .offline → IsNew s tag (.order first count delta) → s.clock.current = some i →
    ListLaw s.book.orders → f = min first.toNat 4294967294 → c = takenCount f count.toNat → i ≤ f →
    s.book.orders.length + 2 ≤ 16 →
    Gives (.order t tag first count delta) s fun u =>
      ListLaw u.book.orders ∧ u.book.orders.length ≤ s.book.orders.length + 2
      ∧ CoversAfter s.book.orders u.book.orders f c (max (-3000) (min delta.toInt 3000))
      ∧ ∃ clamped, u = answered { s.atInstant t with book := { s.book with
            orders := u.book.orders, orderChanged := s.book.orderChanged || decide (f = i) } } tag
          (.order first count delta) (.accept clamped)
        ∧ (clamped = true ↔ first.toNat = 4294967295 ∨ 96 < count.toNat
            ∨ 4294967295 - f < (if count.toNat = 0 then 96 else min count.toNat 96)
            ∨ delta.toInt < -3000 ∨ 3000 < delta.toInt)

/-- CANCEL on a timed train leaves no interval of its range covered and every other as it was, in the list it names; a range that meets
no entry changes nothing, and one after the current interval leaves the order-changed mark (the order-changed mark at such a range: log 14, the model's choice). -/
def Obligations.CancelClearsItsRange : Prop :=
  ∀ (s : State) (t : Nat) (tag : Byte) (first : Word) (count : Half) (i f c : Nat),
    s.isTrain = true → s.seq.state ≠ .offline → s.clock.current = some i →
    f = min first.toNat 4294967294 → c = takenCount f count.toNat →
    (IsNew s tag (.cancel 1 first count) → ListLaw s.book.noms → i < f → s.book.noms.length + 1 ≤ 32 →
      Gives (.cancel t tag 1 first count) s fun u =>
        ListLaw u.book.noms ∧ TrimmedAfter s.book.noms u.book.noms f c
        ∧ ((∀ j, f ≤ j → j < f + c → coveringEntry s.book.noms j = none) → u.book = s.book)
        ∧ ∃ clamped, u = answered { s.atInstant t with book := { s.book with noms := u.book.noms } } tag
            (.cancel 1 first count) (.accept clamped))
    ∧ (IsNew s tag (.cancel 2 first count) → ListLaw s.book.orders → i ≤ f → s.book.orders.length + 1 ≤ 16 →
      Gives (.cancel t tag 2 first count) s fun u =>
        ListLaw u.book.orders ∧ TrimmedAfter s.book.orders u.book.orders f c
        ∧ ((∀ j, f ≤ j → j < f + c → coveringEntry s.book.orders j = none) → u.book = s.book)
        ∧ (coveringEntry s.book.orders i ≠ none → f = i → u.book.orderChanged = true)
        ∧ (i < f → u.book.orderChanged = s.book.orderChanged)
        ∧ ∃ clamped, u = answered { s.atInstant t with book := { s.book with
              orders := u.book.orders, orderChanged := u.book.orderChanged } } tag
            (.cancel 2 first count) (.accept clamped))

/-- The refusals of NOMINATE, ORDER and CANCEL in their order, each changing nothing; past the other refusals BOOK_FULL is given exactly
where the trimmed list, with the new entry of a NOMINATE or ORDER, would pass its capacity, and otherwise the request is accepted. A
request that replaces one entry by one of the same range is thus accepted on a full list. -/
def Obligations.BookRequestRefusals : Prop :=
  ∀ (s : State) (t : Nat) (tag : Byte) (first : Word) (count v : Half),
    (∀ code : Refuse,
      ((s.seq.state = .offline ∧ code = .badState)
        ∨ (s.seq.state ≠ .offline ∧ s.isStore = true ∧ code = .badKind)
        ∨ (s.seq.state ≠ .offline ∧ s.isStore = false ∧ s.clock.current = none ∧ code = .noTime)) →
      (IsNew s tag (.nominate first count v) → exec (.nominate t tag first count v) s =
        .next (answered (s.atInstant t) tag (.nominate first count v) (.refuse code)))
      ∧ (IsNew s tag (.order first count v) → exec (.order t tag first count v) s =
        .next (answered (s.atInstant t) tag (.order first count v) (.refuse code)))
      ∧ (∀ list : Byte, list = 1 ∨ list = 2 → IsNew s tag (.cancel list first count) →
        exec (.cancel t tag list first count) s =
          .next (answered (s.atInstant t) tag (.cancel list first count) (.refuse code))))
    ∧ (∀ list : Byte, list ≠ 1 → list ≠ 2 → IsNew s tag (.cancel list first count) →
        exec (.cancel t tag list first count) s =
          .next (answered (s.atInstant t) tag (.cancel list first count) (.refuse .unknown)))
    ∧ (∀ i, s.clock.current = some i → s.seq.state ≠ .offline → s.isStore = false →
        (min first.toNat 4294967294 ≤ i →
          (IsNew s tag (.nominate first count v) → exec (.nominate t tag first count v) s =
            .next (answered (s.atInstant t) tag (.nominate first count v) (.refuse .tooLate)))
          ∧ (IsNew s tag (.cancel 1 first count) → exec (.cancel t tag 1 first count) s =
            .next (answered (s.atInstant t) tag (.cancel 1 first count) (.refuse .tooLate))))
        ∧ (min first.toNat 4294967294 < i →
          (IsNew s tag (.order first count v) → exec (.order t tag first count v) s =
            .next (answered (s.atInstant t) tag (.order first count v) (.refuse .tooLate)))
          ∧ (IsNew s tag (.cancel 2 first count) → exec (.cancel t tag 2 first count) s =
            .next (answered (s.atInstant t) tag (.cancel 2 first count) (.refuse .tooLate))))
        ∧ (i < min first.toNat 4294967294 → IsNew s tag (.nominate first count v) → ListLaw s.book.noms →
            s.book.noms.length ≤ 32 →
            (∃ e ∈ s.book.noms, e.first = min first.toNat 4294967294
              ∧ e.count = takenCount (min first.toNat 4294967294) count.toNat) →
            Gives (.nominate t tag first count v) s fun u =>
              (∃ clamped, u.link.owed = some ⟨tag, 5, .accept clamped⟩) ∧ u.book.noms.length = s.book.noms.length)
        ∧ (i < min first.toNat 4294967294 → IsNew s tag (.nominate first count v) → s.book.noms.length = 32 →
            (∀ e ∈ s.book.noms, e.first + e.count ≤ min first.toNat 4294967294
              ∨ min first.toNat 4294967294 + takenCount (min first.toNat 4294967294) count.toNat ≤ e.first) →
            (∀ e ∈ s.book.noms, 1 ≤ e.count) →
            exec (.nominate t tag first count v) s =
              .next (answered (s.atInstant t) tag (.nominate first count v) (.refuse .bookFull))))
    ∧ (∀ i f c, s.clock.current = some i → s.seq.state ≠ .offline → s.isStore = false → f = min first.toNat 4294967294 →
        c = takenCount f count.toNat →
        (i < f → ListLaw s.book.noms → IsNew s tag (.nominate first count v) →
          (32 < entriesLeft f c s.book.noms + 1 → exec (.nominate t tag first count v) s =
            .next (answered (s.atInstant t) tag (.nominate first count v) (.refuse .bookFull)))
          ∧ (entriesLeft f c s.book.noms + 1 ≤ 32 → Gives (.nominate t tag first count v) s fun u =>
              (∃ clamped, u.link.owed = some ⟨tag, 5, .accept clamped⟩) ∧ u.book.noms.length = entriesLeft f c s.book.noms + 1))
        ∧ (i ≤ f → ListLaw s.book.orders → IsNew s tag (.order first count v) →
          (16 < entriesLeft f c s.book.orders + 1 → exec (.order t tag first count v) s =
            .next (answered (s.atInstant t) tag (.order first count v) (.refuse .bookFull)))
          ∧ (entriesLeft f c s.book.orders + 1 ≤ 16 → Gives (.order t tag first count v) s fun u =>
              (∃ clamped, u.link.owed = some ⟨tag, 6, .accept clamped⟩) ∧ u.book.orders.length = entriesLeft f c s.book.orders + 1))
        ∧ (i < f → ListLaw s.book.noms → IsNew s tag (.cancel 1 first count) →
          (32 < entriesLeft f c s.book.noms → exec (.cancel t tag 1 first count) s =
            .next (answered (s.atInstant t) tag (.cancel 1 first count) (.refuse .bookFull)))
          ∧ (entriesLeft f c s.book.noms ≤ 32 → Gives (.cancel t tag 1 first count) s fun u =>
              (∃ clamped, u.link.owed = some ⟨tag, 7, .accept clamped⟩) ∧ u.book.noms.length = entriesLeft f c s.book.noms))
        ∧ (i ≤ f → ListLaw s.book.orders → IsNew s tag (.cancel 2 first count) →
          (16 < entriesLeft f c s.book.orders → exec (.cancel t tag 2 first count) s =
            .next (answered (s.atInstant t) tag (.cancel 2 first count) (.refuse .bookFull)))
          ∧ (entriesLeft f c s.book.orders ≤ 16 → Gives (.cancel t tag 2 first count) s fun u =>
              (∃ clamped, u.link.owed = some ⟨tag, 7, .accept clamped⟩) ∧ u.book.orders.length = entriesLeft f c s.book.orders)))

/-! ## CLEAR, LEAVE, RESTART -/

/-- CLEAR: refused in OFFLINE and in TRIPPED while a latched condition stands, with nothing changed; otherwise accepted, unlatching the
latched monitors whose conditions have gone, and returning a tripped train to STANDBY and a tripped store to ACTIVE with its published
allowances by R89's lines; outside TRIPPED the command is cut to the U read, with a SETPOINT where it fell.
That its reports come before one of the read of U is the model's choice (log 38), and so is the mode in the SETPOINT of a leave's end (log 40). -/
def Obligations.ClearUnlatches : Prop :=
  ∀ (s : State) (t : Nat) (tag : Byte), IsNew s tag .clear →
    (s.seq.state = .offline → exec (.clear t tag) s = .next (answered (s.atInstant t) tag .clear (.refuse .badState)))
    ∧ (s.seq.state = .tripped → (∃ m, (s.bank.monitor m).cond = .latched ∧ (s.bank.monitor m).mark = true) →
        exec (.clear t tag) s = .next (answered (s.atInstant t) tag .clear (.refuse .badState)))
    ∧ (s.seq.state = .tripped → (∀ m, (s.bank.monitor m).cond = .latched → (s.bank.monitor m).mark = false) →
        Gives (.clear t tag) s fun u =>
          u.seq.state = (if s.isStore then .active else .standby) ∧ u.seq.tripOut = false
          ∧ (s.isStore = false → u.share.command = 0 ∧ u.share.wake = 0)
          ∧ (s.isStore = true → PublishedByTable u)
          ∧ (∀ m, u.bank.monitor m = if (s.bank.monitor m).cond = .latched then ⟨.clear, 0, 0, false⟩ else s.bank.monitor m)
          ∧ u.link.owed = some ⟨tag, 8, .accept false⟩
          ∧ (s.link.reports.length + 2 ≤ 16 → ∃ more, u.link.reports = s.link.reports ++
              [⟨s.link.reportNo, .tripCleared⟩,
               ⟨(s.link.reportNo + 1) % 65536, .stateChange .tripped (if s.isStore then .active else .standby) .clear⟩] ++ more)
          ∧ u.items = s.items ∧ u.inForce = s.inForce ∧ u.clock = s.clock ∧ u.book = s.book ∧ u.view = s.view
          ∧ u.account = s.account ∧ u.permit = s.permit)
    ∧ (s.seq.state ≠ .offline → s.seq.state ≠ .tripped →
        Gives (.clear t tag) s fun u =>
          u.link.owed = some ⟨tag, 8, .accept false⟩
          ∧ (u.seq.state = s.seq.state ∨ (s.seq.state = .leaving ∧ u.seq.state = .offline))
          ∧ (u.seq.state ≠ .offline → ∀ m, u.bank.monitor m =
              if (s.bank.monitor m).cond = .latched ∧ (s.bank.monitor m).mark = false then ⟨.clear, 0, 0, false⟩
              else s.bank.monitor m)
          ∧ CutAtRead s u (limitRead s s.link.holder s.view s.bank.cap)
          ∧ (s.isStore = true → u.seq.state = .active → PublishedByTable u)
          ∧ u.share.command ≤ s.share.command ∧ u.items = s.items ∧ u.inForce = s.inForce ∧ u.clock = s.clock)

/-- LEAVE by the state: refused in OFFLINE, JOINING, TRIPPED and CONFLICT; at once to OFFLINE, with the ALERT, the SETPOINT and the
report, from STANDBY, STARTING and RUNNING at command 0; to LEAVING from RUNNING under load and from ACTIVE; without effect in LEAVING.
That the whole bank stays as it is from RUNNING to LEAVING, M_THERMAL and M_MARGIN included, is the model's reading of R126 and R127
(log 27), and so is the mode NORMAL of the SETPOINT at the end (log 40). -/
def Obligations.LeaveByState : Prop :=
  ∀ (s : State) (t : Nat) (tag : Byte), IsNew s tag .leave →
    (s.seq.state = .offline ∨ s.seq.state = .joining ∨ s.seq.state = .tripped ∨ s.seq.state = .conflict →
      exec (.leave t tag) s = .next (answered (s.atInstant t) tag .leave (.refuse .badState)))
    ∧ (s.seq.state = .leaving → exec (.leave t tag) s = .next (answered (s.atInstant t) tag .leave (.accept false)))
    ∧ (s.seq.state = .standby ∨ s.seq.state = .starting ∨ (s.seq.state = .running ∧ s.share.command = 0) →
        Gives (.leave t tag) s fun u =>
          u.seq.state = .offline ∧ u.seq.available = false ∧ u.seq.startTimer = none ∧ u.seq.standbyTimer = none
          ∧ u.bus.statusTimer = none ∧ u.bus.pendingStatus = none ∧ u.bus.rx = [] ∧ u.view = []
          ∧ (∃ cut, u.bus.pendingAlert = some ⟨s.inForce.address, .leave, cut⟩
              ∧ (s.isTrain = true → cut.last = s.share.lastLoaded)
              ∧ (∀ i, s.clock.current = some i → ∀ e, coveringEntry s.book.noms i = some e → s.isTrain = true →
                  cut.first = some e.first ∧ cut.toRun = e.first + e.count - i)
              ∧ (∀ o, s.account.openRec = some o → ∃ o', u.account.openRec = some o' ∧ o'.cut = some ⟨.leave, cut⟩
                  ∧ o'.interval = o.interval))
          ∧ u.share.command = 0 ∧ u.share.timer = none ∧ u.share.lastLoaded = s.share.lastLoaded
          ∧ u.link.setpoint = some ⟨0, false, .offline⟩ ∧ u.link.holder = none ∧ u.link.staleTimer = none
          ∧ u.account.ownPoint = none ∧ u.account.peerPoints = [] ∧ u.account.log = s.account.log
          ∧ u.book.held = none ∧ u.book.noms = s.book.noms ∧ u.book.orders = s.book.orders ∧ u.book.target = s.book.target
          ∧ u.items = s.items ∧ u.inForce = s.inForce ∧ u.clock = s.clock
          ∧ u.link.owed = some ⟨tag, 9, .accept false⟩ ∧ Queued s u (.stateChange s.seq.state .offline .leaveEnd))
    ∧ (s.seq.state = .running → s.share.command ≠ 0 →
        Gives (.leave t tag) s fun u =>
          u.seq.state = .leaving ∧ u.seq.available = false ∧ u.seq.standbyTimer = none ∧ u.share = s.share ∧ u.bank = s.bank
          ∧ u.view = s.view ∧ u.bus = s.bus ∧ u.book = s.book ∧ u.account = s.account
          ∧ u.link.owed = some ⟨tag, 9, .accept false⟩ ∧ Queued s u (.stateChange .running .leaving .leave))
    ∧ (s.seq.state = .active → s.isStore = true →
        Gives (.leave t tag) s fun u =>
          u.seq.state = .leaving ∧ u.seq.leaveCount = 0 ∧ u.heat.pubCharge = 0 ∧ u.heat.pubDischarge = 0
          ∧ u.heat.zones = s.heat.zones ∧ u.bus = s.bus ∧ u.view = s.view
          ∧ u.link.owed = some ⟨tag, 9, .accept false⟩ ∧ Queued s u (.stateChange .active .leaving .leave))

/-- RESTART is accepted in every state: the station is as after power-on reset with its delivery log kept, the RESTART with its ACCEPT
is the kept request and is owed, and a frame or record whose sending had begun goes on.
What of a transmission goes on is the model's reading (log 18). -/
def Obligations.RestartKeepsOnlyLog : Prop :=
  ∀ (s : State) (t : Nat) (tag : Byte), IsNew s tag .restart →
    exec (.restart t tag) s =
      .next (answered { State.reset with
          now := max s.now t, permit := s.permit, free := s.free, pending := s.pending, bus := { onBus := s.bus.onBus },
          account := { log := s.account.log }, link := { sending := s.link.sending } } tag .restart (.accept false))

/-! ## Queries -/

/-- QUERY STATE answers the DATA list of the station as it stands: under each number of 10.4 that the kind has, the value its rule
gives, under every other number nothing. It clears REPORTS DISCARDED and changes nothing else (but the model's counter of free values).
Which fields it has before a seal is the model's reading (log 7), a value that does not fit its field is free (log 8, log 32), and so
are the address and kind bytes while those items are unset (log 6). -/
def Obligations.QueryStateShowsStation : Prop :=
  ([StationState.offline, .joining, .standby, .starting, .running, .leaving, .tripped, .conflict, .active].map StationState.code
      = [0, 1, 2, 3, 4, 5, 6, 7, 8]
    ∧ [Kind.C, .X, .H].map Kind.code = [1, 2, 3] ∧ [Mode.latch, .retry, .warn, .off].map Mode.code = [1, 2, 3, 4]
    ∧ [Cond.clear, .pending, .active, .latched].map Cond.code = [0, 1, 2, 3]
    ∧ [ZoneClass.unclassified, .hot, .warm, .cold].map ZoneClass.code = [0, 1, 2, 3])
  ∧ ∀ (s : State) (t : Nat) (tag : Byte), IsNew s tag .queryState → CapacityLaw s →
    (∀ zones r, s.link.holder = some ⟨.store zones, r⟩ → zones.length = 8) →
    Gives (.queryState t tag) s fun u => ∃ body,
      u = answered { s.atInstant t with free := s.free + 1, link := { s.link with discarded := false } } tag .queryState
        (.data body)
      ∧ (∀ n : Byte, n.toNat ∉ queryNumbers s.items.kind → itemValue n 100 body = none)
      ∧ (∀ a, s.items.address = some a → Shows body 1 [byteOf a])
      ∧ (s.items.address = none → ∃ b, Shows body 1 [b])
      ∧ (∀ k, s.items.kind = some k → Shows body 2 [byteOf k.code])
      ∧ (s.items.kind = none → ∃ b, Shows body 2 [b])
      ∧ Shows body 3 [byteOf s.seq.state.code] ∧ Shows body 4 (flagShown s.permit) ∧ Shows body 5 (flagShown s.seq.tripOut)
      ∧ Shows body 6 (bytes2 s.link.faults) ∧ Shows body 7 [byteOf s.link.reports.length]
      ∧ Shows body 8 (flagShown s.link.discarded) ∧ Shows body 9 [byteOf s.view.length]
      ∧ Shows body 10 (flagShown s.link.staleMark)
      ∧ (s.link.holder = none → Shows body 11 [255, 255, 255, 255] ∧ Shows body 12 [])
      ∧ (∀ m r, s.link.holder = some ⟨m, r⟩ → max s.now t - r < 4294967296 → Shows body 11 (bytes4 (max s.now t - r)))
      ∧ (∀ o f p h m r, s.link.holder = some ⟨.train o f p h m, r⟩ →
          Shows body 12 (bytes2 o ++ bytes2 f ++ bytes2 p ++ bytes2 h ++ bytes2 m))
      ∧ (∀ zones r, s.link.holder = some ⟨.store zones, r⟩ → Shows body 12 (zones.flatMap bytes2))
      ∧ Shows body 80 (flagShown s.seq.tripHeld)
      ∧ (s.seq.joinTimer = none → s.seq.startTimer = none → s.seq.standbyTimer = none → Shows body 81 [0, 0, 0, 0, 0])
      ∧ (∀ d, s.seq.joinTimer = some d → d - max s.now t < 4294967296 → Shows body 81 (1 :: bytes4 (d - max s.now t)))
      ∧ (∀ d, s.seq.joinTimer = none → s.seq.startTimer = some d → d - max s.now t < 4294967296 →
          Shows body 81 (2 :: bytes4 (d - max s.now t)))
      ∧ (∀ d, s.seq.joinTimer = none → s.seq.startTimer = none → s.seq.standbyTimer = some d → d - max s.now t < 4294967296 →
          Shows body 81 (3 :: bytes4 (d - max s.now t)))
      ∧ Shows body 83 [byteOf ((if s.bank.native.cond = .latched then 1 else 0) + (if s.bank.thermal.cond = .latched then 2 else 0)
          + (if s.bank.margin.cond = .latched then 4 else 0) + (if s.bank.stale.cond = .latched then 8 else 0)
          + (if s.bank.zoneHigh.cond = .latched then 16 else 0))]
      ∧ (s.account.openRec = none → Shows body 128 [255, 255, 255, 255])
      ∧ (∀ o, s.account.openRec = some o → Shows body 128 (bytes4 o.interval))
      ∧ Shows body 129 (signed4 (kWh s.account.ownAcc)) ∧ Shows body 130 (signed4 (kWh s.account.plantAcc))
      ∧ Shows body 133 [byteOf s.account.log.length]
      ∧ (∀ k, s.items.kind = some k → k ≠ .H →
          Shows body 13 (bytes2 s.share.command) ∧ Shows body 14 (bytes2 (upperLimit s))
          ∧ Shows body 15 (flagShown s.seq.available)
          ∧ Shows body 16 [match s.book.held with | none => 0 | some .noTime => 1 | some .disagree => 2]
          ∧ Shows body 17 (bytes4 (s.clock.current.getD 4294967295)) ∧ Shows body 18 (bytes4 (s.clock.pending.getD 4294967295))
          ∧ Shows body 19 (flagShown s.clock.free) ∧ Shows body 20 (signed2 (s.book.target.getD (-32768)))
          ∧ Shows body 32 (bytes2 (s.inForce.workMin.getD 65535)) ∧ Shows body 33 (bytes2 (s.inForce.workMax.getD 65535))
          ∧ (∀ o f p h m r, s.link.holder = some ⟨.train o f p h m, r⟩ → Shows body 34 (bytes2 p))
          ∧ (s.link.holder = none → Shows body 34 [255, 255])
          ∧ Shows body 35 (bytes2 (flowReservation s)) ∧ Shows body 36 (bytes2 (flowAllowance s))
          ∧ Shows body 37 (bytes2 (rateCap s)) ∧ Shows body 38 (bytes2 (bandCap s))
          ∧ Shows body 64 [byteOf (s.items.linked.getD 255)] ∧ Shows body 65 (flagShown (linkedStore s).isSome)
          ∧ (linkedStore s = none → Shows body 66 [255, 255] ∧ Shows body 67 [255, 255])
          ∧ (∀ f, linkedStore s = some f →
              Shows body 66 (bytes2 (if k = .C then f.charge else f.discharge)) ∧ Shows body 67 (bytes2 f.outlet))
          ∧ (heatReservation s < 65536 → Shows body 68 (bytes2 (heatReservation s))) ∧ (∃ a b, Shows body 68 [a, b])
          ∧ Shows body 75 (bytes2 (heatFlow s)) ∧ Shows body 82 [byteOf s.share.wake]
          ∧ Shows body 96 (monitorShown s .native) ∧ Shows body 99 (monitorShown s .stale)
          ∧ (s.bank.blankThermal = none → Shows body 97 (monitorShown s .thermal ++ [0, 0, 0, 0]))
          ∧ (∀ d, s.bank.blankThermal = some d → d - max s.now t < 4294967296 →
              Shows body 97 (monitorShown s .thermal ++ bytes4 (d - max s.now t)))
          ∧ (s.bank.blankMargin = none → Shows body 98 (monitorShown s .margin ++ [0, 0, 0, 0]))
          ∧ (∀ d, s.bank.blankMargin = some d → d - max s.now t < 4294967296 →
              Shows body 98 (monitorShown s .margin ++ bytes4 (d - max s.now t)))
          ∧ Shows body 101 (bytes2 s.bank.cap)
          ∧ (s.account.openRec = none → Shows body 131 [0, 0, 0, 0] ∧ Shows body 132 [0])
          ∧ (∀ o, s.account.openRec = some o → Shows body 131 (bytes4 o.periods)
              ∧ Shows body 132 [byteOf ((if o.heldSeen then 1 else 0) + (if o.trippedSeen then 2 else 0)
                  + (if o.clockFreeSeen then 4 else 0) + (if s.book.orderChanged then 8 else 0))]))
      ∧ (s.items.kind = some .C → Shows body 69 (bytes2 ((storeCapC s).getD 65535)) ∧ Shows body 70 (bytes2 (cooledCap s))
          ∧ Shows body 71 (flagShown s.heat.cooled))
      ∧ (s.items.kind = some .X → Shows body 69 (bytes2 (storeCapX s)) ∧ Shows body 72 (bytes2 (qualityCap s))
          ∧ Shows body 73 (bytes2 (s.inForce.hot.getD 65535)) ∧ Shows body 74 (bytes2 (s.inForce.cold.getD 65535)))
      ∧ (s.items.kind = some .H →
          (∀ i < 8, ∀ z, s.heat.zones[i]? = some z → Shows body (byteOf (48 + i)) (bytes2 (z.temp.getD 65535) ++ [byteOf z.cls.code]))
          ∧ Shows body 56 [byteOf s.heat.hotZones] ∧ Shows body 57 (bytes2 s.heat.classCharge)
          ∧ Shows body 58 (bytes2 s.heat.classDischarge) ∧ Shows body 59 (bytes2 s.heat.pubCharge)
          ∧ Shows body 60 (bytes2 s.heat.pubDischarge) ∧ Shows body 61 (bytes2 s.heat.outlet)
          ∧ Shows body 62 (bytes2 (s.inForce.hot.getD 65535)) ∧ Shows body 63 (bytes2 (s.inForce.cold.getD 65535))
          ∧ Shows body 99 (monitorShown s .stale) ∧ Shows body 100 (monitorShown s .zoneHigh))

/-- QUERY PEER answers the entry of the address with its status, relation, times and fields, or no entry; an address above 15, the
station's own, and every address in OFFLINE has none. Nothing changes. -/
def Obligations.QueryPeerShowsEntry : Prop :=
  ∀ (s : State) (t : Nat) (tag address : Byte), IsNew s tag (.queryPeer address) →
    ((∀ e ∈ s.view, e.address ≠ address.toNat) →
      exec (.queryPeer t tag address) s = .next (answered (s.atInstant t) tag (.queryPeer address) (.data [0])))
    ∧ (ViewLaw s → 15 < address.toNat ∨ address.toNat = s.inForce.address ∨ s.seq.state = .offline →
        exec (.queryPeer t tag address) s = .next (answered (s.atInstant t) tag (.queryPeer address) (.data [0])))
    ∧ (∀ e ∈ s.view, ViewLaw s → e.address = address.toNat → max s.now t - e.arrival < 4294967296 →
        (∀ d, e.holdEnd = some d → d - max s.now t < 4294967296) →
        exec (.queryPeer t tag address) s = .next (answered (s.atInstant t) tag (.queryPeer address)
          (.data ([byteOf (match e.status with | .present => 1 | .late => 2 | .lost => 3),
                   byteOf (match e.relation with | .linkedStore => 1 | .sameCavern => 2 | .other => 3)]
            ++ bytes4 (max s.now t - e.arrival)
            ++ bytes4 (if e.status = .lost then (match e.holdEnd with | some d => d - max s.now t | none => 0) else 0)
            ++ statusBody e.address e.state e.fields))))

/-- QUERY BOOK answers the number of entries and the one at the index, position 0 the earliest, in every state; a list byte that names no
list is refused UNKNOWN; a store's lists are empty. Nothing changes. -/
def Obligations.QueryBookShowsList : Prop :=
  ∀ (s : State) (t : Nat) (tag list index : Byte), IsNew s tag (.queryBook list index) →
    (∀ es : List BookEntry, (list = 1 ∧ es = s.book.noms) ∨ (list = 2 ∧ es = s.book.orders) →
      (∀ e, es[index.toNat]? = some e →
        exec (.queryBook t tag list index) s = .next (answered (s.atInstant t) tag (.queryBook list index)
          (.data (byteOf es.length :: (bytes4 e.first ++ bytes2 e.count ++ signed2 e.amount)))))
      ∧ (es.length ≤ index.toNat →
        exec (.queryBook t tag list index) s = .next (answered (s.atInstant t) tag (.queryBook list index)
          (.data [byteOf es.length])))
      ∧ (BookLaw s → ∀ e e', es[0]? = some e → e' ∈ es → e.first ≤ e'.first)
      ∧ (StoreLaw s → s.isStore = true → es = []))
    ∧ (list ≠ 1 → list ≠ 2 →
        exec (.queryBook t tag list index) s =
          .next (answered (s.atInstant t) tag (.queryBook list index) (.refuse .unknown)))

/-- READ LOG answers the oldest record with every field and the number held, and leaves it in the log; an empty log, and every store's,
answers a count of 0. -/
def Obligations.ReadLogShowsOldest : Prop :=
  ∀ (s : State) (t : Nat) (tag : Byte), IsNew s tag .readLog →
    (∀ r rs, s.account.log = r :: rs →
      exec (.readLog t tag) s = .next (answered (s.atInstant t) tag .readLog
        (.data (byteOf (rs.length + 1) :: (bytes4 r.interval ++ signed2 r.target ++ signed4 r.own ++ signed4 r.plant
          ++ signed4 r.deviation ++ bytes4 r.periods
          ++ [byteOf ((if r.heldSeen then 1 else 0) + (if r.trippedSeen then 2 else 0) + (if r.clockFreeSeen then 4 else 0)
                + (if r.orderChanged then 8 else 0) + (if r.olderDropped then 16 else 0)),
              match r.cut with | none => 0 | some c => (match c.reason with | .trip => 1 | .leave => 2)]
          ++ (match r.cut with
              | none => [255, 255, 255, 255, 0, 0, 255, 255, 255, 255]
              | some c => bytes4 (c.report.first.getD 4294967295) ++ bytes2 c.report.toRun
                  ++ bytes4 (c.report.last.getD 4294967295)))))))
    ∧ (s.account.log = [] → exec (.readLog t tag) s = .next (answered (s.atInstant t) tag .readLog (.data [0])))
    ∧ (StoreLaw s → s.isStore = true →
        exec (.readLog t tag) s = .next (answered (s.atInstant t) tag .readLog (.data [0])))

/-- RELEASE LOG removes the lesser of k and the number held from the head of the log, with CLAMPED where k exceeds it, in every state; on a
store it removes nothing, and RESTART brings no released record back. -/
def Obligations.ReleaseLogRemovesOldest : Prop :=
  ∀ (s : State) (t : Nat) (tag : Byte) (k : Half), IsNew s tag (.releaseLog k) →
    exec (.releaseLog t tag k) s =
      .next (answered { s.atInstant t with account := { s.account with log := s.account.log.drop (min k.toNat s.account.log.length) } }
        tag (.releaseLog k) (.accept (decide (s.account.log.length < k.toNat))))
    ∧ (k = 0 → exec (.releaseLog t tag k) s = .next (answered (s.atInstant t) tag (.releaseLog k) (.accept false)))
    ∧ (StoreLaw s → s.isStore = true →
        exec (.releaseLog t tag k) s = .next (answered (s.atInstant t) tag (.releaseLog k) (.accept (decide (0 < k.toNat)))))
    ∧ (∀ (s' : State) (t' : Nat) (tag' : Byte), IsNew s' tag' .restart →
        Gives (.restart t' tag') s' fun u => u.account.log = s'.account.log)

/-! ## The link -/

/-- A refused request changes no state of the station but the kept request with its reply. -/
def Obligations.RefusedRequestChangesNothing : Prop :=
  ∀ (c : Instr) (s : State) (t : Nat) (tag : Byte) (r : Request), asRequest c = some (t, tag, r) → IsNew s tag r →
    Gives c s fun u => ∃ a, u.link.owed = some ⟨tag, r.code, a⟩ ∧ u.link.kept = some ⟨r.code, tag, r.body, ⟨tag, r.code, a⟩⟩
      ∧ ∀ code, a = .refuse code → u = answered (s.atInstant t) tag r (.refuse code)

/-- A record that repeats the kept request is not taken again: its kept reply is owed once more. One whose code or length names no request is
refused UNKNOWN. One with a bad check, and any while a reply is owed, is discarded and counted, up to 65535. Nothing else changes. -/
def Obligations.RepeatedUnknownAndDamagedRecords : Prop :=
  (∀ (s : State) (t : Nat) (k : Kept), s.link.kept = some k → s.link.owed = none →
    exec (.repeatRequest t) s = .next { s.atInstant t with link := { s.link with owed := some k.reply } })
  ∧ (∀ (s : State) (t : Nat) (k : Kept), s.link.kept = some k → s.link.owed ≠ none →
    exec (.repeatRequest t) s = .next (counted (s.atInstant t)))
  ∧ (∀ (c : Instr) (s : State) (t : Nat) (tag : Byte) (r : Request) (k : Kept), asRequest c = some (t, tag, r) →
    s.link.owed = none → s.link.kept = some k → k.code = r.code → k.tag = tag → k.body = r.body →
    exec c s = .next { s.atInstant t with link := { s.link with owed := some k.reply } })
  ∧ (∀ (c : Instr) (s : State) (t : Nat) (tag : Byte) (r : Request), asRequest c = some (t, tag, r) → s.link.owed ≠ none →
    exec c s = .next (counted (s.atInstant t)))
  ∧ (∀ (s : State) (t : Nat) (code tag : Byte) (body : List Byte), namesRequest code body = false → s.link.owed = none →
    (∀ k, s.link.kept = some k → ¬ (k.code = code ∧ k.tag = tag ∧ k.body = body)) →
    exec (.unknownRequest t code tag body) s =
      .next { s.atInstant t with link := { s.link with
        kept := some ⟨code, tag, body, ⟨tag, code, .refuse .unknown⟩⟩, owed := some ⟨tag, code, .refuse .unknown⟩ } })
  ∧ (∀ (s : State) (t : Nat) (bytes : List Byte), checkGood bytes = false ∨ s.link.owed ≠ none →
    exec (.linkRecordDiscarded t bytes) s = .next (counted (s.atInstant t)))
  ∧ (∀ (s : State) (t : Nat) (code tag : Byte) (body : List Byte), s.link.owed ≠ none →
    exec (.unknownRequest t code tag body) s = .next (counted (s.atInstant t)))

/-- The idle transmitter begins the owed reply, else the pending SETPOINT, else the head report, and takes the last two out of their
places; a record that has gone out frees the transmitter, and a reply that has gone out is no longer owed. A produced report takes the
current number, which rises, and joins a queue of fewer than 16; at 16 it is discarded, REPORTS DISCARDED is set and the queue stays. -/
def Obligations.TransmitterTakesInOrder : Prop :=
  (∀ (s : State) (r : Report),
    (s.link.reports.length < 16 → produce r s = { s with link := { s.link with
      reports := s.link.reports ++ [⟨s.link.reportNo, r⟩], reportNo := (s.link.reportNo + 1) % 65536 } })
    ∧ (16 ≤ s.link.reports.length → produce r s = { s with link := { s.link with
      reportNo := (s.link.reportNo + 1) % 65536, discarded := true } }))
  ∧ ∀ (s : State) (t : Nat),
    (∀ x, s.link.sending = some x → exec (.linkTransmit t) s = .next (s.atInstant t))
    ∧ (∀ r, s.link.sending = none → s.link.owed = some r →
        exec (.linkTransmit t) s = .next { s.atInstant t with link := { s.link with sending := some ⟨true, r.encode⟩ } })
    ∧ (∀ p, s.link.sending = none → s.link.owed = none → s.link.setpoint = some p →
        exec (.linkTransmit t) s =
          .next { s.atInstant t with link := { s.link with sending := some ⟨false, p.encode⟩, setpoint := none } })
    ∧ (∀ r rs, s.link.sending = none → s.link.owed = none → s.link.setpoint = none → s.link.reports = r :: rs →
        exec (.linkTransmit t) s =
          .next { s.atInstant t with link := { s.link with sending := some ⟨false, r.encode⟩, reports := rs } })
    ∧ (s.link.sending = none → s.link.owed = none → s.link.setpoint = none → s.link.reports = [] →
        exec (.linkTransmit t) s = .next (s.atInstant t))
    ∧ (∀ x, s.link.sending = some x →
        exec (.linkRecordSent t) s = .next { s.atInstant t with link := { s.link with
          sending := none, owed := if x.isReply then none else s.link.owed } })

/-! ## The lines and the clock -/

/-- A change of PERMIT: its removal sends STARTING and RUNNING to STANDBY with command 0 and ends a train's leave, in every other state only
AVAILABLE follows; its return raises nothing.
The state in the SETPOINT is the model's reading (log 11), its mode at the end of a leave its choice (log 40), and so is the place of STATE CHANGE
before a report of the read of U (log 38). -/
def Obligations.PermitChangeMovesTrain : Prop :=
  ∀ (s : State) (t : Nat),
    (s.permit = false → Gives (.permitChange t true) s fun u =>
      u.permit = true ∧ u.seq = { s.seq with available := u.seq.available } ∧ (AvailableLaw u)
      ∧ u = { s.atInstant t with permit := true, seq := { s.seq with available := u.seq.available } })
    ∧ (s.permit = true → s.seq.state = .starting ∨ s.seq.state = .running → Gives (.permitChange t false) s fun u =>
      u.permit = false ∧ u.seq.state = .standby ∧ u.seq.available = false ∧ u.share.command = 0 ∧ u.share.wake = 0
      ∧ u.seq.startTimer = none ∧ u.seq.standbyTimer = none ∧ u.bank.blankThermal = (if s.seq.state = .running then none else s.bank.blankThermal)
      ∧ (s.isTrain = true → s.share.command ≠ 0 → ∃ p, u.link.setpoint = some p ∧ p.command = 0 ∧ p.state = .standby)
      ∧ Queued s u (.stateChange s.seq.state .standby .permit)
      ∧ u.items = s.items ∧ u.inForce = s.inForce ∧ u.clock = s.clock ∧ u.book = s.book ∧ u.view = s.view ∧ u.account = s.account)
    ∧ (s.permit = true → s.seq.state = .leaving → s.isTrain = true → Gives (.permitChange t false) s fun u =>
      u.permit = false ∧ u.seq.state = .offline ∧ u.share.command = 0
      ∧ (∃ cut, u.bus.pendingAlert = some ⟨s.inForce.address, .leave, cut⟩)
      ∧ (s.share.command ≠ 0 → u.link.setpoint = some ⟨0, false, .offline⟩)
      ∧ Queued s u (.stateChange .leaving .offline .leaveEnd))
    ∧ (s.permit = true → s.seq.state ≠ .starting → s.seq.state ≠ .running → (s.seq.state = .leaving → s.isTrain = false) →
        exec (.permitChange t false) s =
          .next { s.atInstant t with permit := false, seq := { s.seq with available := false } })

/-- A BOUNDARY pulse on a train's clock: ignored untimed with no pending number, and within L/2 of the last accepted pulse outside free run;
otherwise accepted, restarting the timing. The number becomes the pending one where one is held and otherwise advances, but a pulse
within L/2 of the last free-run advance leaves it. A store ignores pulses.
What counts as a store in OFFLINE is the model's choice (log 19). -/
def Obligations.BoundaryPulseOnClock : Prop :=
  (∀ (s : State) (t : Nat), s.isStore = true → exec (.boundaryPulse t) s = .next (s.atInstant t))
  ∧ ∀ (s : State) (t : Nat), s.isStore = false →
    (s.clock.current = none → s.clock.pending = none → exec (.boundaryPulse t) s = .next (s.atInstant t))
    ∧ (∀ n, s.clock.current = none → s.clock.pending = some n → Gives (.boundaryPulse t) s fun u =>
        u.clock = ⟨some n, none, some (max s.now t), none, false⟩)
    ∧ (∀ i p, s.clock.current = some i → s.clock.free = false → s.clock.lastPulse = some p →
        (2 * (max s.now t - p) < s.inForce.intervalMs → exec (.boundaryPulse t) s = .next (s.atInstant t))
        ∧ (s.inForce.intervalMs ≤ 2 * (max s.now t - p) → Gives (.boundaryPulse t) s fun u =>
            u.clock = ⟨some (s.clock.pending.getD (if 4294967294 ≤ i then 0 else i + 1)), none, some (max s.now t), none, false⟩))
    ∧ (∀ i a, s.clock.current = some i → s.clock.free = true → s.clock.lastAdvance = some a →
        (2 * (max s.now t - a) < s.inForce.intervalMs → s.clock.pending = none →
          exec (.boundaryPulse t) s =
            .next { s.atInstant t with clock := ⟨some i, none, some (max s.now t), none, false⟩ })
        ∧ (∀ n, s.clock.pending = some n → Gives (.boundaryPulse t) s fun u =>
            u.clock = ⟨some n, none, some (max s.now t), none, false⟩)
        ∧ (s.inForce.intervalMs ≤ 2 * (max s.now t - a) → s.clock.pending = none → Gives (.boundaryPulse t) s fun u =>
            u.clock = ⟨some (if 4294967294 ≤ i then 0 else i + 1), none, some (max s.now t), none, false⟩))

/-- An interval change purges the lists, derives the target, and closes the open interval into a record whose energies are the accumulators
in kWh, rounded half away from zero, after every span up to the change is credited, the station's own and each peer's, with the kind's sign; from JOINING onward the new interval is opened.
Every way to an interval change has this effect: the first timed pulse, a pulse outside free run and one in it, the start of free run and
each further advance, the last two with CLOCK FREE SEEN. A leave that ends at its LEAVE credits every span and keeps the interval open.
The accumulators are unbounded integers, the model's reading (log 15); the persistence count under HELD is its choice (log 39), the instants
(log 1) and the free-run L after a SEAL (log 34) too. -/
def Obligations.IntervalChangeClosesRecord : Prop :=
  ((∀ acc : Int, 0 ≤ acc → kWh acc = (acc + 18000) / 36000) ∧ ∀ acc : Int, kWh (-acc) = -kWh acc)
  ∧ (∀ (s : State) (t i n : Nat) (o : OpenRecord),
    s.isTrain = true → s.clock.current = some i → s.clock.free = false →
    (∃ p, s.clock.lastPulse = some p ∧ s.inForce.intervalMs ≤ 2 * (max s.now t - p)) →
    n = s.clock.pending.getD (if 4294967294 ≤ i then 0 else i + 1) → s.account.openRec = some o → s.account.log.length ≤ 48 →
    Gives (.boundaryPulse t) s fun u =>
      (∃ span : Int, (s.account.ownPoint = none → span = 0)
        ∧ (∀ q, s.account.ownPoint = some q →
            span = (if s.inForce.kind = some .C then -1 else 1) * ((q.output : Int) * ((max s.now t - q.since : Nat) : Int)))
        ∧ ∃ own : Int, own = s.account.ownAcc + span
        ∧ ∃ plant : Int, plant = s.account.plantAcc + span
            + (s.account.peerPoints.map fun p => (if p.kind = .C then -1 else if p.kind = .X then 1 else 0)
                * ((p.output : Int) * ((max s.now t - p.since : Nat) : Int))).sum
        ∧ u.account.log = (if s.account.log.length < 48 then s.account.log else s.account.log.drop 1) ++
          [{ interval := o.interval, target := o.target, own := kWh own, plant := kWh plant,
             deviation := kWh plant - o.target * (if s.inForce.items.interval = 15 then 25
               else if s.inForce.items.interval = 30 then 50 else 100),
             periods := o.periods, heldSeen := o.heldSeen, trippedSeen := o.trippedSeen, clockFreeSeen := o.clockFreeSeen,
             orderChanged := s.book.orderChanged, olderDropped := decide (48 ≤ s.account.log.length), cut := o.cut }])
      ∧ u.account.log.length ≤ 48 ∧ u.account.ownAcc = 0 ∧ u.account.plantAcc = 0
      ∧ (∀ q, s.account.ownPoint = some q → u.account.ownPoint = some ⟨q.output, max s.now t⟩)
      ∧ (∀ e, e ∈ u.book.noms ↔ e ∈ s.book.noms ∧ n ≤ e.first + e.count - 1)
      ∧ (∀ e, e ∈ u.book.orders ↔ e ∈ s.book.orders ∧ n ≤ e.first + e.count - 1)
      ∧ u.book.target = some (max (-3000) (min (amountAt u.book.noms n + amountAt u.book.orders n) 3000))
      ∧ u.book.orderChanged = false
      ∧ (s.seq.state ≠ .offline → u.book.settle = 2 ∧ u.book.persistence = 0
          ∧ ∃ o', u.account.openRec = some o' ∧ o'.interval = n ∧ o'.target = u.book.target.getD 0 ∧ o'.periods = 0
            ∧ o'.cut = none)
      ∧ (s.seq.state = .offline → u.account.openRec = none)
      ∧ (s.share.command ≠ 0 → u.share.lastLoaded = some n)
      ∧ (s.link.reports.length + 2 ≤ 16 → ∃ k, ⟨k, .intervalClosed o.interval u.account.log.length⟩ ∈ u.link.reports))
  ∧ (∀ (s : State) (t : Nat), s.isStore = false →
      (∀ n, s.clock.current = none → s.clock.pending = some n →
        Gives (.boundaryPulse t) s fun u => u.clock.current = some n ∧ TakesChange s u (max s.now t) n false)
      ∧ (∀ i p n, s.clock.current = some i → s.clock.free = false → s.clock.lastPulse = some p →
          s.inForce.intervalMs ≤ 2 * (max s.now t - p) → n = s.clock.pending.getD (if 4294967294 ≤ i then 0 else i + 1) →
          Gives (.boundaryPulse t) s fun u => u.clock.current = some n ∧ TakesChange s u (max s.now t) n false)
      ∧ (∀ i a n, s.clock.current = some i → s.clock.free = true → s.clock.lastAdvance = some a →
          s.clock.pending ≠ none ∨ s.inForce.intervalMs ≤ 2 * (max s.now t - a) →
          n = s.clock.pending.getD (if 4294967294 ≤ i then 0 else i + 1) →
          Gives (.boundaryPulse t) s fun u => u.clock.current = some n ∧ TakesChange s u (max s.now t) n false))
  ∧ (∀ (s : State) (i p n : Nat), s.isStore = false → s.clock.current = some i → s.clock.lastPulse = some p →
      n = s.clock.pending.getD (if 4294967294 ≤ i then 0 else i + 1) →
      (s.clock.free = false → Gives .freeRunDeadline s fun u =>
        u.clock.current = some n ∧ TakesChange s u (max s.now (p + s.inForce.intervalMs * 3 / 2)) n true)
      ∧ (∀ a k, s.clock.free = true → s.clock.lastAdvance = some a → 0 < s.inForce.intervalMs →
          p + k * s.inForce.intervalMs ≤ a → a < p + (k + 1) * s.inForce.intervalMs →
          Gives .freeRunAdvance s fun u =>
            u.clock.current = some n ∧ TakesChange s u (max s.now (p + (k + 1) * s.inForce.intervalMs)) n true))
  ∧ ∀ (s : State) (t : Nat) (tag : Byte) (o : OpenRecord) (span : Int), IsNew s tag .leave → s.account.openRec = some o →
      s.seq.state = .standby ∨ s.seq.state = .starting ∨ (s.seq.state = .running ∧ s.share.command = 0) →
      OwnEnergyIs s (max s.now t) span →
      Gives (.leave t tag) s fun u => u.seq.state = .offline ∧ u.account.ownAcc = s.account.ownAcc + span
        ∧ u.account.plantAcc = s.account.plantAcc + span + peersEnergy s.account.peerPoints (max s.now t)
        ∧ ∃ o', u.account.openRec = some o' ∧ o' = { o with cut := o'.cut }

/-- An applied TRAIN STATUS judges agreement on a timed train: n and a count the timed entries PRESENT or LATE and those that share interval and
target, with the station itself; AGREE is 2a > n, clears HELD with HELD END and the persistence count; DISAGREE leaves HELD set for DISAGREE. At a
control period expiry with an unchanged target the settle count falls first, then DISAGREE counts to 3 and sets HELD with its report and
HELD SEEN. At one at which the target changes, agreement is judged with the new target before the counts step.
That the count rises again under HELD after an interval change is the model's choice (log 39). -/
def Obligations.AgreementDecidesHeld : Prop :=
  (∀ (s : State) (t i arr : Nat) (f : StatusFrame) (g : TrainFields) (tag : Relation) (rest : List RxFrame),
    s.bus.rx = ⟨.status f, tag, arr⟩ :: rest → f.fields = .train g → s.isTrain = true → s.seq.state ≠ .offline →
    s.clock.current = some i →
    Gives (.applyStatusFrame t) s fun u => u.seq.state ≠ .offline →
      u.book.n = (u.view.filter fun e => match e.fields with
        | .train x => decide (e.status ≠ .lost ∧ x.interval ≠ 4294967295)
        | .store _ => false).length + 1
      ∧ u.book.a = (u.view.filter fun e => match e.fields with
        | .train x => decide (e.status ≠ .lost ∧ x.interval ≠ 4294967295 ∧ x.interval = i ∧ x.target = s.book.target)
        | .store _ => false).length + 1
      ∧ (u.book.agree = true ↔ u.book.n < 2 * u.book.a)
      ∧ (u.book.agree = true → u.book.held = none ∧ u.book.persistence = 0
          ∧ (s.book.held ≠ none → s.link.reports.length + 2 ≤ 16 → ∃ k, ⟨k, .heldEnd⟩ ∈ u.link.reports))
      ∧ (u.book.agree = false → u.book.held = s.book.held.map (fun _ => .disagree) ∧ u.book.persistence = s.book.persistence)
      ∧ u.book.settle = s.book.settle)
  ∧ (∀ (s : State) (d : Nat), s.share.timer = some d → s.isTrain = true → deriveTarget s.book s.clock.current = s.book.target →
    Gives .controlPeriodExpiry s fun u => u.seq.state ≠ .offline →
      (0 < s.book.settle → u.book = { s.book with settle := s.book.settle - 1 })
      ∧ (s.book.settle = 0 → s.book.agree = true → u.book = s.book)
      ∧ (s.book.settle = 0 → s.book.agree = false → s.book.persistence + 1 < 3 ∨ s.book.held ≠ none →
          u.book = { s.book with persistence := min 3 (s.book.persistence + 1) })
      ∧ (s.book.settle = 0 → s.book.agree = false → 2 ≤ s.book.persistence → s.book.held = none →
          u.book = { s.book with persistence := 3, held := some .disagree } ∧ Queued s u (.held .disagree s.book.n s.book.a)
          ∧ ∀ o, s.account.openRec = some o → ∃ o', u.account.openRec = some o' ∧ o'.heldSeen = true))
  ∧ ∀ (s : State) (d i n a : Nat) (v : Int), s.share.timer = some d → s.isTrain = true → s.seq.state ≠ .offline →
    s.clock.current = some i → deriveTarget s.book s.clock.current = some v → s.book.target ≠ some v →
    n = (s.view.filter fun e => match e.fields with
      | .train x => decide (e.status ≠ .lost ∧ x.interval ≠ 4294967295)
      | .store _ => false).length + 1 →
    a = (s.view.filter fun e => match e.fields with
      | .train x => decide (e.status ≠ .lost ∧ x.interval ≠ 4294967295 ∧ x.interval = i ∧ x.target = some v)
      | .store _ => false).length + 1 →
    Gives .controlPeriodExpiry s fun u => u.seq.state ≠ .offline →
      (n < 2 * a → u.book = { s.book with
          target := some v, n := n, a := a, agree := true, persistence := 0, held := none, settle := s.book.settle - 1 }
        ∧ (s.book.held ≠ none → Queued s u .heldEnd))
      ∧ (2 * a ≤ n → 0 < s.book.settle → u.book = { s.book with
          target := some v, n := n, a := a, agree := false, held := s.book.held.map (fun _ => .disagree)
          settle := s.book.settle - 1 })
      ∧ (2 * a ≤ n → s.book.settle = 0 → s.book.persistence + 1 < 3 ∨ s.book.held ≠ none → u.book = { s.book with
          target := some v, n := n, a := a, agree := false, held := s.book.held.map (fun _ => .disagree)
          persistence := min 3 (s.book.persistence + 1) })
      ∧ (2 * a ≤ n → s.book.settle = 0 → 2 ≤ s.book.persistence → s.book.held = none → u.book = { s.book with
          target := some v, n := n, a := a, agree := false, persistence := 3, held := some .disagree }
        ∧ Queued s u (.held .disagree n a)
        ∧ ∀ o, s.account.openRec = some o → ∃ o', u.account.openRec = some o' ∧ o'.heldSeen = true)

/-- No pulse within 1.5 × L: the clock advances or applies the pending number, sets CLOCK FREE and reports it. In free run it advances at each
whole L after the last accepted pulse, with no further report of CLOCK FREE.
The instants, and that a deadline that does not stand does nothing, are the model's choice (log 1, log 3), and so is the L a deadline
set before a SEAL runs by (log 34). That CLOCK FREE takes its number before the other reports of the advance is its reading (log 9). -/
def Obligations.FreeRunAdvances : Prop :=
  ∀ (s : State) (i p : Nat), s.isStore = false → s.clock.current = some i → s.clock.lastPulse = some p →
    (s.clock.free = false → Gives .freeRunDeadline s fun u =>
      u.now = max s.now (p + s.inForce.intervalMs * 3 / 2)
      ∧ u.clock = ⟨some (s.clock.pending.getD (if 4294967294 ≤ i then 0 else i + 1)), none, some p,
          some (max s.now (p + s.inForce.intervalMs * 3 / 2)), true⟩
      ∧ Queued s u (.clockFree (s.clock.pending.getD (if 4294967294 ≤ i then 0 else i + 1))))
    ∧ (s.clock.free = true → exec .freeRunDeadline s = .next s)
    ∧ (s.clock.free = false → exec .freeRunAdvance s = .next s)
    ∧ (∀ a, s.clock.lastAdvance = some a → s.clock.free = true → 0 < s.inForce.intervalMs → ∀ k : Nat,
        p + k * s.inForce.intervalMs ≤ a → a < p + (k + 1) * s.inForce.intervalMs →
        Gives .freeRunAdvance s fun u =>
          u.now = max s.now (p + (k + 1) * s.inForce.intervalMs)
          ∧ u.clock = ⟨some (s.clock.pending.getD (if 4294967294 ≤ i then 0 else i + 1)), none, some p,
              some (max s.now (p + (k + 1) * s.inForce.intervalMs)), true⟩
          ∧ ∀ x ∈ u.link.reports, (∃ m, x.report = .clockFree m) → x ∈ s.link.reports)

/-! ## The bus and the view -/

/-- A frame from another address that passes the check and names a known kind joins the tail of the receive queue, while it holds fewer than 8,
with its tag and arrival time; a damaged or unknown one, and any in OFFLINE, changes nothing.
That the group is compared as received is the model's reading (log 21). -/
def Obligations.ArrivalsAreTaggedAndQueued : Prop :=
  ∀ (s : State) (t : Nat) (bytes : List Byte),
    (s.seq.state = .offline → exec (.frameArrival t bytes) s = .next (s.atInstant t))
    ∧ (decodeFrame bytes = .checkBad ∨ decodeFrame bytes = .unknownKind →
        exec (.frameArrival t bytes) s = .next (s.atInstant t))
    ∧ (∀ f, decodeFrame bytes = .frame f → s.seq.state ≠ .offline → f.address ≠ s.inForce.address → s.bus.rx.length < 8 →
        ∃ tag : Relation, exec (.frameArrival t bytes) s =
            .next { s.atInstant t with bus := { s.bus with rx := s.bus.rx ++ [⟨f, tag, max s.now t⟩] } }
          ∧ (∀ a st g, f = .status ⟨a, st, .store g⟩ →
              tag = if s.isTrain = true ∧ s.inForce.items.linked = some a then .linkedStore else .other)
          ∧ (∀ a st g, f = .status ⟨a, st, .train g⟩ →
              tag = if s.isTrain = true ∧ g.cavern = s.inForce.cavern then .sameCavern else .other)
          ∧ (∀ al, f = .alert al → findEntry s.view al.address = none → tag = .other)
          ∧ (∀ al, f = .alert al → ∀ e, findEntry s.view al.address = some e → ∀ g, e.fields = .store g →
              tag = if s.isTrain = true ∧ s.inForce.items.linked = some al.address then .linkedStore else .other)
          ∧ (∀ al, f = .alert al → ∀ e, findEntry s.view al.address = some e → ∀ g, e.fields = .train g →
              tag = if s.isTrain = true ∧ g.cavern = s.inForce.cavern then .sameCavern else .other))

/-- RX OVERRUN: a frame that meets a full queue is dropped, the first one with the report and the mark, later ones with neither while the mark
is set; the mark is cleared when the view empties the queue, and it is clear after the resets and the end of a leave. -/
def Obligations.OverrunIsReportedOnce : Prop :=
  (∀ (s : State) (t : Nat) (bytes : List Byte) (f : Frame), s.seq.state ≠ .offline → decodeFrame bytes = .frame f →
    f.address ≠ s.inForce.address → s.bus.rx.length = 8 →
    (s.bus.overrun = true → exec (.frameArrival t bytes) s = .next (s.atInstant t))
    ∧ (s.bus.overrun = false → Gives (.frameArrival t bytes) s fun u =>
        u.bus = { s.bus with overrun := true } ∧ u.view = s.view ∧ u.link.reportNo = (s.link.reportNo + 1) % 65536
        ∧ Queued s u .rxOverrun))
  ∧ (∀ (s : State) (t : Nat) (f : StatusFrame) (tag : Relation) (arr : Nat) (rest : List RxFrame),
      s.bus.rx = ⟨.status f, tag, arr⟩ :: rest →
      Gives (.applyStatusFrame t) s fun u =>
        (rest ≠ [] → u.seq.state ≠ .offline → u.bus.overrun = s.bus.overrun) ∧ (rest = [] → u.bus.overrun = false))
  ∧ (∀ (s : State) (t : Nat) (a : Alert) (tag : Relation) (arr : Nat) (rest : List RxFrame),
      s.bus.rx = ⟨.alert a, tag, arr⟩ :: rest →
      (a.reason ≠ .conflict → Gives (.applyAlert t) s fun u =>
        (rest ≠ [] → u.seq.state ≠ .offline → u.bus.overrun = s.bus.overrun) ∧ (rest = [] → u.bus.overrun = false))
      ∧ (a.reason = .conflict → Gives (.applyAlertConflict t) s fun u =>
        (rest ≠ [] → u.seq.state ≠ .offline → u.bus.overrun = s.bus.overrun) ∧ (rest = [] → u.bus.overrun = false)))
  ∧ State.reset.bus.overrun = false
  ∧ (∀ (s : State) (t : Nat) (tag : Byte), IsNew s tag .restart →
      Gives (.restart t tag) s fun u => u.bus.overrun = false)
  ∧ ∀ s : State, (endLeave s).bus.overrun = false

/-- A frame from the station's own address puts the station in CONFLICT, from any state after the seal but CONFLICT: command 0, TRIP OUT, ALERT
CONFLICT pending in place of any other, status timer stopped, both reports; in CONFLICT it does nothing.
The state in the SETPOINT is the model's reading (log 11), the place of the reports before one of the read of U its choice (log 38). -/
def Obligations.OwnAddressIsConflict : Prop :=
  ∀ (s : State) (t : Nat) (bytes : List Byte) (f : Frame), decodeFrame bytes = .frame f → f.address = s.inForce.address →
    (s.seq.state = .conflict → exec (.frameArrival t bytes) s = .next (s.atInstant t))
    ∧ (s.seq.state ≠ .offline → s.seq.state ≠ .conflict → Gives (.frameArrival t bytes) s fun u =>
        u.seq.state = .conflict ∧ u.seq.tripOut = true ∧ u.seq.available = false ∧ u.seq.joinTimer = none
        ∧ u.seq.startTimer = none ∧ u.seq.standbyTimer = none ∧ u.seq.tripHeld = false ∧ u.seq.leaveCount = 0
        ∧ u.share.command = 0 ∧ u.share.timer = s.share.timer
        ∧ u.bus = { s.bus with pendingAlert := some ⟨s.inForce.address, .conflict, {}⟩, statusTimer := none, pendingStatus := none }
        ∧ u.view = s.view ∧ u.clock = s.clock ∧ u.book = s.book ∧ u.items = s.items ∧ u.inForce = s.inForce
        ∧ (s.isTrain = true → s.share.command ≠ 0 → ∃ p, u.link.setpoint = some p ∧ p.command = 0 ∧ p.state = .conflict)
        ∧ (s.link.reports.length + 2 ≤ 16 → ∃ more, u.link.reports = s.link.reports ++
            [⟨s.link.reportNo, .addressConflict⟩,
             ⟨(s.link.reportNo + 1) % 65536, .stateChange s.seq.state .conflict .conflict⟩] ++ more))

/-- A status frame at the head of the queue becomes its sender's entry: fields clamped, arrival time, tag as relation, PRESENT, no lost hold, with
PEER JOINED or PEER RETURNED; the other entries and the rest of the queue stay (unless the read of U that follows ends a leave, which
empties both). On a train the account credits the span of the sender's held output up to the frame's arrival, under the held kind, and holds
the new output, or starts a point; a STORE STATUS in place of a train entry credits the span and ends the point. The command is cut to the U
read with the new entry, with a SETPOINT where it fell (its mode at the end of a leave: log 40).
The state kept at an unnamed code is the model's reading where the kind changes (log 23), and so is the order of the readers (log 10); that
a first frame's point starts at its arrival is its choice (log 37). -/
def Obligations.StatusFrameUpdatesEntry : Prop :=
  ∀ (s : State) (t : Nat) (f : StatusFrame) (tag : Relation) (arr : Nat) (rest : List RxFrame),
    s.bus.rx = ⟨.status f, tag, arr⟩ :: rest → ViewLaw s →
    Gives (.applyStatusFrame t) s fun u =>
      (u.seq.state ≠ .offline →
        u.bus.rx = rest
        ∧ (∃ e, findEntry u.view f.address = some e ∧ e.arrival = arr ∧ e.relation = tag ∧ e.status = .present ∧ e.holdEnd = none
            ∧ (∀ g, f.fields = .train g → e.fields = .train { g with
                cavern := max 1 (min g.cavern 4), vcode := min g.vcode 31, command := min g.command 2500, output := min g.output 2500,
                upper := min g.upper 2500, minLoad := min g.minLoad 2500, massFlow := min g.massFlow 1000,
                heatFlow := min g.heatFlow 5000
                target := if g.interval = 4294967295 then none else g.target.map fun v => max (-3000) (min v 3000) })
            ∧ (∀ g, f.fields = .store g → e.fields = .store { g with
                vcode := min g.vcode 31, charge := min g.charge 5000, discharge := min g.discharge 5000, outlet := min g.outlet 800,
                hotZones := min g.hotZones 8 })
            ∧ (∀ x, f.state = some x → e.state = x)
            ∧ (f.state = none → findEntry s.view f.address = none → e.state = .offline)
            ∧ (∀ e', findEntry s.view f.address = some e' → f.state = none → e.state = e'.state))
        ∧ (∀ a, a ≠ f.address → findEntry u.view a = findEntry s.view a)
        ∧ u.account.openRec = s.account.openRec ∧ u.account.ownPoint = s.account.ownPoint
        ∧ (s.isTrain = true → ∀ g, f.fields = .train g →
            (∀ p, OnlyPoint s.account.peerPoints p → p.address = f.address →
              PlantCredited s u (energyOf (some p.kind) p.output p.since arr)
              ∧ u.account.peerPoints = s.account.peerPoints.map fun q =>
                  if q.address = f.address then ⟨f.address, min g.output 2500, g.kind, max arr p.since⟩ else q)
            ∧ ((∀ p ∈ s.account.peerPoints, p.address ≠ f.address) → PlantCredited s u 0
              ∧ u.account.peerPoints = s.account.peerPoints ++ [⟨f.address, min g.output 2500, g.kind, arr⟩]))
        ∧ (s.isTrain = true → ∀ g, f.fields = .store g → ∀ e x, findEntry s.view f.address = some e → e.fields = .train x →
            ∀ p, OnlyPoint s.account.peerPoints p → p.address = f.address →
              PlantCredited s u (energyOf (some p.kind) p.output p.since arr)
              ∧ u.account.peerPoints = s.account.peerPoints.filter fun q => q.address ≠ f.address)
        ∧ (s.isTrain = true → ∀ g, f.fields = .store g → (∀ e x, findEntry s.view f.address = some e → e.fields ≠ .train x) →
            u.account = s.account)
        ∧ (s.isTrain = false → u.account = s.account))
      ∧ (u.seq.state = .offline → s.seq.state ≠ .offline → s.seq.state = .leaving)
      ∧ (findEntry s.view f.address = none → Queued s u (.peerJoined f.address))
      ∧ (∀ e, findEntry s.view f.address = some e → e.status = .lost → Queued s u (.peerReturned f.address))
      ∧ CutAtRead s u (limitRead s s.link.holder (putEntry (entryFrom f tag arr (findEntry s.view f.address)) s.view) s.bank.cap)
      ∧ u.share.command ≤ s.share.command
      ∧ u.items = s.items ∧ u.inForce = s.inForce ∧ u.clock = s.clock ∧ u.permit = s.permit
      ∧ u.book.noms = s.book.noms ∧ u.book.orders = s.book.orders ∧ u.book.target = s.book.target

/-- An ALERT TRIP or LEAVE sets the entry's state, clears a train entry's AVAILABLE and a store entry's allowances, and leaves the rest of the entry;
an ALERT CONFLICT makes it LOST with its hold from its full length, with PEER LOST where it was not LOST; with no entry neither does anything. The
command is cut to the U read with the changed entry, with a SETPOINT where it fell.
That PEER LOST takes its number before a report of the read of U is the model's choice (log 38), and so is the mode in the SETPOINT of a leave's end
(log 40). -/
def Obligations.AlertsChangeTheirEntry : Prop :=
  ∀ (s : State) (t : Nat) (a : Alert) (tag : Relation) (arr : Nat) (rest : List RxFrame),
    s.bus.rx = ⟨.alert a, tag, arr⟩ :: rest →
    (a.reason ≠ .conflict → Gives (.applyAlert t) s fun u =>
      (u.seq.state ≠ .offline → u.bus.rx = rest)
      ∧ (∃ view, (view = s.view.map fun e => if e.address = a.address then
            { e with
              state := if a.reason = .trip then .tripped else .leaving
              fields := match e.fields with
                | .train f => .train { f with available := false }
                | .store f => .store { f with charge := 0, discharge := 0 } }
          else e)
        ∧ (u.seq.state ≠ .offline → u.view = view)
        ∧ ∀ e, findEntry s.view a.address = some e → CutAtRead s u (limitRead s s.link.holder view s.bank.cap))
      ∧ (findEntry s.view a.address = none → u.seq = s.seq ∧ u.share = s.share ∧ u.link = s.link)
      ∧ u.share.command ≤ s.share.command ∧ u.clock = s.clock ∧ u.book.noms = s.book.noms ∧ u.items = s.items)
    ∧ (a.reason = .conflict → Gives (.applyAlertConflict t) s fun u =>
      (u.seq.state ≠ .offline → u.bus.rx = rest)
      ∧ (∃ view, (view = s.view.map fun e => if e.address = a.address then
            { e with status := .lost, holdEnd := some (max s.now t + s.inForce.items.lostHold * 1000) }
          else e)
        ∧ (u.seq.state ≠ .offline → u.view = view)
        ∧ ∀ e, findEntry s.view a.address = some e → CutAtRead s u (limitRead s s.link.holder view s.bank.cap))
      ∧ (∀ e, findEntry s.view a.address = some e → e.status ≠ .lost → Queued s u (.peerLost a.address))
      ∧ (findEntry s.view a.address = none → u.seq = s.seq ∧ u.share = s.share ∧ u.link = s.link)
      ∧ u.share.command ≤ s.share.command ∧ u.clock = s.clock ∧ u.book.noms = s.book.noms ∧ u.items = s.items)

/-- An entry ages at its own deadlines from its last frame: PRESENT to LATE at 1.5 × q, to LOST at (s+2) × q with PEER LOST and its hold, freed at
the end of the hold with PEER DROPPED; the other entries stay. At the freeing the account credits the span of the address's held output, under
its kind, and ends its point. At each of the three the command is cut to the U read with the changed view, with a SETPOINT where it fell.
The instants, that a deadline that does not stand does nothing, that the view's report takes its number before one of the read of U, and the mode in
the SETPOINT of a leave's end are the model's choice (log 1, log 3, log 38, log 40). -/
def Obligations.EntriesAge : Prop :=
  ∀ (s : State) (a q : Nat) (e : Entry), ViewLaw s → findEntry s.view a = some e →
    (∀ f, e.fields = .train f → q = (f.vcode + 1) * 50) → (∀ f, e.fields = .store f → q = (f.vcode + 1) * 50) →
    (e.status = .present → Gives (.lateDeadline a) s fun u =>
      u.now = max s.now (e.arrival + q * 3 / 2)
      ∧ (∃ view, (view = s.view.map fun x => if x.address = a then { x with status := .late } else x)
        ∧ (u.seq.state ≠ .offline → u.view = view) ∧ CutAtRead s u (limitRead s s.link.holder view s.bank.cap))
      ∧ u.share.command ≤ s.share.command)
    ∧ (e.status ≠ .present → exec (.lateDeadline a) s = .next s)
    ∧ (e.status ≠ .lost → Gives (.lostDeadline a) s fun u =>
      u.now = max s.now (e.arrival + (s.inForce.items.silence + 2) * q)
      ∧ (∃ view, (view = s.view.map fun x => if x.address = a then
          { x with status := .lost
                   holdEnd := some (max s.now (e.arrival + (s.inForce.items.silence + 2) * q) + s.inForce.items.lostHold * 1000) }
          else x)
        ∧ (u.seq.state ≠ .offline → u.view = view) ∧ CutAtRead s u (limitRead s s.link.holder view s.bank.cap))
      ∧ Queued s u (.peerLost a) ∧ u.share.command ≤ s.share.command)
    ∧ (e.status = .lost → exec (.lostDeadline a) s = .next s)
    ∧ (∀ d, e.holdEnd = some d → e.status = .lost → Gives (.lostHoldExpiry a) s fun u =>
      u.now = max s.now d
      ∧ (∃ view, (view = s.view.filter fun x => x.address ≠ a)
        ∧ (u.seq.state ≠ .offline → u.view = view) ∧ CutAtRead s u (limitRead s s.link.holder view s.bank.cap))
      ∧ (∀ p ∈ u.account.peerPoints, p.address ≠ a)
      ∧ (u.seq.state ≠ .offline → u.account.openRec = s.account.openRec
        ∧ u.account.peerPoints = s.account.peerPoints.filter (fun q => q.address ≠ a)
        ∧ (∀ p, OnlyPoint s.account.peerPoints p → p.address = a →
            PlantCredited s u (energyOf (some p.kind) p.output p.since (max s.now d)))
        ∧ ((∀ p ∈ s.account.peerPoints, p.address ≠ a) → PlantCredited s u 0))
      ∧ Queued s u (.peerDropped a) ∧ u.share.command ≤ s.share.command)

/-- The idle medium takes the pending ALERT, else the pending status frame; what it takes is no longer pending and is sent as it was encoded; while a
frame is being sent nothing is taken, and its end leaves the medium idle. -/
def Obligations.BusTakesAlertFirst : Prop :=
  ∀ (s : State) (t : Nat),
    (∀ a, s.bus.onBus = none → s.bus.pendingAlert = some a →
      exec (.busTakeFrame t) s =
        .next { s.atInstant t with bus := { s.bus with onBus := some (Frame.encode (.alert a)), pendingAlert := none } })
    ∧ (∀ f, s.bus.onBus = none → s.bus.pendingAlert = none → s.bus.pendingStatus = some f →
      exec (.busTakeFrame t) s =
        .next { s.atInstant t with bus := { s.bus with onBus := some (Frame.encode (.status f)), pendingStatus := none } })
    ∧ (s.bus.onBus ≠ none ∨ (s.bus.pendingAlert = none ∧ s.bus.pendingStatus = none) →
      exec (.busTakeFrame t) s = .next (s.atInstant t))
    ∧ exec (.frameTransmissionEnd t) s = .next { s.atInstant t with bus := { s.bus with onBus := none } }

/-- The status timer's expiry runs the timer on by p and makes pending a status frame whose every field is the station's at that instant, and changes
nothing else; a store in LEAVING counts its first and second expiry beside, and its third ends the leave instead.
That U is read at the building is the model's reading (log 20), the instants are its choice (log 1). -/
def Obligations.StatusTimerBuildsFrame : Prop :=
  ∀ (s : State) (d : Nat), s.bus.statusTimer = some d →
    (∀ k, s.inForce.kind = some k → k ≠ .H → Gives .statusTimerExpiry s fun u =>
      u.now = max s.now d ∧ u.bus.statusTimer = some (d + (s.inForce.items.vcode + 1) * 50)
      ∧ u.bus.pendingStatus = some ⟨s.inForce.address, some s.seq.state, .train {
          kind := k, cavern := s.inForce.cavern, linked := s.inForce.items.linked, held := s.book.held.isSome,
          cooled := s.heat.cooled, available := u.seq.available, clockFree := s.clock.free, vcode := s.inForce.items.vcode,
          interval := s.clock.current.getD 4294967295, target := s.book.target, command := s.share.command,
          output := (heldOutput s).getD 0, massFlow := (heldMassFlow s).getD 0, heatFlow := heatFlow s, upper := upperLimit s,
          minLoad := s.inForce.minLoad }⟩
      ∧ AvailableLaw u
      ∧ u = { s with
          now := u.now, bus := { s.bus with statusTimer := u.bus.statusTimer, pendingStatus := u.bus.pendingStatus },
          seq := { s.seq with available := u.seq.available }, share := { s.share with lastU := upperLimit s } })
    ∧ (s.isStore = true → s.seq.state ≠ .leaving ∨ s.seq.leaveCount < 2 → Gives .statusTimerExpiry s fun u =>
      u = { s with now := max s.now d, seq := { s.seq with
          leaveCount := if s.seq.state = .leaving then s.seq.leaveCount + 1 else s.seq.leaveCount }, bus := { s.bus with
          statusTimer := some (d + (s.inForce.items.vcode + 1) * 50)
          pendingStatus := some ⟨s.inForce.address, some s.seq.state, .store {
            monitorActive := allMonitors.any fun m =>
              decide ((s.bank.monitor m).cond = .active ∨ (s.bank.monitor m).cond = .latched)
            stale := s.link.staleMark, vcode := s.inForce.items.vcode, charge := s.heat.pubCharge,
            discharge := s.heat.pubDischarge, outlet := s.heat.outlet, hotZones := s.heat.hotZones }⟩ } })
    ∧ (s.isStore = true → s.seq.state = .leaving → 2 ≤ s.seq.leaveCount → Gives .statusTimerExpiry s fun u =>
      u.seq.state = .offline ∧ u.bus.statusTimer = none ∧ u.bus.pendingStatus = none
      ∧ u.bus.pendingAlert = some ⟨s.inForce.address, .leave, { first := none, toRun := 0, last := none }⟩
      ∧ u.view = [] ∧ u.link.setpoint = s.link.setpoint ∧ Queued s u (.stateChange .leaving .offline .leaveEnd))

/-! ## The control period -/

/-- A control period expiry of a train runs its timer on by p, derives the target, and sends a SETPOINT with the command, mode and state it leaves; the
command is 0 or between m and the U read, and outside RUNNING and LEAVING it does not change. The end of a leave stops the timer. A train in
LEAVING, or in RUNNING out of direction, steps down by r, to 0 once that is at or below m. The open record takes the derived target, one period in
RUNNING and LEAVING alone, and HELD SEEN where HELD is set; the last loaded interval becomes the current one where the command changes to a
nonzero one.
The instants are the model's choice (log 1), and so is the mode of the SETPOINT at the end of a leave (log 40). -/
def Obligations.ControlExpirySendsSetpoint : Prop :=
  (∀ (s : State) (d : Nat), s.share.timer = some d → s.isTrain = true → CommandLaw s → s.seq.state ≠ .offline →
    Gives .controlPeriodExpiry s fun u =>
      u.now = max s.now d
      ∧ (u.seq.state ≠ .offline → u.share.timer = some (d + (s.inForce.items.vcode + 1) * 50) ∧ u.share.lastU = upperLimit u)
      ∧ (u.seq.state = .offline → s.seq.state = .leaving ∧ u.share.timer = none ∧ u.share.command = 0)
      ∧ u.link.setpoint = some ⟨u.share.command, decide (u.inForce.kind = some .C ∧ u.heat.cooled = true), u.seq.state⟩
      ∧ u.book.target = deriveTarget s.book s.clock.current
      ∧ (u.share.command = 0 ∨ (s.inForce.minLoad ≤ u.share.command ∧ u.share.command ≤ u.share.lastU))
      ∧ (s.seq.state ≠ .running → s.seq.state ≠ .leaving → u.share.command = s.share.command)
      ∧ (s.seq.state = .leaving → s.share.command ≤ s.inForce.minLoad + s.inForce.rampStep → u.share.command = 0)
      ∧ u.items = s.items ∧ u.inForce = s.inForce ∧ u.clock = s.clock ∧ u.book.noms = s.book.noms
      ∧ u.book.orders = s.book.orders ∧ u.permit = s.permit ∧ u.account.log = s.account.log)
  ∧ (∀ (s : State) (d : Nat) (k : Kind), s.share.timer = some d → s.inForce.kind = some k → k ≠ .H →
    (s.seq.state = .leaving ∨ (s.seq.state = .running
      ∧ (k = .C → ∀ v, deriveTarget s.book s.clock.current = some v → 0 ≤ v)
      ∧ (k = .X → ∀ v, deriveTarget s.book s.clock.current = some v → v ≤ 0))) →
    Gives .controlPeriodExpiry s fun u =>
      u.share.command = min u.share.lastU
        (if s.share.command ≤ s.inForce.minLoad + s.inForce.rampStep then 0 else s.share.command - s.inForce.rampStep))
  ∧ ∀ (s : State) (d : Nat), s.share.timer = some d → s.isTrain = true → s.seq.state ≠ .offline →
    Gives .controlPeriodExpiry s fun u =>
      (s.account.openRec = none → u.account.openRec = none)
      ∧ (∀ o, s.account.openRec = some o → ∃ o', u.account.openRec = some o'
          ∧ o'.interval = o.interval ∧ o'.target = (deriveTarget s.book s.clock.current).getD o.target
          ∧ o'.periods = o.periods + (if s.seq.state = .running ∨ s.seq.state = .leaving then 1 else 0)
          ∧ o'.trippedSeen = o.trippedSeen ∧ o'.clockFreeSeen = o.clockFreeSeen ∧ (o.heldSeen = true → o'.heldSeen = true)
          ∧ (u.seq.state ≠ .offline → o'.cut = o.cut
            ∧ (o'.heldSeen = true ↔ o.heldSeen = true ∨ (s.book.held = none ∧ u.book.held ≠ none))))
      ∧ u.share.lastLoaded = (if u.share.command ≠ s.share.command ∧ u.share.command ≠ 0 ∧ s.clock.current ≠ none then s.clock.current
          else s.share.lastLoaded)

/-- The wake excess is the error with an own command of 0 less the eligible peers' headrooms and the starting peers' upper limits. A train
in STANDBY counts it, and enters STARTING at the expiry at which its counter reaches w with its address below every
rival's.
The instants are the model's choice (log 1). -/
def Obligations.WakeCountStartsLowestTrain : Prop :=
  (∀ (s : State) (k : Kind), wakeExcess s k = ((s.book.target.getD 0).natAbs : Int) - commandsOf s.view k
    - ((s.view.map fun e => match e.fields with
        | .train f => if e.status = .present ∧ f.kind = k ∧ e.state = .running ∧ f.available = true ∧ f.held = false
            ∧ f.minLoad ≤ f.upper then f.upper - f.command else 0
        | .store _ => 0).sum : Nat)
    - ((s.view.map fun e => match e.fields with
        | .train f => if e.status ≠ .lost ∧ f.kind = k ∧ e.state = .starting then f.upper else 0
        | .store _ => 0).sum : Nat))
  ∧ ∀ (s : State) (d : Nat) (k : Kind), s.share.timer = some d → s.inForce.kind = some k → k ≠ .H → s.seq.state = .standby →
    s.share.command = 0 → 0 < s.inForce.items.wakeDelay →
    Gives .controlPeriodExpiry s fun u =>
      u.share.command = 0
      ∧ ((¬ (direction u.book.target = some k ∧ u.seq.available = true ∧ u.book.held = none ∧ 0 < wakeExcess u k)) →
          u.seq.state = .standby ∧ u.share.wake = 0)
      ∧ (direction u.book.target = some k → u.seq.available = true → u.book.held = none → 0 < wakeExcess u k →
          (s.share.wake + 1 < s.inForce.items.wakeDelay → u.seq.state = .standby ∧ u.share.wake = s.share.wake + 1)
          ∧ (s.inForce.items.wakeDelay ≤ s.share.wake + 1 →
              (∃ e ∈ s.view, ∃ f, e.fields = .train f ∧ e.status ≠ .lost ∧ f.kind = k ∧ e.state = .standby ∧ f.available = true
                ∧ f.held = false ∧ e.address ≤ s.inForce.address) →
              u.seq.state = .standby ∧ u.share.wake = s.inForce.items.wakeDelay)
          ∧ (s.inForce.items.wakeDelay ≤ s.share.wake + 1 →
              (∀ e ∈ s.view, ∀ f, e.fields = .train f → e.status ≠ .lost → f.kind = k → e.state = .standby → f.available = true →
                f.held = false → s.inForce.address < e.address) →
              u.seq.state = .starting ∧ u.share.wake = 0
              ∧ u.seq.startTimer = some (max s.now d + s.inForce.items.startTime * 1000)
              ∧ u.link.setpoint = some ⟨0, decide (k = .C ∧ u.heat.cooled = true), .starting⟩))

/-- The shares of a bounded error within the total room sum exactly to it: each is its truncated share, and the first trains in order below
their rooms take one count more until none is left; every train keeps its address and room. At an expiry a train in RUNNING in direction
takes the desired value that the error, the eligible trains and its own share give it (or its own command where it is HELD or not AVAILABLE), and
its new command is that value after the snap, the ramp and the cut to U, or its old command cut to U where a rise is barred.
What is shed at H = 0 and at a peer with m = 0 is the model's choice (log 35, log 36). -/
def Obligations.SharesSumToBoundedError : Prop :=
  (∀ (bounded : Nat) (xs : List Alloc), bounded ≤ (xs.map Alloc.room).sum →
    ((shares bounded xs).map Alloc.share).sum = bounded
    ∧ (shares bounded xs).length = xs.length
    ∧ (∀ (i : Nat) (x : Alloc), xs[i]? = some x → ∀ y : Alloc, (shares bounded xs)[i]? = some y →
        y.address = x.address ∧ y.room = x.room ∧ y.share ≤ x.room ∧ bounded * x.room / (xs.map Alloc.room).sum ≤ y.share)
    ∧ ∃ last : Nat, ∀ (i : Nat) (x : Alloc), xs[i]? = some x → ∀ y : Alloc, (shares bounded xs)[i]? = some y →
        y.share = min x.room (bounded * x.room / (xs.map Alloc.room).sum + if i < last then 1 else 0))
  ∧ (∀ (view : List Entry) (k : Kind) (own : Party), (view.Pairwise fun x y => x.address < y.address) →
      (∀ e ∈ view, e.address ≠ own.address) →
      ((eligible view k (some own)).Pairwise fun x y => x.address < y.address)
      ∧ ∀ p, p ∈ eligible view k (some own) ↔ p = own ∨ ∃ e ∈ view, TakesPart k e p)
  ∧ ∀ (s : State) (d : Nat) (k : Kind) (target : Int), s.share.timer = some d → s.inForce.kind = some k → s.seq.state = .running →
    ViewLaw s → deriveTarget s.book s.clock.current = some target → (k = .C ∧ target < 0) ∨ (k = .X ∧ 0 < target) →
    Gives .controlPeriodExpiry s fun u => ∃ want result : Nat,
      (¬ (u.seq.available = true ∧ u.book.held = none) → want = s.share.command)
      ∧ (u.seq.available = true → u.book.held = none →
          DesiredIs ((target.natAbs : Int) - (commandsOf s.view k + s.share.command : Nat))
            (eligible s.view k (some ⟨s.inForce.address, s.share.command, u.share.lastU, s.inForce.minLoad⟩))
            s.inForce.address s.share.command s.inForce.minLoad want)
      ∧ result = min u.share.lastU (ramp s.share.command s.inForce.minLoad s.inForce.rampStep (snap s.inForce.minLoad want))
      ∧ (result ≤ s.share.command → u.share.command = result)
      ∧ (s.share.command < result →
          ((u.book.held = none ∧ u.seq.available = true
              ∧ ∀ e ∈ s.view, ∀ f, e.fields = .train f → e.relation = .sameCavern → f.kind ≠ k → f.kind ≠ .H → f.command = 0) →
            u.share.command = result)
          ∧ (¬ (u.book.held = none ∧ u.seq.available = true
              ∧ ∀ e ∈ s.view, ∀ f, e.fields = .train f → e.relation = .sameCavern → f.kind ≠ k → f.kind ≠ .H → f.command = 0) →
            u.share.command = min u.share.lastU s.share.command))

/-- From one control period expiry to the next the command rises by at most the ramp step, except for the step from 0, which is at most the greater
of m and r; a fall is taken as it is, and no other command raises it. -/
def Obligations.RampLimitsRise : Prop :=
  (∀ (s u : State), exec .controlPeriodExpiry s = .next u →
    u.share.command ≤ s.share.command + s.inForce.rampStep
    ∨ (s.share.command = 0 ∧ u.share.command ≤ max s.inForce.minLoad s.inForce.rampStep))
  ∧ (∀ (c : Instr) (s u : State), c ≠ .controlPeriodExpiry → exec c s = .next u → u.share.command ≤ s.share.command)
  ∧ (∀ command m r desired : Nat, (desired ≤ command → ramp command m r desired = desired)
      ∧ (command < desired → 0 < command → ramp command m r desired = min desired (command + r))
      ∧ (command = 0 → 0 < desired → ramp command m r desired = min desired (max m r)))
  ∧ ∀ i : Items, rampStepOf i = max 1 (i.ramp * ((i.vcode + 1) * 50) / 60000)

/-- The command rises at an expiry only where the train is not HELD, is AVAILABLE, its kind is the direction of its target, and its view holds no train
of the opposite kind on its cavern with a nonzero command. -/
def Obligations.NoRiseWhenBarred : Prop :=
  ∀ (s u : State), exec .controlPeriodExpiry s = .next u → s.share.command < u.share.command →
    u.book.held = none ∧ u.seq.available = true ∧ u.seq.state = .running
    ∧ (∃ v, u.book.target = some v ∧ ((s.inForce.kind = some .C ∧ v < 0) ∨ (s.inForce.kind = some .X ∧ 0 < v)))
    ∧ ∀ e ∈ s.view, ∀ f, e.fields = .train f → e.relation = .sameCavern → s.inForce.kind ≠ some f.kind →
        f.kind ≠ .H → f.command = 0

/-- The snap: a desired value from 1 to m − 1 becomes m where it is at least ⌈m/2⌉ and 0 below it; 0 and values of m or more stay. -/
def Obligations.SnapToMinimumStableLoad : Prop :=
  ∀ m desired : Nat,
    (1 ≤ desired → desired ≤ m - 1 → m ≤ 2 * desired → snap m desired = m)
    ∧ (1 ≤ desired → desired ≤ m - 1 → 2 * desired < m → snap m desired = 0)
    ∧ (desired = 0 ∨ m ≤ desired → snap m desired = desired)

/-! ## Caps -/

/-- The pressure-band cap by the pressure, for both kinds, a soft band of 0 included; the rate cap from the flow budget less the same-kind flows of the
cavern; the heat store unit's caps from the linked store's allowance less the same-kind heat flows, the quality and cooled caps, the heat
flow and the mode; the upper limit is the least of the caps, or 0 where that is below m. -/
def Obligations.CavernCapsByPressureAndFlow : Prop :=
  (∀ s : State,
    (∀ p wmax b r, s.inForce.kind = some .C → heldPressure s = some p → s.inForce.workMax = some wmax →
      s.inForce.items.softBand = b → s.inForce.items.rated = some r →
      (wmax ≤ p → bandCap s = 0) ∧ (wmax < p + b → p < wmax → bandCap s = r * (wmax - p) / b) ∧ (p + b ≤ wmax → p < wmax → bandCap s = r))
    ∧ (∀ p wmin b r, s.inForce.kind = some .X → heldPressure s = some p → s.inForce.workMin = some wmin →
      s.inForce.items.softBand = b → s.inForce.items.rated = some r →
      (p ≤ wmin → bandCap s = 0) ∧ (p < wmin + b → wmin < p → bandCap s = r * (p - wmin) / b)
      ∧ (wmin + b ≤ p → wmin < p → bandCap s = r))
    ∧ (heldPressure s = none → bandCap s = 0)
    ∧ (∀ o f p h m r, s.link.holder = some ⟨.train o f p h m, r⟩ → heldPressure s = some p)
    ∧ (s.link.holder = none → heldPressure s = none)
    ∧ (∀ k, s.inForce.kind = some k → flowReservation s = (s.view.map fun e => match e.fields with
        | .train f => if f.kind = k ∧ e.relation = .sameCavern then f.massFlow else 0
        | .store _ => 0).sum)
    ∧ flowAllowance s = s.inForce.items.rateLimit / s.inForce.items.coeff - flowReservation s
    ∧ rateCap s = min (flowAllowance s * s.inForce.items.specific / 100) (s.inForce.items.rated.getD 0)
    ∧ (flowAllowance s = 0 → upperLimit s = 0)
    ∧ (bandCap s < s.inForce.minLoad ∨ rateCap s < s.inForce.minLoad ∨ s.bank.cap < s.inForce.minLoad → upperLimit s = 0)
    ∧ (upperLimit s = 0 ∨ s.inForce.minLoad ≤ upperLimit s) ∧ upperLimit s ≤ s.inForce.items.rated.getD 0
    ∧ ((s.inForce.items.linked = none ∨ ∀ e ∈ s.view, e.relation ≠ .linkedStore) → linkedStore s = none)
    ∧ (∀ e ∈ s.view, e.relation = .linkedStore → (∀ e' ∈ s.view, e'.relation = .linkedStore → e' = e) →
        s.inForce.items.linked ≠ none → ∀ f, e.fields = .store f → linkedStore s = if e.status = .lost then none else some f)
    ∧ (s.inForce.items.linked = none → heatReservation s = 0)
    ∧ (∀ a k, s.inForce.items.linked = some a → s.inForce.kind = some k → heatReservation s = (s.view.map fun e => match e.fields with
        | .train f => if f.kind = k ∧ f.linked = some a ∧ ¬ (k = .C ∧ f.cooled = true) then f.heatFlow else 0
        | .store _ => 0).sum)
    ∧ (linkedStore s = none → storeCapC s = none ∧ storeCapX s = 0 ∧ qualityCap s = 0)
    ∧ (∀ f, linkedStore s = some f →
        storeCapC s = some (min ((f.charge - heatReservation s) * 100 / s.inForce.items.hc) (s.inForce.items.rated.getD 0))
        ∧ storeCapX s = min ((f.discharge - heatReservation s) * 100 / s.inForce.items.hx) (s.inForce.items.rated.getD 0)
        ∧ ∀ hot cold, s.inForce.hot = some hot → s.inForce.cold = some cold →
            (f.outlet ≤ cold → qualityCap s = 0)
            ∧ (cold < f.outlet →
                qualityCap s = min (s.inForce.items.rated.getD 0 * (f.outlet - cold) / (hot - cold)) (s.inForce.items.rated.getD 0)))
    ∧ cooledCap s = s.inForce.items.rated.getD 0 * s.inForce.items.cooledFraction / 100
    ∧ (∀ o f p h m r, s.link.holder = some ⟨.train o f p h m, r⟩ →
        (s.inForce.kind = some .C → s.heat.cooled = true → heatFlow s = 0)
        ∧ (s.inForce.kind = some .C → s.heat.cooled = false → heatFlow s = min (o * s.inForce.items.hc / 100) 5000)
        ∧ (s.inForce.kind = some .X → heatFlow s = min (o * s.inForce.items.hx / 100) 5000))
    ∧ (s.link.holder = none → heatFlow s = 0)
    ∧ (∀ heat : Nat,
        (s.inForce.kind = some .C ∧ heat = (if s.heat.cooled = true then cooledCap s else (storeCapC s).getD (s.inForce.items.rated.getD 0)))
          ∨ (s.inForce.kind = some .X ∧ heat = min (storeCapX s) (qualityCap s)) →
        upperLimit s =
          if min (s.inForce.items.rated.getD 0) (min (bandCap s) (min (rateCap s) (min heat s.bank.cap))) < s.inForce.minLoad then 0
          else min (s.inForce.items.rated.getD 0) (min (bandCap s) (min (rateCap s) (min heat s.bank.cap)))))
  ∧ ∀ (s : State) (d : Nat), s.share.timer = some d → s.inForce.kind = some .C → Gives .controlPeriodExpiry s fun u =>
      (u.seq.state ≠ .offline →
        (u.heat.cooled = true ↔ storeCapC s = none ∨ ∃ cap, storeCapC s = some cap ∧ cap < s.inForce.minLoad)
        ∧ (u.heat.cooled ≠ s.heat.cooled → s.link.reports.length + 3 ≤ 16 → ∃ n, ⟨n, .storeCooled u.heat.cooled⟩ ∈ u.link.reports))

/-! ## Sequencer and monitors -/

/-- The join window ends in TRIPPED where a monitor is latched, with a pending status frame rebuilt, and otherwise in STANDBY or in ACTIVE with
the published allowances by R89's lines; a start ends in RUNNING at command 0 with the standby
and blanking timers; the standby timer ends in STANDBY; a blanking timer just stops.
The instants are the model's choice (log 1), and so is the place of STATE CHANGE before a report of the read of U (log 38). -/
def Obligations.SequencerTimersRunOut : Prop :=
  ∀ (s : State) (d : Nat),
    (s.seq.state = .joining → s.seq.joinTimer = some d →
      ((∀ m, (s.bank.monitor m).cond ≠ .latched) → Gives .joinTimerExpiry s fun u =>
        u.now = max s.now d ∧ u.seq.state = (if s.isStore then .active else .standby) ∧ u.seq.joinTimer = none
        ∧ u.seq.tripHeld = false ∧ (s.isStore = false → u.share.wake = 0 ∧ u.share.command = 0)
        ∧ (s.isStore = true → u.heat.zones = s.heat.zones ∧ PublishedByTable u)
        ∧ Queued s u (.stateChange .joining (if s.isStore then .active else .standby) .joinEnd))
      ∧ ((∃ m, (s.bank.monitor m).cond = .latched) → Gives .joinTimerExpiry s fun u =>
        u.seq.state = .tripped ∧ u.seq.tripOut = true ∧ u.seq.tripHeld = false ∧ u.seq.joinTimer = none ∧ u.share.command = 0
        ∧ RebuiltAtTrip s u
        ∧ (∃ cut, u.bus.pendingAlert = some ⟨s.inForce.address, .trip, cut⟩)))
    ∧ (s.seq.state = .starting → s.seq.startTimer = some d → s.share.command = 0 → Gives .startTimerExpiry s fun u =>
      u.now = max s.now d ∧ u.seq.state = .running ∧ u.share.command = 0 ∧ u.seq.startTimer = none
      ∧ u.seq.standbyTimer = some (max s.now d
          + (if s.inForce.items.standbyCode = 0 then 240 else s.inForce.items.standbyCode * 2) * 60000)
      ∧ (s.inForce.items.blankThermal ≠ 0 → u.bank.blankThermal = some (max s.now d + s.inForce.items.blankThermal * 1000))
      ∧ (s.inForce.items.blankMargin ≠ 0 → u.bank.blankMargin = some (max s.now d + s.inForce.items.blankMargin * 1000))
      ∧ (s.inForce.items.blankThermal = 0 → u.bank.blankThermal = none)
      ∧ Queued s u (.stateChange .starting .running .startDone))
    ∧ (s.seq.state = .running → s.seq.standbyTimer = some d → s.share.command = 0 → Gives .standbyTimerExpiry s fun u =>
      u.now = max s.now d ∧ u.seq.state = .standby ∧ u.share.command = 0 ∧ u.share.wake = 0 ∧ u.seq.standbyTimer = none
      ∧ u.bank.blankThermal = none ∧ u.bank.blankMargin = none ∧ u.link.setpoint = s.link.setpoint
      ∧ Queued s u (.stateChange .running .standby .standbyTimer))
    ∧ (s.bank.blankThermal = some d →
        exec (.blankingTimerExpiry .thermal) s = .next { s with now := max s.now d, bank := { s.bank with blankThermal := none } })
    ∧ (s.bank.blankMargin = some d →
        exec (.blankingTimerExpiry .margin) s = .next { s with now := max s.now d, bank := { s.bank with blankMargin := none } })

/-- The stale timer's expiry, in every state after the seal, marks the measurements stale and acts by M_STALE's mode in force: nothing more in OFF, ACTIVE with
MONITOR WARN in WARN and RETRY, the cap at the lesser of cap and command on a train in RETRY, the published allowances held on a store in RETRY, LATCHED in
LATCH, which sets the trip-held mark in JOINING, trips a station in a service state with a pending status frame rebuilt, and does nothing further in
TRIPPED and CONFLICT; an M_STALE already LATCHED has its mark set again and nothing more. Where there is no trip a command above the U read is cut
to it, with a SETPOINT. The instants, the place of the bank's reports before one of the read of U, and the mode in the SETPOINT of a leave's end are
the model's choice (log 1, log 38, log 40), the state in the SETPOINT of a trip its reading (log 11). -/
def Obligations.StaleExpiryActsByMode : Prop :=
  ∀ (s : State) (d : Nat), s.link.staleTimer = some d → s.seq.state ≠ .offline →
    (Gives .staleTimerExpiry s fun u =>
      u.now = max s.now d ∧ u.link.staleTimer = none
      ∧ (u.seq.state ≠ .offline → u.link.staleMark = true ∧ u.link.holder = s.link.holder ∧ u.view = s.view ∧ u.book = s.book)
      ∧ (u.seq.state = .offline → s.seq.state = .leaving ∧ s.isTrain = true)
      ∧ (s.isStore = true → (u.seq.state = .active → PublishedByTable u)
          ∧ (u.seq.state ≠ .active → u.heat.pubCharge = 0 ∧ u.heat.pubDischarge = 0))
      ∧ u.items = s.items ∧ u.inForce = s.inForce ∧ u.clock = s.clock ∧ u.permit = s.permit ∧ u.heat.zones = s.heat.zones
      ∧ u.account.log = s.account.log)
    ∧ (s.inForce.modes.stale = .off → Gives .staleTimerExpiry s fun u =>
        (u.seq.state ≠ .offline → u.bank = s.bank ∧ u.account = s.account ∧ u.bus = s.bus ∧ u.seq.tripOut = s.seq.tripOut
          ∧ u.seq.tripHeld = s.seq.tripHeld)
        ∧ CutAtRead s u (limitRead s s.link.holder s.view s.bank.cap) ∧ OnlyReadReports s u)
    ∧ (s.inForce.modes.stale = .latch → s.bank.stale.cond = .latched → Gives .staleTimerExpiry s fun u =>
        (u.seq.state ≠ .offline → u.bank = { s.bank with stale := { s.bank.stale with mark := true } } ∧ u.account = s.account ∧ u.bus = s.bus
          ∧ u.seq.tripOut = s.seq.tripOut ∧ u.seq.tripHeld = s.seq.tripHeld)
        ∧ CutAtRead s u (limitRead s s.link.holder s.view s.bank.cap) ∧ OnlyReadReports s u)
    ∧ (s.bank.stale.cond = .clear → s.inForce.modes.stale = .warn ∨ s.inForce.modes.stale = .retry → ∀ cap : Nat,
        cap = (if s.inForce.modes.stale = .retry ∧ s.isTrain = true then min s.bank.cap s.share.command else s.bank.cap) →
        Gives .staleTimerExpiry s fun u =>
          (u.seq.state ≠ .offline → u.bank = { s.bank with stale := ⟨.active, 0, 0, true⟩, cap := cap } ∧ u.account = s.account
            ∧ u.bus = s.bus ∧ u.seq.tripOut = s.seq.tripOut ∧ u.seq.tripHeld = s.seq.tripHeld)
          ∧ Queued s u (.monitorWarn .stale s.inForce.modes.stale)
          ∧ CutAtRead s u (limitRead s s.link.holder s.view cap) ∧ u.share.command ≤ s.share.command)
    ∧ (s.bank.stale.cond = .clear → s.inForce.modes.stale = .retry → s.isStore = true → s.seq.state = .active →
        Gives .staleTimerExpiry s fun u =>
          u.seq.state = .active ∧ u.heat.pubCharge = min s.heat.pubCharge s.heat.classCharge
          ∧ u.heat.pubDischarge = min s.heat.pubDischarge s.heat.classDischarge)
    ∧ (s.bank.stale.cond = .clear → s.inForce.modes.stale = .latch →
        s.seq.state = .joining ∨ s.seq.state = .tripped ∨ s.seq.state = .conflict → Gives .staleTimerExpiry s fun u =>
          u.bank = { s.bank with stale := ⟨.latched, 0, 0, true⟩ } ∧ u.account = s.account ∧ u.bus = s.bus ∧ u.seq.tripOut = s.seq.tripOut
          ∧ u.seq.tripHeld = (s.seq.tripHeld || decide (s.seq.state = .joining))
          ∧ CutAtRead s u (limitRead s s.link.holder s.view s.bank.cap) ∧ OnlyReadReports s u)
    ∧ (s.bank.stale.cond = .clear → s.inForce.modes.stale = .latch → s.seq.state.inService = true → Gives .staleTimerExpiry s fun u =>
        u.seq.state = .tripped ∧ u.seq.tripOut = true ∧ u.seq.available = false ∧ u.share.command = 0
        ∧ u.bank.stale = ⟨.latched, 0, 0, true⟩ ∧ u.seq.standbyTimer = none ∧ u.seq.startTimer = none
        ∧ u.bus.pendingAlert = some ⟨s.inForce.address, .trip, cutReport s⟩ ∧ RebuiltAtTrip s u
        ∧ (∀ o, s.account.openRec = some o → ∃ o', u.account.openRec = some o' ∧ o'.trippedSeen = true
            ∧ o'.cut = some ⟨.trip, cutReport s⟩)
        ∧ (s.isTrain = true → s.share.command ≠ 0 → ∃ p, u.link.setpoint = some p ∧ p.command = 0 ∧ p.state = .tripped)
        ∧ (s.isStore = true → u.heat.pubCharge = 0 ∧ u.heat.pubDischarge = 0)
        ∧ (s.link.reports.length + 2 ≤ 16 → ∃ more, u.link.reports = s.link.reports ++
            [⟨s.link.reportNo, .trip [.stale]⟩,
             ⟨(s.link.reportNo + 1) % 65536, .stateChange s.seq.state .tripped .trip⟩] ++ more))

/-- A monitor judged at a record changes by R124's table, each count changed before it is compared with the deglitch count. At a MEASURE taken
after the seal each monitor that the record concerns is so judged, the condition of M_STALE ends, a monitor that becomes ACTIVE latches in
LATCH and queues MONITOR WARN in RETRY and WARN (M_NATIVE being in LATCH, as it always is), the retry cut is made or the cap released, and the monitors that latched set the trip-held mark
in JOINING, trip a station in a service state, naming them, with a pending status frame rebuilt, and do nothing further in TRIPPED and CONFLICT: no
report of a trip, no note in the open record, no mark. Where no trip is made, a train's command is cut to the U read with that cap (the mode in the
SETPOINT of a leave's end is the model's choice, log 40). -/
def Obligations.MonitorJudgedByTable : Prop :=
  (∀ (d : Nat) (m : MonState), 1 ≤ d →
    (m.cond = .clear → judgeMonitor d true m =
      if d ≤ 1 then ⟨.active, 0, 0, true⟩ else ⟨.pending, 1, m.release, true⟩)
    ∧ (m.cond = .clear → judgeMonitor d false m = { m with mark := false })
    ∧ (m.cond = .pending → judgeMonitor d true m =
        if d ≤ m.onset + 1 then ⟨.active, 0, 0, true⟩ else { m with onset := m.onset + 1, mark := true })
    ∧ (m.cond = .pending → (judgeMonitor d false m).cond = .clear ∧ (judgeMonitor d false m).onset = 0)
    ∧ (m.cond = .active → judgeMonitor d true m = { m with release := 0, mark := true })
    ∧ (m.cond = .active → judgeMonitor d false m =
        if d ≤ m.release + 1 then ⟨.clear, 0, 0, false⟩ else { m with release := m.release + 1, mark := false })
    ∧ (m.cond = .latched → ∀ b, judgeMonitor d b m = { m with mark := b })
    ∧ (m.cond = .clear → (judgedRun d true d m).cond = .active ∧ (judgedRun d true d m).onset = 0
        ∧ ∀ k, 1 ≤ k → k < d → (judgedRun d true k m).cond = .pending)
    ∧ (m.cond = .active → m.release = 0 → (judgedRun d false d m) = ⟨.clear, 0, 0, false⟩
        ∧ ∀ k, k < d → (judgedRun d false k m).cond = .active))
  ∧ ∀ (s : State) (t : Nat) (tag : Byte) (form : MeasureForm) (bank : Monitor → MonState),
    s.seq.state ≠ .offline → IsNew s tag (.measure form) → form.wellFormed = true →
    (∀ o f p h m, form = .train o f p h m → s.isTrain = true) → (∀ zones, form = .store zones → s.isStore = true) →
    s.heat.zones.length = 8 → (∀ m, JudgedAs s form m (bank m)) →
    Gives (.measure t tag form) s fun u =>
      ((∀ m, ¬ Latches s form m) → u.seq.state = s.seq.state ∨ (s.seq.state = .leaving ∧ u.seq.state = .offline))
      ∧ ((∀ m, ¬ Latches s form m) ∨ s.seq.state.inService = false → u.seq.state ≠ .offline → ∀ m, u.bank.monitor m = bank m)
      ∧ (∀ m, BecomesActive s form m → s.inForce.modes.get m = .retry ∨ s.inForce.modes.get m = .warn →
          NativeModeLaw s → s.link.reports.length + 2 ≤ 16 → ∃ n, ⟨n, .monitorWarn m (s.inForce.modes.get m)⟩ ∈ u.link.reports)
      ∧ (∀ latched, Latches s form latched → s.seq.state = .joining → u.seq.state = .joining ∧ u.seq.tripHeld = true)
      ∧ (∀ latched, Latches s form latched → s.seq.state = .tripped ∨ s.seq.state = .conflict →
          u.seq.state = s.seq.state ∧ u.seq.tripOut = s.seq.tripOut ∧ u.bus.pendingAlert = s.bus.pendingAlert
          ∧ u.bus.pendingStatus = s.bus.pendingStatus ∧ u.seq.tripHeld = s.seq.tripHeld ∧ u.account.openRec = s.account.openRec
          ∧ ∀ x ∈ u.link.reports, (∃ named, x.report = .trip named) → x ∈ s.link.reports)
      ∧ (∀ latched, Latches s form latched → s.seq.state.inService = true →
          u.seq.state = .tripped ∧ u.seq.tripOut = true ∧ u.seq.available = false ∧ u.share.command = 0
          ∧ u.bus.pendingAlert = some ⟨s.inForce.address, .trip, cutReport s⟩ ∧ RebuiltAtTrip s u
          ∧ u.bank.native = bank .native ∧ u.bank.zoneHigh = bank .zoneHigh ∧ u.bank.stale = bank .stale
          ∧ ((s.seq.state = .running ∨ s.seq.state = .leaving) →
              u.bank.thermal = (if (bank .thermal).cond = .latched then { bank .thermal with mark := false } else ⟨.clear, 0, 0, false⟩)
              ∧ u.bank.margin = (if (bank .margin).cond = .latched then { bank .margin with mark := false } else ⟨.clear, 0, 0, false⟩))
          ∧ (s.link.reports.length + 4 ≤ 16 → ∃ n named, ⟨n, .trip named⟩ ∈ u.link.reports ∧ ∀ m, m ∈ named ↔ Latches s form m))
      ∧ (s.isTrain = true → (∀ m, ¬ Latches s form m) ∨ s.seq.state.inService = false → ∀ held cap : Nat,
          ((RetryIn s s.bank.monitor .stale ∧ ∀ m, m ≠ .stale → ¬ RetryIn s s.bank.monitor m) →
            held = s.inForce.items.rated.getD 0) →
          (¬ (RetryIn s s.bank.monitor .stale ∧ ∀ m, m ≠ .stale → ¬ RetryIn s s.bank.monitor m) → held = s.bank.cap) →
          ((∃ m, RetryIn s bank m) → cap = min held s.share.command - s.inForce.items.retryStep) →
          ((∀ m, ¬ RetryIn s bank m) → (∃ m, RetryIn s s.bank.monitor m) → cap = s.inForce.items.rated.getD 0) →
          ((∀ m, ¬ RetryIn s bank m) → (∀ m, ¬ RetryIn s s.bank.monitor m) → cap = s.bank.cap) →
          (u.seq.state ≠ .offline → u.bank.cap = cap)
          ∧ CutAtRead s u (limitRead s (some ⟨Measurement.ofForm form, max s.now t⟩) s.view cap))

/-! ## Encodings -/

/-- Every frame a station may send decodes to itself: no bit of its encoding is dropped, its check is good and its length the one of its type. -/
def Obligations.FramesDecodeToThemselves : Prop :=
  ∀ f : Frame, f.InRange → decodeFrame f.encode = .frame f

/-- The bytes of a request, under a good check, are that request: it decodes to itself, and the record given by its bytes does what the request does.
That a row given by bytes acts by its bytes is the model's choice (log 17). -/
def Obligations.RecordBytesAreTheirRequest : Prop :=
  ∀ (c : Instr) (t : Nat) (tag : Byte) (r : Request), asRequest c = some (t, tag, r) → r.WellFormed →
    decodeRequest r.code r.body = some r
    ∧ ∀ s : State, exec (.linkRecordDiscarded t (withCheck (r.code :: tag :: r.body))) s = exec c s

/-! ## Invariants -/

/-- The reset state satisfies every invariant of the station.
The values no rule gives are the model's choice (log 5). -/
def Obligations.ResetSatisfiesLaws : Prop :=
  CommandLaw State.reset ∧ CapacityLaw State.reset ∧ BookLaw State.reset ∧ ViewLaw State.reset ∧ HoldLaw State.reset ∧ AvailableLaw State.reset
  ∧ TripOutLaw State.reset ∧ LatchLaw State.reset ∧ PermitLaw State.reset ∧ TimerLaw State.reset ∧ LinkLaw State.reset
  ∧ StoreLaw State.reset ∧ CooledLaw State.reset ∧ WakeDelayLaw State.reset ∧ NativeModeLaw State.reset

/-- Every step keeps the command at 0 or between m and the current upper limit of a loaded train. -/
def Obligations.StepKeepsCommandLaw : Prop := KeptByStep CommandLaw

/-- Every step keeps the queues, lists and counts within their capacities, and both lists of the book in order and disjoint. -/
def Obligations.StepKeepsCapacitiesAndBook : Prop := KeptByStep CapacityLaw ∧ KeptByStep BookLaw

/-- Every step keeps the peer table in order of address, free of the station's own, and empty in OFFLINE, and with that a lost hold on
exactly the LOST entries. -/
def Obligations.StepKeepsViewLaw : Prop := KeptByStep ViewLaw ∧ KeptByStep fun s => ViewLaw s ∧ HoldLaw s

/-- Every step keeps AVAILABLE set exactly while its four conditions hold.
Which reads of U count is the model's reading (log 20). -/
def Obligations.StepKeepsAvailableLaw : Prop := KeptByStep AvailableLaw

/-- Every step keeps TRIP OUT asserted exactly in TRIPPED and CONFLICT, no monitor LATCHED in a service state, M_NATIVE in mode LATCH, the wake delay in its range,
and, while that range holds, starting, running and a train's leaving to PERMIT, with only a store in ACTIVE. -/
def Obligations.StepKeepsTripAndPermitLaws : Prop :=
  KeptByStep TripOutLaw ∧ KeptByStep LatchLaw ∧ KeptByStep NativeModeLaw ∧ KeptByStep WakeDelayLaw ∧ KeptByStep fun s => PermitLaw s ∧ WakeDelayLaw s

/-- Every step keeps each timer running in exactly the states the spec runs it in, the blanking timers to RUNNING and LEAVING, and the cooled flag
to sealed compressors. -/
def Obligations.StepKeepsTimerLaw : Prop := KeptByStep fun s => TimerLaw s ∧ CommandLaw s ∧ CooledLaw s

/-- Every step keeps an owed reply the kept request's, and a store without time, schedule, account and command. -/
def Obligations.StepKeepsLinkAndStoreLaws : Prop := KeptByStep LinkLaw ∧ KeptByStep StoreLaw

end Statements
end

