-- ==== Sys2Proof/Laws/Encodings.lean ====
section
/-! SUPPORT. What the encodings do: the lengths of fields, a field read back, a record with its check. -/

namespace Sys2Proof.Machine

theorem bytes2_length (n : Nat) : (bytes2 n).length = 2 := rfl

theorem bytes4_length (n : Nat) : (bytes4 n).length = 4 := rfl

/-- A record with its check gives back the bytes before it. -/
theorem beforeCheck_withCheck (bs : List Byte) : beforeCheck (withCheck bs) = bs := by
  simp [beforeCheck, withCheck, bytes2]

/-- A record built with its check passes the check (R164, R165). -/
theorem checkGood_withCheck (bs : List Byte) : checkGood (withCheck bs) = true := by
  have h : (withCheck bs).drop ((withCheck bs).length - 2) = bytes2 (crc bs).toNat := by
    simp [withCheck, bytes2]
  simp only [checkGood, beforeCheck_withCheck, h, beq_self_eq_true, Bool.and_true, decide_eq_true_eq]
  simp [withCheck, bytes2]

theorem withCheck_length (bs : List Byte) : (withCheck bs).length = bs.length + 2 := by simp [withCheck, bytes2]

/-- A two-byte value written and read back. -/
theorem byteOf_two (n : Nat) (h : n < 65536) : (byteOf (n / 256)).toNat * 256 + (byteOf n).toNat = n := by
  simp [byteOf]; omega

/-- A four-byte value written and read back. -/
theorem byteOf_four (n : Nat) (h : n < 4294967296) :
    ((byteOf (n / 16777216)).toNat * 256 + (byteOf (n / 65536)).toNat) * 65536
      + ((byteOf (n / 256)).toNat * 256 + (byteOf n).toNat) = n := by
  simp [byteOf]; omega

/-- A small value in one byte. -/
theorem byteOf_one (n : Nat) (h : n < 256) : (byteOf n).toNat = n := by
  simp [byteOf]; omega

/-- Bytes joined to the left of one more byte. -/
theorem append_byte_toNat {n : Nat} (x : BitVec n) (y : Byte) : (x ++ y).toNat = x.toNat * 256 + y.toNat := by
  rw [BitVec.toNat_append, ← Nat.shiftLeft_add_eq_or_of_lt y.isLt, Nat.shiftLeft_eq]

/-- A half in its two bytes, read back. -/
theorem half2_bytes (h : Half) : half2 (byteOf (h.toNat / 256)) (byteOf h.toNat) = h := by
  apply BitVec.eq_of_toNat_eq
  rw [half2, append_byte_toNat]
  exact byteOf_two _ h.isLt

theorem four_digits (a b c d : Nat) : ((a * 256 + b) * 256 + c) * 256 + d = (a * 256 + b) * 65536 + (c * 256 + d) := by
  omega

/-- A word in its four bytes, read back. -/
theorem word4_bytes (w : Word) :
    word4 (byteOf (w.toNat / 16777216)) (byteOf (w.toNat / 65536)) (byteOf (w.toNat / 256)) (byteOf w.toNat) = w := by
  apply BitVec.eq_of_toNat_eq
  rw [word4, append_byte_toNat, append_byte_toNat, append_byte_toNat]
  exact Eq.trans (four_digits _ _ _ _) (byteOf_four w.toNat w.isLt)

end Sys2Proof.Machine
end

