-- ==== Sys2Proof/Laws/State.lean ====
section
/-! SUPPORT. What each update of the state leaves unchanged, field by field: the shared operations of Machine/Ops.lean and the helpers
under them. -/

namespace Sys2Proof.Machine

@[simp] theorem Book.judged_keeps (b : Book) (view : List Entry) (i : Nat) :
    (b.judged view i).noms = b.noms ∧ (b.judged view i).orders = b.orders ∧ (b.judged view i).target = b.target
    ∧ (b.judged view i).settle = b.settle ∧ (b.judged view i).orderChanged = b.orderChanged := by
  unfold Book.judged; dsimp only; split <;> simp
@[simp] theorem Account.addPlant_keeps (a : Account) (e : Int) :
    (a.addPlant e).openRec = a.openRec ∧ (a.addPlant e).ownAcc = a.ownAcc ∧ (a.addPlant e).ownPoint = a.ownPoint
    ∧ (a.addPlant e).peerPoints = a.peerPoints ∧ (a.addPlant e).log = a.log := by
  unfold Account.addPlant; split <;> simp
@[simp] theorem Account.addOwn_keeps (a : Account) (e : Int) :
    (a.addOwn e).openRec = a.openRec ∧ (a.addOwn e).ownPoint = a.ownPoint
    ∧ (a.addOwn e).peerPoints = a.peerPoints ∧ (a.addOwn e).log = a.log := by
  unfold Account.addOwn; split <;> simp
@[simp] theorem creditAll_keeps (s : State) :
    (creditAll s).openRec = s.account.openRec ∧ (creditAll s).ownPoint = s.account.ownPoint
    ∧ (creditAll s).peerPoints = s.account.peerPoints ∧ (creditAll s).log = s.account.log := by
  simp [creditAll]
@[simp] theorem Bank.setMonitor_keeps (b : Bank) (m : Monitor) (v : MonState) :
    (b.setMonitor m v).cap = b.cap ∧ (b.setMonitor m v).blankThermal = b.blankThermal
    ∧ (b.setMonitor m v).blankMargin = b.blankMargin := by
  cases m <;> simp [Bank.setMonitor]
@[simp] theorem atInstant_keeps (t : Nat) (s : State) :
    (s.atInstant t).items = s.items ∧ (s.atInstant t).inForce = s.inForce ∧ (s.atInstant t).bus = s.bus ∧
    (s.atInstant t).view = s.view ∧ (s.atInstant t).clock = s.clock ∧ (s.atInstant t).book = s.book ∧
    (s.atInstant t).share = s.share ∧ (s.atInstant t).heat = s.heat ∧ (s.atInstant t).seq = s.seq ∧
    (s.atInstant t).bank = s.bank ∧ (s.atInstant t).account = s.account ∧ (s.atInstant t).link = s.link ∧
    (s.atInstant t).permit = s.permit ∧ (s.atInstant t).free = s.free ∧ (s.atInstant t).pending = s.pending := by
  refine ⟨?_, ?_, ?_, ?_, ?_, ?_, ?_, ?_, ?_, ?_, ?_, ?_, ?_, ?_, ?_⟩ <;>
    rfl

@[simp] theorem produce_keeps (r : Report) (s : State) :
    (produce r s).now = s.now ∧ (produce r s).items = s.items ∧ (produce r s).inForce = s.inForce ∧
    (produce r s).bus = s.bus ∧ (produce r s).view = s.view ∧ (produce r s).clock = s.clock ∧
    (produce r s).book = s.book ∧ (produce r s).share = s.share ∧ (produce r s).heat = s.heat ∧
    (produce r s).seq = s.seq ∧ (produce r s).bank = s.bank ∧ (produce r s).account = s.account ∧
    (produce r s).permit = s.permit ∧ (produce r s).free = s.free ∧ (produce r s).pending = s.pending ∧
    (produce r s).link.kept = s.link.kept ∧ (produce r s).link.owed = s.link.owed ∧
    (produce r s).link.setpoint = s.link.setpoint ∧ (produce r s).link.faults = s.link.faults ∧
    (produce r s).link.sending = s.link.sending ∧ (produce r s).link.holder = s.link.holder ∧
    (produce r s).link.staleTimer = s.link.staleTimer ∧ (produce r s).link.staleMark = s.link.staleMark := by
  refine ⟨?_, ?_, ?_, ?_, ?_, ?_, ?_, ?_, ?_, ?_, ?_, ?_, ?_, ?_, ?_, ?_, ?_, ?_, ?_, ?_, ?_, ?_, ?_⟩ <;>
    rfl

@[simp] theorem produceEither_keeps (x y : Option Report) (s : State) :
    (produceEither x y s).now = s.now ∧ (produceEither x y s).items = s.items ∧
    (produceEither x y s).inForce = s.inForce ∧ (produceEither x y s).bus = s.bus ∧
    (produceEither x y s).view = s.view ∧ (produceEither x y s).clock = s.clock ∧
    (produceEither x y s).book = s.book ∧ (produceEither x y s).share = s.share ∧
    (produceEither x y s).heat = s.heat ∧ (produceEither x y s).seq = s.seq ∧ (produceEither x y s).bank = s.bank ∧
    (produceEither x y s).account = s.account ∧ (produceEither x y s).permit = s.permit ∧
    (produceEither x y s).pending = s.pending ∧ (produceEither x y s).link.kept = s.link.kept ∧
    (produceEither x y s).link.owed = s.link.owed ∧ (produceEither x y s).link.setpoint = s.link.setpoint ∧
    (produceEither x y s).link.faults = s.link.faults ∧ (produceEither x y s).link.sending = s.link.sending ∧
    (produceEither x y s).link.holder = s.link.holder ∧ (produceEither x y s).link.staleTimer = s.link.staleTimer ∧
    (produceEither x y s).link.staleMark = s.link.staleMark := by
  refine ⟨?_, ?_, ?_, ?_, ?_, ?_, ?_, ?_, ?_, ?_, ?_, ?_, ?_, ?_, ?_, ?_, ?_, ?_, ?_, ?_, ?_, ?_⟩ <;>
    first | rfl | (simp [produceEither]; done) | (unfold produceEither; (try dsimp only); (repeat' split) <;> first | rfl | (simp; done))

@[simp] theorem sendSetpoint_keeps (s : State) :
    (sendSetpoint s).now = s.now ∧ (sendSetpoint s).items = s.items ∧ (sendSetpoint s).inForce = s.inForce ∧
    (sendSetpoint s).bus = s.bus ∧ (sendSetpoint s).view = s.view ∧ (sendSetpoint s).clock = s.clock ∧
    (sendSetpoint s).book = s.book ∧ (sendSetpoint s).share = s.share ∧ (sendSetpoint s).heat = s.heat ∧
    (sendSetpoint s).seq = s.seq ∧ (sendSetpoint s).bank = s.bank ∧ (sendSetpoint s).account = s.account ∧
    (sendSetpoint s).permit = s.permit ∧ (sendSetpoint s).free = s.free ∧ (sendSetpoint s).pending = s.pending ∧
    (sendSetpoint s).link.kept = s.link.kept ∧ (sendSetpoint s).link.owed = s.link.owed ∧
    (sendSetpoint s).link.reports = s.link.reports ∧ (sendSetpoint s).link.reportNo = s.link.reportNo ∧
    (sendSetpoint s).link.discarded = s.link.discarded ∧ (sendSetpoint s).link.faults = s.link.faults ∧
    (sendSetpoint s).link.sending = s.link.sending ∧ (sendSetpoint s).link.holder = s.link.holder ∧
    (sendSetpoint s).link.staleTimer = s.link.staleTimer ∧ (sendSetpoint s).link.staleMark = s.link.staleMark := by
  refine ⟨?_, ?_, ?_, ?_, ?_, ?_, ?_, ?_, ?_, ?_, ?_, ?_, ?_, ?_, ?_, ?_, ?_, ?_, ?_, ?_, ?_, ?_, ?_, ?_, ?_⟩ <;>
    rfl

@[simp] theorem countFault_keeps (s : State) :
    (countFault s).now = s.now ∧ (countFault s).items = s.items ∧ (countFault s).inForce = s.inForce ∧
    (countFault s).bus = s.bus ∧ (countFault s).view = s.view ∧ (countFault s).clock = s.clock ∧
    (countFault s).book = s.book ∧ (countFault s).share = s.share ∧ (countFault s).heat = s.heat ∧
    (countFault s).seq = s.seq ∧ (countFault s).bank = s.bank ∧ (countFault s).account = s.account ∧
    (countFault s).permit = s.permit ∧ (countFault s).free = s.free ∧ (countFault s).pending = s.pending ∧
    (countFault s).link.kept = s.link.kept ∧ (countFault s).link.owed = s.link.owed ∧
    (countFault s).link.setpoint = s.link.setpoint ∧ (countFault s).link.reports = s.link.reports ∧
    (countFault s).link.reportNo = s.link.reportNo ∧ (countFault s).link.discarded = s.link.discarded ∧
    (countFault s).link.sending = s.link.sending ∧ (countFault s).link.holder = s.link.holder ∧
    (countFault s).link.staleTimer = s.link.staleTimer ∧ (countFault s).link.staleMark = s.link.staleMark := by
  refine ⟨?_, ?_, ?_, ?_, ?_, ?_, ?_, ?_, ?_, ?_, ?_, ?_, ?_, ?_, ?_, ?_, ?_, ?_, ?_, ?_, ?_, ?_, ?_, ?_, ?_⟩ <;>
    rfl

@[simp] theorem enterState_keeps (entered : StationState) (cause : Cause) (s : State) :
    (enterState entered cause s).now = s.now ∧ (enterState entered cause s).items = s.items ∧
    (enterState entered cause s).inForce = s.inForce ∧ (enterState entered cause s).bus = s.bus ∧
    (enterState entered cause s).view = s.view ∧ (enterState entered cause s).clock = s.clock ∧
    (enterState entered cause s).book = s.book ∧ (enterState entered cause s).share = s.share ∧
    (enterState entered cause s).heat = s.heat ∧ (enterState entered cause s).bank = s.bank ∧
    (enterState entered cause s).account = s.account ∧ (enterState entered cause s).permit = s.permit ∧
    (enterState entered cause s).free = s.free ∧ (enterState entered cause s).pending = s.pending ∧
    (enterState entered cause s).seq.available = s.seq.available ∧
    (enterState entered cause s).seq.joinTimer = s.seq.joinTimer ∧
    (enterState entered cause s).seq.startTimer = s.seq.startTimer ∧
    (enterState entered cause s).seq.standbyTimer = s.seq.standbyTimer ∧
    (enterState entered cause s).seq.tripHeld = s.seq.tripHeld ∧
    (enterState entered cause s).seq.leaveCount = s.seq.leaveCount ∧ (enterState entered cause s).seq.tripOut = s.seq.tripOut ∧
    (enterState entered cause s).link.kept = s.link.kept ∧ (enterState entered cause s).link.owed = s.link.owed ∧
    (enterState entered cause s).link.setpoint = s.link.setpoint ∧ (enterState entered cause s).link.faults = s.link.faults ∧
    (enterState entered cause s).link.sending = s.link.sending ∧ (enterState entered cause s).link.holder = s.link.holder ∧
    (enterState entered cause s).link.staleTimer = s.link.staleTimer ∧
    (enterState entered cause s).link.staleMark = s.link.staleMark := by
  refine ⟨?_, ?_, ?_, ?_, ?_, ?_, ?_, ?_, ?_, ?_, ?_, ?_, ?_, ?_, ?_, ?_, ?_, ?_, ?_, ?_, ?_, ?_, ?_, ?_, ?_, ?_, ?_, ?_, ?_⟩ <;>
    rfl

end Sys2Proof.Machine
end

