-- ==== Sys2Proof/Laws/Frames.lean ====
section
/-! SUPPORT. What the operations of the schedule book, the delivery account and the heat store unit leave unchanged, field by field. -/

namespace Sys2Proof.Machine

@[simp] theorem noteHeld_keeps (s : State) :
    (noteHeld s).now = s.now ∧ (noteHeld s).items = s.items ∧ (noteHeld s).inForce = s.inForce ∧
    (noteHeld s).bus = s.bus ∧ (noteHeld s).view = s.view ∧ (noteHeld s).clock = s.clock ∧
    (noteHeld s).book = s.book ∧ (noteHeld s).share = s.share ∧ (noteHeld s).heat = s.heat ∧
    (noteHeld s).seq = s.seq ∧ (noteHeld s).bank = s.bank ∧ (noteHeld s).link = s.link ∧
    (noteHeld s).permit = s.permit ∧ (noteHeld s).free = s.free ∧ (noteHeld s).pending = s.pending ∧
    (noteHeld s).account.ownAcc = s.account.ownAcc ∧ (noteHeld s).account.plantAcc = s.account.plantAcc ∧
    (noteHeld s).account.ownPoint = s.account.ownPoint ∧ (noteHeld s).account.peerPoints = s.account.peerPoints ∧
    (noteHeld s).account.log = s.account.log := by
  refine ⟨?_, ?_, ?_, ?_, ?_, ?_, ?_, ?_, ?_, ?_, ?_, ?_, ?_, ?_, ?_, ?_, ?_, ?_, ?_, ?_⟩ <;>
    rfl

@[simp] theorem noteTarget_keeps (t : Option Int) (s : State) :
    (noteTarget t s).now = s.now ∧ (noteTarget t s).items = s.items ∧ (noteTarget t s).inForce = s.inForce ∧
    (noteTarget t s).bus = s.bus ∧ (noteTarget t s).view = s.view ∧ (noteTarget t s).clock = s.clock ∧
    (noteTarget t s).book = s.book ∧ (noteTarget t s).share = s.share ∧ (noteTarget t s).heat = s.heat ∧
    (noteTarget t s).seq = s.seq ∧ (noteTarget t s).bank = s.bank ∧ (noteTarget t s).link = s.link ∧
    (noteTarget t s).permit = s.permit ∧ (noteTarget t s).free = s.free ∧ (noteTarget t s).pending = s.pending ∧
    (noteTarget t s).account.ownAcc = s.account.ownAcc ∧ (noteTarget t s).account.plantAcc = s.account.plantAcc ∧
    (noteTarget t s).account.ownPoint = s.account.ownPoint ∧
    (noteTarget t s).account.peerPoints = s.account.peerPoints ∧ (noteTarget t s).account.log = s.account.log := by
  refine ⟨?_, ?_, ?_, ?_, ?_, ?_, ?_, ?_, ?_, ?_, ?_, ?_, ?_, ?_, ?_, ?_, ?_, ?_, ?_, ?_⟩ <;>
    first | rfl | (simp [noteTarget]; done) | (unfold noteTarget; (try dsimp only); (repeat' split) <;> first | rfl | (simp; done))

@[simp] theorem judgeWith_keeps (s : State) :
    (judgeWith s).1.now = s.now ∧ (judgeWith s).1.items = s.items ∧ (judgeWith s).1.inForce = s.inForce ∧
    (judgeWith s).1.bus = s.bus ∧ (judgeWith s).1.view = s.view ∧ (judgeWith s).1.clock = s.clock ∧
    (judgeWith s).1.share = s.share ∧ (judgeWith s).1.heat = s.heat ∧ (judgeWith s).1.seq = s.seq ∧
    (judgeWith s).1.bank = s.bank ∧ (judgeWith s).1.account = s.account ∧ (judgeWith s).1.link = s.link ∧
    (judgeWith s).1.permit = s.permit ∧ (judgeWith s).1.free = s.free ∧ (judgeWith s).1.pending = s.pending ∧
    (judgeWith s).1.book.noms = s.book.noms ∧ (judgeWith s).1.book.orders = s.book.orders ∧
    (judgeWith s).1.book.target = s.book.target ∧ (judgeWith s).1.book.settle = s.book.settle ∧
    (judgeWith s).1.book.orderChanged = s.book.orderChanged := by
  refine ⟨?_, ?_, ?_, ?_, ?_, ?_, ?_, ?_, ?_, ?_, ?_, ?_, ?_, ?_, ?_, ?_, ?_, ?_, ?_, ?_⟩ <;>
    first | rfl | (simp [judgeWith]; done) | (unfold judgeWith; (try dsimp only); (repeat' split) <;> first | rfl | (simp; done))

theorem judge_cases (s : State) : judge s = (judgeWith s).1 ∨ ∃ r, judge s = produce r (judgeWith s).1 := by
  unfold judge
  split
  · next t r h => exact Or.inr ⟨r, by rw [h]⟩
  · next t h => exact Or.inl (by rw [h])
@[simp] theorem judge_keeps (s : State) :
    (judge s).now = s.now ∧ (judge s).items = s.items ∧ (judge s).inForce = s.inForce ∧ (judge s).bus = s.bus ∧
    (judge s).view = s.view ∧ (judge s).clock = s.clock ∧ (judge s).share = s.share ∧ (judge s).heat = s.heat ∧
    (judge s).seq = s.seq ∧ (judge s).bank = s.bank ∧ (judge s).account = s.account ∧ (judge s).permit = s.permit ∧
    (judge s).free = s.free ∧ (judge s).pending = s.pending ∧ (judge s).book.noms = s.book.noms ∧
    (judge s).book.orders = s.book.orders ∧ (judge s).book.target = s.book.target ∧
    (judge s).book.settle = s.book.settle ∧ (judge s).book.orderChanged = s.book.orderChanged ∧
    (judge s).link.kept = s.link.kept ∧ (judge s).link.owed = s.link.owed ∧
    (judge s).link.setpoint = s.link.setpoint ∧ (judge s).link.faults = s.link.faults ∧
    (judge s).link.sending = s.link.sending ∧ (judge s).link.holder = s.link.holder ∧
    (judge s).link.staleTimer = s.link.staleTimer ∧ (judge s).link.staleMark = s.link.staleMark := by
  refine ⟨?_, ?_, ?_, ?_, ?_, ?_, ?_, ?_, ?_, ?_, ?_, ?_, ?_, ?_, ?_, ?_, ?_, ?_, ?_, ?_, ?_, ?_, ?_, ?_, ?_, ?_, ?_⟩ <;>
    first | rfl | (rcases judge_cases s with h | ⟨r, h⟩ <;> rw [h] <;> simp)

@[simp] theorem deriveAtExpiry_keeps (s : State) :
    (deriveAtExpiry s).now = s.now ∧ (deriveAtExpiry s).items = s.items ∧ (deriveAtExpiry s).inForce = s.inForce ∧
    (deriveAtExpiry s).bus = s.bus ∧ (deriveAtExpiry s).view = s.view ∧ (deriveAtExpiry s).clock = s.clock ∧
    (deriveAtExpiry s).share = s.share ∧ (deriveAtExpiry s).heat = s.heat ∧ (deriveAtExpiry s).seq = s.seq ∧
    (deriveAtExpiry s).bank = s.bank ∧ (deriveAtExpiry s).permit = s.permit ∧ (deriveAtExpiry s).free = s.free ∧
    (deriveAtExpiry s).pending = s.pending ∧ (deriveAtExpiry s).account.ownAcc = s.account.ownAcc ∧
    (deriveAtExpiry s).account.plantAcc = s.account.plantAcc ∧
    (deriveAtExpiry s).account.ownPoint = s.account.ownPoint ∧
    (deriveAtExpiry s).account.peerPoints = s.account.peerPoints ∧ (deriveAtExpiry s).account.log = s.account.log ∧
    (deriveAtExpiry s).book.noms = s.book.noms ∧ (deriveAtExpiry s).book.orders = s.book.orders ∧
    (deriveAtExpiry s).book.settle = s.book.settle ∧ (deriveAtExpiry s).book.orderChanged = s.book.orderChanged ∧
    (deriveAtExpiry s).link.kept = s.link.kept ∧ (deriveAtExpiry s).link.owed = s.link.owed ∧
    (deriveAtExpiry s).link.setpoint = s.link.setpoint ∧ (deriveAtExpiry s).link.faults = s.link.faults ∧
    (deriveAtExpiry s).link.sending = s.link.sending ∧ (deriveAtExpiry s).link.holder = s.link.holder ∧
    (deriveAtExpiry s).link.staleTimer = s.link.staleTimer ∧ (deriveAtExpiry s).link.staleMark = s.link.staleMark := by
  refine ⟨?_, ?_, ?_, ?_, ?_, ?_, ?_, ?_, ?_, ?_, ?_, ?_, ?_, ?_, ?_, ?_, ?_, ?_, ?_, ?_, ?_, ?_, ?_, ?_, ?_, ?_, ?_, ?_,
    ?_, ?_⟩ <;>
    first | rfl | (simp [deriveAtExpiry]; done) | (unfold deriveAtExpiry; (try dsimp only); (repeat' split) <;> first | rfl | (simp; done))

@[simp] theorem stepAgreement_keeps (s : State) :
    (stepAgreement s).now = s.now ∧ (stepAgreement s).items = s.items ∧ (stepAgreement s).inForce = s.inForce ∧
    (stepAgreement s).bus = s.bus ∧ (stepAgreement s).view = s.view ∧ (stepAgreement s).clock = s.clock ∧
    (stepAgreement s).share = s.share ∧ (stepAgreement s).heat = s.heat ∧ (stepAgreement s).seq = s.seq ∧
    (stepAgreement s).bank = s.bank ∧ (stepAgreement s).permit = s.permit ∧ (stepAgreement s).free = s.free ∧
    (stepAgreement s).pending = s.pending ∧ (stepAgreement s).account.ownAcc = s.account.ownAcc ∧
    (stepAgreement s).account.plantAcc = s.account.plantAcc ∧
    (stepAgreement s).account.ownPoint = s.account.ownPoint ∧
    (stepAgreement s).account.peerPoints = s.account.peerPoints ∧ (stepAgreement s).account.log = s.account.log ∧
    (stepAgreement s).book.noms = s.book.noms ∧ (stepAgreement s).book.orders = s.book.orders ∧
    (stepAgreement s).book.target = s.book.target ∧ (stepAgreement s).book.agree = s.book.agree ∧
    (stepAgreement s).book.n = s.book.n ∧ (stepAgreement s).book.a = s.book.a ∧
    (stepAgreement s).book.orderChanged = s.book.orderChanged ∧ (stepAgreement s).link.kept = s.link.kept ∧
    (stepAgreement s).link.owed = s.link.owed ∧ (stepAgreement s).link.setpoint = s.link.setpoint ∧
    (stepAgreement s).link.faults = s.link.faults ∧ (stepAgreement s).link.sending = s.link.sending ∧
    (stepAgreement s).link.holder = s.link.holder ∧ (stepAgreement s).link.staleTimer = s.link.staleTimer ∧
    (stepAgreement s).link.staleMark = s.link.staleMark := by
  refine ⟨?_, ?_, ?_, ?_, ?_, ?_, ?_, ?_, ?_, ?_, ?_, ?_, ?_, ?_, ?_, ?_, ?_, ?_, ?_, ?_, ?_, ?_, ?_, ?_, ?_, ?_, ?_, ?_,
    ?_, ?_, ?_, ?_, ?_⟩ <;>
    first | rfl | (simp [stepAgreement]; done) | (unfold stepAgreement; (try dsimp only); (repeat' split) <;> first | rfl | (simp; done))

@[simp] theorem bookExpiry_keeps (s : State) :
    (bookExpiry s).now = s.now ∧ (bookExpiry s).items = s.items ∧ (bookExpiry s).inForce = s.inForce ∧
    (bookExpiry s).bus = s.bus ∧ (bookExpiry s).view = s.view ∧ (bookExpiry s).clock = s.clock ∧
    (bookExpiry s).share = s.share ∧ (bookExpiry s).heat = s.heat ∧ (bookExpiry s).seq = s.seq ∧
    (bookExpiry s).bank = s.bank ∧ (bookExpiry s).permit = s.permit ∧ (bookExpiry s).free = s.free ∧
    (bookExpiry s).pending = s.pending ∧ (bookExpiry s).account.ownAcc = s.account.ownAcc ∧
    (bookExpiry s).account.plantAcc = s.account.plantAcc ∧ (bookExpiry s).account.ownPoint = s.account.ownPoint ∧
    (bookExpiry s).account.peerPoints = s.account.peerPoints ∧ (bookExpiry s).account.log = s.account.log ∧
    (bookExpiry s).book.noms = s.book.noms ∧ (bookExpiry s).book.orders = s.book.orders ∧
    (bookExpiry s).book.orderChanged = s.book.orderChanged ∧ (bookExpiry s).link.kept = s.link.kept ∧
    (bookExpiry s).link.owed = s.link.owed ∧ (bookExpiry s).link.setpoint = s.link.setpoint ∧
    (bookExpiry s).link.faults = s.link.faults ∧ (bookExpiry s).link.sending = s.link.sending ∧
    (bookExpiry s).link.holder = s.link.holder ∧ (bookExpiry s).link.staleTimer = s.link.staleTimer ∧
    (bookExpiry s).link.staleMark = s.link.staleMark := by
  refine ⟨?_, ?_, ?_, ?_, ?_, ?_, ?_, ?_, ?_, ?_, ?_, ?_, ?_, ?_, ?_, ?_, ?_, ?_, ?_, ?_, ?_, ?_, ?_, ?_, ?_, ?_, ?_, ?_, ?_⟩ <;>
    first | rfl | (simp [bookExpiry]; done)

@[simp] theorem bookAtSeal_keeps (s : State) :
    (bookAtSeal s).now = s.now ∧ (bookAtSeal s).items = s.items ∧ (bookAtSeal s).inForce = s.inForce ∧
    (bookAtSeal s).bus = s.bus ∧ (bookAtSeal s).view = s.view ∧ (bookAtSeal s).clock = s.clock ∧
    (bookAtSeal s).share = s.share ∧ (bookAtSeal s).heat = s.heat ∧ (bookAtSeal s).seq = s.seq ∧
    (bookAtSeal s).bank = s.bank ∧ (bookAtSeal s).permit = s.permit ∧ (bookAtSeal s).free = s.free ∧
    (bookAtSeal s).pending = s.pending ∧ (bookAtSeal s).account.ownAcc = s.account.ownAcc ∧
    (bookAtSeal s).account.plantAcc = s.account.plantAcc ∧ (bookAtSeal s).account.ownPoint = s.account.ownPoint ∧
    (bookAtSeal s).account.peerPoints = s.account.peerPoints ∧ (bookAtSeal s).account.log = s.account.log ∧
    (bookAtSeal s).book.noms = s.book.noms ∧ (bookAtSeal s).book.orders = s.book.orders ∧
    (bookAtSeal s).book.target = s.book.target ∧ (bookAtSeal s).book.settle = s.book.settle ∧
    (bookAtSeal s).book.orderChanged = s.book.orderChanged ∧ (bookAtSeal s).link.kept = s.link.kept ∧
    (bookAtSeal s).link.owed = s.link.owed ∧ (bookAtSeal s).link.setpoint = s.link.setpoint ∧
    (bookAtSeal s).link.faults = s.link.faults ∧ (bookAtSeal s).link.sending = s.link.sending ∧
    (bookAtSeal s).link.holder = s.link.holder ∧ (bookAtSeal s).link.staleTimer = s.link.staleTimer ∧
    (bookAtSeal s).link.staleMark = s.link.staleMark := by
  refine ⟨?_, ?_, ?_, ?_, ?_, ?_, ?_, ?_, ?_, ?_, ?_, ?_, ?_, ?_, ?_, ?_, ?_, ?_, ?_, ?_, ?_, ?_, ?_, ?_, ?_, ?_, ?_, ?_,
    ?_, ?_, ?_⟩ <;>
    first | rfl | (simp [bookAtSeal]; done) | (unfold bookAtSeal; (try dsimp only); (repeat' split) <;> first | rfl | (simp; done))

@[simp] theorem accountRecord_keeps (output : Nat) (s : State) :
    (accountRecord output s).now = s.now ∧ (accountRecord output s).items = s.items ∧
    (accountRecord output s).inForce = s.inForce ∧ (accountRecord output s).bus = s.bus ∧
    (accountRecord output s).view = s.view ∧ (accountRecord output s).clock = s.clock ∧
    (accountRecord output s).book = s.book ∧ (accountRecord output s).share = s.share ∧
    (accountRecord output s).heat = s.heat ∧ (accountRecord output s).seq = s.seq ∧
    (accountRecord output s).bank = s.bank ∧ (accountRecord output s).link = s.link ∧
    (accountRecord output s).permit = s.permit ∧ (accountRecord output s).free = s.free ∧
    (accountRecord output s).pending = s.pending ∧ (accountRecord output s).account.openRec = s.account.openRec ∧
    (accountRecord output s).account.peerPoints = s.account.peerPoints ∧
    (accountRecord output s).account.log = s.account.log := by
  refine ⟨?_, ?_, ?_, ?_, ?_, ?_, ?_, ?_, ?_, ?_, ?_, ?_, ?_, ?_, ?_, ?_, ?_, ?_⟩ <;>
    first | rfl | (simp [accountRecord]; done)

@[simp] theorem accountFrame_keeps (address : Nat) (kind : Kind) (output arrival : Nat) (s : State) :
    (accountFrame address kind output arrival s).now = s.now ∧
    (accountFrame address kind output arrival s).items = s.items ∧
    (accountFrame address kind output arrival s).inForce = s.inForce ∧
    (accountFrame address kind output arrival s).bus = s.bus ∧
    (accountFrame address kind output arrival s).view = s.view ∧
    (accountFrame address kind output arrival s).clock = s.clock ∧
    (accountFrame address kind output arrival s).book = s.book ∧
    (accountFrame address kind output arrival s).share = s.share ∧
    (accountFrame address kind output arrival s).heat = s.heat ∧
    (accountFrame address kind output arrival s).seq = s.seq ∧
    (accountFrame address kind output arrival s).bank = s.bank ∧
    (accountFrame address kind output arrival s).link = s.link ∧
    (accountFrame address kind output arrival s).permit = s.permit ∧
    (accountFrame address kind output arrival s).free = s.free ∧
    (accountFrame address kind output arrival s).pending = s.pending ∧
    (accountFrame address kind output arrival s).account.openRec = s.account.openRec ∧
    (accountFrame address kind output arrival s).account.ownAcc = s.account.ownAcc ∧
    (accountFrame address kind output arrival s).account.ownPoint = s.account.ownPoint ∧
    (accountFrame address kind output arrival s).account.log = s.account.log := by
  refine ⟨?_, ?_, ?_, ?_, ?_, ?_, ?_, ?_, ?_, ?_, ?_, ?_, ?_, ?_, ?_, ?_, ?_, ?_, ?_⟩ <;>
    first | rfl | (simp [accountFrame]; done) | (unfold accountFrame; (try dsimp only); (repeat' split) <;> first | rfl | (simp; done))

@[simp] theorem accountDrop_keeps (address upto : Nat) (s : State) :
    (accountDrop address upto s).now = s.now ∧ (accountDrop address upto s).items = s.items ∧
    (accountDrop address upto s).inForce = s.inForce ∧ (accountDrop address upto s).bus = s.bus ∧
    (accountDrop address upto s).view = s.view ∧ (accountDrop address upto s).clock = s.clock ∧
    (accountDrop address upto s).book = s.book ∧ (accountDrop address upto s).share = s.share ∧
    (accountDrop address upto s).heat = s.heat ∧ (accountDrop address upto s).seq = s.seq ∧
    (accountDrop address upto s).bank = s.bank ∧ (accountDrop address upto s).link = s.link ∧
    (accountDrop address upto s).permit = s.permit ∧ (accountDrop address upto s).free = s.free ∧
    (accountDrop address upto s).pending = s.pending ∧
    (accountDrop address upto s).account.openRec = s.account.openRec ∧
    (accountDrop address upto s).account.ownAcc = s.account.ownAcc ∧
    (accountDrop address upto s).account.ownPoint = s.account.ownPoint ∧
    (accountDrop address upto s).account.log = s.account.log := by
  refine ⟨?_, ?_, ?_, ?_, ?_, ?_, ?_, ?_, ?_, ?_, ?_, ?_, ?_, ?_, ?_, ?_, ?_, ?_, ?_⟩ <;>
    first | rfl | (simp [accountDrop]; done) | (unfold accountDrop; (try dsimp only); (repeat' split) <;> first | rfl | (simp; done))

@[simp] theorem accountLeave_keeps (s : State) :
    (accountLeave s).now = s.now ∧ (accountLeave s).items = s.items ∧ (accountLeave s).inForce = s.inForce ∧
    (accountLeave s).bus = s.bus ∧ (accountLeave s).view = s.view ∧ (accountLeave s).clock = s.clock ∧
    (accountLeave s).book = s.book ∧ (accountLeave s).share = s.share ∧ (accountLeave s).heat = s.heat ∧
    (accountLeave s).seq = s.seq ∧ (accountLeave s).bank = s.bank ∧ (accountLeave s).link = s.link ∧
    (accountLeave s).permit = s.permit ∧ (accountLeave s).free = s.free ∧ (accountLeave s).pending = s.pending ∧
    (accountLeave s).account.openRec = s.account.openRec ∧ (accountLeave s).account.log = s.account.log := by
  refine ⟨?_, ?_, ?_, ?_, ?_, ?_, ?_, ?_, ?_, ?_, ?_, ?_, ?_, ?_, ?_, ?_, ?_⟩ <;>
    first | rfl | (simp [accountLeave]; done)

@[simp] theorem noteTripped_keeps (s : State) :
    (noteTripped s).now = s.now ∧ (noteTripped s).items = s.items ∧ (noteTripped s).inForce = s.inForce ∧
    (noteTripped s).bus = s.bus ∧ (noteTripped s).view = s.view ∧ (noteTripped s).clock = s.clock ∧
    (noteTripped s).book = s.book ∧ (noteTripped s).share = s.share ∧ (noteTripped s).heat = s.heat ∧
    (noteTripped s).seq = s.seq ∧ (noteTripped s).bank = s.bank ∧ (noteTripped s).link = s.link ∧
    (noteTripped s).permit = s.permit ∧ (noteTripped s).free = s.free ∧ (noteTripped s).pending = s.pending ∧
    (noteTripped s).account.ownAcc = s.account.ownAcc ∧ (noteTripped s).account.plantAcc = s.account.plantAcc ∧
    (noteTripped s).account.ownPoint = s.account.ownPoint ∧
    (noteTripped s).account.peerPoints = s.account.peerPoints ∧ (noteTripped s).account.log = s.account.log := by
  refine ⟨?_, ?_, ?_, ?_, ?_, ?_, ?_, ?_, ?_, ?_, ?_, ?_, ?_, ?_, ?_, ?_, ?_, ?_, ?_, ?_⟩ <;>
    rfl

@[simp] theorem noteCut_keeps (reason : CutReason) (cut : CutReport) (s : State) :
    (noteCut reason cut s).now = s.now ∧ (noteCut reason cut s).items = s.items ∧
    (noteCut reason cut s).inForce = s.inForce ∧ (noteCut reason cut s).bus = s.bus ∧
    (noteCut reason cut s).view = s.view ∧ (noteCut reason cut s).clock = s.clock ∧
    (noteCut reason cut s).book = s.book ∧ (noteCut reason cut s).share = s.share ∧
    (noteCut reason cut s).heat = s.heat ∧ (noteCut reason cut s).seq = s.seq ∧
    (noteCut reason cut s).bank = s.bank ∧ (noteCut reason cut s).link = s.link ∧
    (noteCut reason cut s).permit = s.permit ∧ (noteCut reason cut s).free = s.free ∧
    (noteCut reason cut s).pending = s.pending ∧ (noteCut reason cut s).account.ownAcc = s.account.ownAcc ∧
    (noteCut reason cut s).account.plantAcc = s.account.plantAcc ∧
    (noteCut reason cut s).account.ownPoint = s.account.ownPoint ∧
    (noteCut reason cut s).account.peerPoints = s.account.peerPoints ∧
    (noteCut reason cut s).account.log = s.account.log := by
  refine ⟨?_, ?_, ?_, ?_, ?_, ?_, ?_, ?_, ?_, ?_, ?_, ?_, ?_, ?_, ?_, ?_, ?_, ?_, ?_, ?_⟩ <;>
    rfl

@[simp] theorem notePeriod_keeps (s : State) :
    (notePeriod s).now = s.now ∧ (notePeriod s).items = s.items ∧ (notePeriod s).inForce = s.inForce ∧
    (notePeriod s).bus = s.bus ∧ (notePeriod s).view = s.view ∧ (notePeriod s).clock = s.clock ∧
    (notePeriod s).book = s.book ∧ (notePeriod s).share = s.share ∧ (notePeriod s).heat = s.heat ∧
    (notePeriod s).seq = s.seq ∧ (notePeriod s).bank = s.bank ∧ (notePeriod s).link = s.link ∧
    (notePeriod s).permit = s.permit ∧ (notePeriod s).free = s.free ∧ (notePeriod s).pending = s.pending ∧
    (notePeriod s).account.ownAcc = s.account.ownAcc ∧ (notePeriod s).account.plantAcc = s.account.plantAcc ∧
    (notePeriod s).account.ownPoint = s.account.ownPoint ∧ (notePeriod s).account.peerPoints = s.account.peerPoints ∧
    (notePeriod s).account.log = s.account.log := by
  refine ⟨?_, ?_, ?_, ?_, ?_, ?_, ?_, ?_, ?_, ?_, ?_, ?_, ?_, ?_, ?_, ?_, ?_, ?_, ?_, ?_⟩ <;>
    rfl

@[simp] theorem accountOpen_keeps (i : Nat) (b : Bool) (s : State) :
    (accountOpen i b s).now = s.now ∧ (accountOpen i b s).items = s.items ∧ (accountOpen i b s).inForce = s.inForce ∧
    (accountOpen i b s).bus = s.bus ∧ (accountOpen i b s).view = s.view ∧ (accountOpen i b s).clock = s.clock ∧
    (accountOpen i b s).book = s.book ∧ (accountOpen i b s).share = s.share ∧ (accountOpen i b s).heat = s.heat ∧
    (accountOpen i b s).seq = s.seq ∧ (accountOpen i b s).bank = s.bank ∧ (accountOpen i b s).link = s.link ∧
    (accountOpen i b s).permit = s.permit ∧ (accountOpen i b s).free = s.free ∧
    (accountOpen i b s).pending = s.pending ∧ (accountOpen i b s).account.ownPoint = s.account.ownPoint ∧
    (accountOpen i b s).account.peerPoints = s.account.peerPoints ∧ (accountOpen i b s).account.log = s.account.log := by
  refine ⟨?_, ?_, ?_, ?_, ?_, ?_, ?_, ?_, ?_, ?_, ?_, ?_, ?_, ?_, ?_, ?_, ?_, ?_⟩ <;>
    rfl

@[simp] theorem accountClose_keeps (b : Bool) (s : State) :
    (accountClose b s).1.now = s.now ∧ (accountClose b s).1.items = s.items ∧
    (accountClose b s).1.inForce = s.inForce ∧ (accountClose b s).1.bus = s.bus ∧
    (accountClose b s).1.view = s.view ∧ (accountClose b s).1.clock = s.clock ∧ (accountClose b s).1.book = s.book ∧
    (accountClose b s).1.share = s.share ∧ (accountClose b s).1.heat = s.heat ∧ (accountClose b s).1.seq = s.seq ∧
    (accountClose b s).1.bank = s.bank ∧ (accountClose b s).1.link = s.link ∧
    (accountClose b s).1.permit = s.permit ∧ (accountClose b s).1.free = s.free ∧
    (accountClose b s).1.pending = s.pending := by
  refine ⟨?_, ?_, ?_, ?_, ?_, ?_, ?_, ?_, ?_, ?_, ?_, ?_, ?_, ?_, ?_⟩ <;>
    first | rfl | (simp [accountClose]; done) | (unfold accountClose; (try dsimp only); (repeat' split) <;> first | rfl | (simp; done))

@[simp] theorem bookChange_keeps (s : State) (i : Nat) :
    (bookChange s i).1.now = s.now ∧ (bookChange s i).1.items = s.items ∧ (bookChange s i).1.inForce = s.inForce ∧
    (bookChange s i).1.bus = s.bus ∧ (bookChange s i).1.view = s.view ∧ (bookChange s i).1.clock = s.clock ∧
    (bookChange s i).1.share = s.share ∧ (bookChange s i).1.heat = s.heat ∧ (bookChange s i).1.seq = s.seq ∧
    (bookChange s i).1.bank = s.bank ∧ (bookChange s i).1.account = s.account ∧ (bookChange s i).1.link = s.link ∧
    (bookChange s i).1.permit = s.permit ∧ (bookChange s i).1.free = s.free ∧ (bookChange s i).1.pending = s.pending := by
  refine ⟨?_, ?_, ?_, ?_, ?_, ?_, ?_, ?_, ?_, ?_, ?_, ?_, ?_, ?_, ?_⟩ <;>
    first | rfl | (unfold bookChange; dsimp only; split <;> simp)

@[simp] theorem accountAtSeal_keeps (s : State) :
    (accountAtSeal s).now = s.now ∧ (accountAtSeal s).items = s.items ∧ (accountAtSeal s).inForce = s.inForce ∧
    (accountAtSeal s).bus = s.bus ∧ (accountAtSeal s).view = s.view ∧ (accountAtSeal s).clock = s.clock ∧
    (accountAtSeal s).book = s.book ∧ (accountAtSeal s).share = s.share ∧ (accountAtSeal s).heat = s.heat ∧
    (accountAtSeal s).seq = s.seq ∧ (accountAtSeal s).bank = s.bank ∧ (accountAtSeal s).link = s.link ∧
    (accountAtSeal s).permit = s.permit ∧ (accountAtSeal s).free = s.free ∧ (accountAtSeal s).pending = s.pending ∧
    (accountAtSeal s).account.ownPoint = s.account.ownPoint ∧
    (accountAtSeal s).account.peerPoints = s.account.peerPoints ∧ (accountAtSeal s).account.log = s.account.log := by
  refine ⟨?_, ?_, ?_, ?_, ?_, ?_, ?_, ?_, ?_, ?_, ?_, ?_, ?_, ?_, ?_, ?_, ?_, ?_⟩ <;>
    first | rfl | (simp [accountAtSeal]; done) | (unfold accountAtSeal; (try dsimp only); (repeat' split) <;> first | rfl | (simp; done))

@[simp] theorem intervalChange_keeps (n : Nat) (b : Bool) (s : State) :
    (intervalChange n b s).now = s.now ∧ (intervalChange n b s).items = s.items ∧
    (intervalChange n b s).inForce = s.inForce ∧ (intervalChange n b s).bus = s.bus ∧
    (intervalChange n b s).view = s.view ∧ (intervalChange n b s).heat = s.heat ∧
    (intervalChange n b s).seq = s.seq ∧ (intervalChange n b s).bank = s.bank ∧
    (intervalChange n b s).permit = s.permit ∧ (intervalChange n b s).pending = s.pending ∧
    (intervalChange n b s).share.command = s.share.command ∧ (intervalChange n b s).share.timer = s.share.timer ∧
    (intervalChange n b s).share.wake = s.share.wake ∧ (intervalChange n b s).share.lastU = s.share.lastU ∧
    (intervalChange n b s).link.kept = s.link.kept ∧ (intervalChange n b s).link.owed = s.link.owed ∧
    (intervalChange n b s).link.setpoint = s.link.setpoint ∧ (intervalChange n b s).link.faults = s.link.faults ∧
    (intervalChange n b s).link.sending = s.link.sending ∧ (intervalChange n b s).link.holder = s.link.holder ∧
    (intervalChange n b s).link.staleTimer = s.link.staleTimer ∧
    (intervalChange n b s).link.staleMark = s.link.staleMark ∧
    (intervalChange n b s).clock.pending = s.clock.pending ∧
    (intervalChange n b s).clock.lastPulse = s.clock.lastPulse ∧
    (intervalChange n b s).clock.lastAdvance = s.clock.lastAdvance ∧ (intervalChange n b s).clock.free = s.clock.free := by
  refine ⟨?_, ?_, ?_, ?_, ?_, ?_, ?_, ?_, ?_, ?_, ?_, ?_, ?_, ?_, ?_, ?_, ?_, ?_, ?_, ?_, ?_, ?_, ?_, ?_, ?_, ?_⟩ <;>
    first | rfl | (simp [intervalChange]; done) | (unfold intervalChange; (try dsimp only); (repeat' split) <;> first | rfl | (simp; done))

@[simp] theorem classifyRecord_keeps (zones : List Nat) (s : State) :
    (classifyRecord zones s).now = s.now ∧ (classifyRecord zones s).items = s.items ∧
    (classifyRecord zones s).inForce = s.inForce ∧ (classifyRecord zones s).bus = s.bus ∧
    (classifyRecord zones s).view = s.view ∧ (classifyRecord zones s).clock = s.clock ∧
    (classifyRecord zones s).book = s.book ∧ (classifyRecord zones s).share = s.share ∧
    (classifyRecord zones s).seq = s.seq ∧ (classifyRecord zones s).bank = s.bank ∧
    (classifyRecord zones s).account = s.account ∧ (classifyRecord zones s).link = s.link ∧
    (classifyRecord zones s).permit = s.permit ∧ (classifyRecord zones s).free = s.free ∧
    (classifyRecord zones s).pending = s.pending ∧ (classifyRecord zones s).heat.pubCharge = s.heat.pubCharge ∧
    (classifyRecord zones s).heat.pubDischarge = s.heat.pubDischarge ∧
    (classifyRecord zones s).heat.heldCharge = s.heat.heldCharge ∧
    (classifyRecord zones s).heat.heldDischarge = s.heat.heldDischarge ∧
    (classifyRecord zones s).heat.cooled = s.heat.cooled := by
  refine ⟨?_, ?_, ?_, ?_, ?_, ?_, ?_, ?_, ?_, ?_, ?_, ?_, ?_, ?_, ?_, ?_, ?_, ?_, ?_, ?_⟩ <;>
    rfl

@[simp] theorem formPublished_keeps (s : State) :
    (formPublished s).now = s.now ∧ (formPublished s).items = s.items ∧ (formPublished s).inForce = s.inForce ∧
    (formPublished s).bus = s.bus ∧ (formPublished s).view = s.view ∧ (formPublished s).clock = s.clock ∧
    (formPublished s).book = s.book ∧ (formPublished s).share = s.share ∧ (formPublished s).seq = s.seq ∧
    (formPublished s).bank = s.bank ∧ (formPublished s).account = s.account ∧ (formPublished s).link = s.link ∧
    (formPublished s).permit = s.permit ∧ (formPublished s).free = s.free ∧ (formPublished s).pending = s.pending ∧
    (formPublished s).heat.zones = s.heat.zones ∧ (formPublished s).heat.hotZones = s.heat.hotZones ∧
    (formPublished s).heat.classCharge = s.heat.classCharge ∧
    (formPublished s).heat.classDischarge = s.heat.classDischarge ∧ (formPublished s).heat.outlet = s.heat.outlet ∧
    (formPublished s).heat.heldCharge = s.heat.heldCharge ∧
    (formPublished s).heat.heldDischarge = s.heat.heldDischarge ∧ (formPublished s).heat.cooled = s.heat.cooled := by
  refine ⟨?_, ?_, ?_, ?_, ?_, ?_, ?_, ?_, ?_, ?_, ?_, ?_, ?_, ?_, ?_, ?_, ?_, ?_, ?_, ?_, ?_, ?_, ?_⟩ <;>
    first | rfl | (simp [formPublished]; done) | (unfold formPublished; (try dsimp only); (repeat' split) <;> first | rfl | (simp; done))

@[simp] theorem holdPublished_keeps (s : State) :
    (holdPublished s).now = s.now ∧ (holdPublished s).items = s.items ∧ (holdPublished s).inForce = s.inForce ∧
    (holdPublished s).bus = s.bus ∧ (holdPublished s).view = s.view ∧ (holdPublished s).clock = s.clock ∧
    (holdPublished s).book = s.book ∧ (holdPublished s).share = s.share ∧ (holdPublished s).seq = s.seq ∧
    (holdPublished s).bank = s.bank ∧ (holdPublished s).account = s.account ∧ (holdPublished s).link = s.link ∧
    (holdPublished s).permit = s.permit ∧ (holdPublished s).free = s.free ∧ (holdPublished s).pending = s.pending ∧
    (holdPublished s).heat.zones = s.heat.zones ∧ (holdPublished s).heat.hotZones = s.heat.hotZones ∧
    (holdPublished s).heat.classCharge = s.heat.classCharge ∧
    (holdPublished s).heat.classDischarge = s.heat.classDischarge ∧
    (holdPublished s).heat.pubCharge = s.heat.pubCharge ∧ (holdPublished s).heat.pubDischarge = s.heat.pubDischarge ∧
    (holdPublished s).heat.outlet = s.heat.outlet ∧ (holdPublished s).heat.cooled = s.heat.cooled := by
  refine ⟨?_, ?_, ?_, ?_, ?_, ?_, ?_, ?_, ?_, ?_, ?_, ?_, ?_, ?_, ?_, ?_, ?_, ?_, ?_, ?_, ?_, ?_, ?_⟩ <;>
    rfl

end Sys2Proof.Machine
end

