-- ==== Sys2Proof/Laws/FramesSequence.lean ====
section
/-! SUPPORT. What the operations of the sequencer leave unchanged, field by field: AVAILABLE, the command, the changes of state. -/

namespace Sys2Proof.Machine

@[simp] theorem evalAvailable_keeps (s : State) :
    (evalAvailable s).now = s.now ∧ (evalAvailable s).items = s.items ∧ (evalAvailable s).inForce = s.inForce ∧
    (evalAvailable s).bus = s.bus ∧ (evalAvailable s).view = s.view ∧ (evalAvailable s).clock = s.clock ∧
    (evalAvailable s).book = s.book ∧ (evalAvailable s).share = s.share ∧ (evalAvailable s).heat = s.heat ∧
    (evalAvailable s).bank = s.bank ∧ (evalAvailable s).account = s.account ∧ (evalAvailable s).link = s.link ∧
    (evalAvailable s).permit = s.permit ∧ (evalAvailable s).free = s.free ∧ (evalAvailable s).pending = s.pending ∧
    (evalAvailable s).seq.state = s.seq.state ∧ (evalAvailable s).seq.joinTimer = s.seq.joinTimer ∧
    (evalAvailable s).seq.startTimer = s.seq.startTimer ∧ (evalAvailable s).seq.standbyTimer = s.seq.standbyTimer ∧
    (evalAvailable s).seq.tripHeld = s.seq.tripHeld ∧ (evalAvailable s).seq.leaveCount = s.seq.leaveCount ∧
    (evalAvailable s).seq.tripOut = s.seq.tripOut := by
  refine ⟨?_, ?_, ?_, ?_, ?_, ?_, ?_, ?_, ?_, ?_, ?_, ?_, ?_, ?_, ?_, ?_, ?_, ?_, ?_, ?_, ?_, ?_⟩ <;>
    rfl

@[simp] theorem readU_keeps (s : State) :
    (readU s).now = s.now ∧ (readU s).items = s.items ∧ (readU s).inForce = s.inForce ∧ (readU s).bus = s.bus ∧
    (readU s).view = s.view ∧ (readU s).clock = s.clock ∧ (readU s).book = s.book ∧ (readU s).heat = s.heat ∧
    (readU s).bank = s.bank ∧ (readU s).account = s.account ∧ (readU s).link = s.link ∧ (readU s).permit = s.permit ∧
    (readU s).free = s.free ∧ (readU s).pending = s.pending ∧ (readU s).share.command = s.share.command ∧
    (readU s).share.timer = s.share.timer ∧ (readU s).share.wake = s.share.wake ∧
    (readU s).share.lastLoaded = s.share.lastLoaded ∧ (readU s).seq.state = s.seq.state ∧
    (readU s).seq.joinTimer = s.seq.joinTimer ∧ (readU s).seq.startTimer = s.seq.startTimer ∧
    (readU s).seq.standbyTimer = s.seq.standbyTimer ∧ (readU s).seq.tripHeld = s.seq.tripHeld ∧
    (readU s).seq.leaveCount = s.seq.leaveCount ∧ (readU s).seq.tripOut = s.seq.tripOut := by
  refine ⟨?_, ?_, ?_, ?_, ?_, ?_, ?_, ?_, ?_, ?_, ?_, ?_, ?_, ?_, ?_, ?_, ?_, ?_, ?_, ?_, ?_, ?_, ?_, ?_, ?_⟩ <;>
    rfl

@[simp] theorem decideMode_keeps (s : State) :
    (decideMode s).now = s.now ∧ (decideMode s).items = s.items ∧ (decideMode s).inForce = s.inForce ∧
    (decideMode s).bus = s.bus ∧ (decideMode s).view = s.view ∧ (decideMode s).clock = s.clock ∧
    (decideMode s).book = s.book ∧ (decideMode s).share = s.share ∧ (decideMode s).seq = s.seq ∧
    (decideMode s).bank = s.bank ∧ (decideMode s).account = s.account ∧ (decideMode s).permit = s.permit ∧
    (decideMode s).free = s.free ∧ (decideMode s).pending = s.pending ∧ (decideMode s).heat.zones = s.heat.zones ∧
    (decideMode s).heat.hotZones = s.heat.hotZones ∧ (decideMode s).heat.classCharge = s.heat.classCharge ∧
    (decideMode s).heat.classDischarge = s.heat.classDischarge ∧ (decideMode s).heat.pubCharge = s.heat.pubCharge ∧
    (decideMode s).heat.pubDischarge = s.heat.pubDischarge ∧ (decideMode s).heat.outlet = s.heat.outlet ∧
    (decideMode s).heat.heldCharge = s.heat.heldCharge ∧ (decideMode s).heat.heldDischarge = s.heat.heldDischarge ∧
    (decideMode s).link.kept = s.link.kept ∧ (decideMode s).link.owed = s.link.owed ∧
    (decideMode s).link.setpoint = s.link.setpoint ∧ (decideMode s).link.faults = s.link.faults ∧
    (decideMode s).link.sending = s.link.sending ∧ (decideMode s).link.holder = s.link.holder ∧
    (decideMode s).link.staleTimer = s.link.staleTimer ∧ (decideMode s).link.staleMark = s.link.staleMark := by
  refine ⟨?_, ?_, ?_, ?_, ?_, ?_, ?_, ?_, ?_, ?_, ?_, ?_, ?_, ?_, ?_, ?_, ?_, ?_, ?_, ?_, ?_, ?_, ?_, ?_, ?_, ?_, ?_, ?_,
    ?_, ?_, ?_⟩ <;>
    first | rfl | (simp [decideMode]; done) | (unfold decideMode; (try dsimp only); (repeat' split) <;> first | rfl | (simp; done))

@[simp] theorem readUAtBuild_keeps (s : State) :
    (readUAtBuild s).now = s.now ∧ (readUAtBuild s).items = s.items ∧ (readUAtBuild s).inForce = s.inForce ∧
    (readUAtBuild s).bus = s.bus ∧ (readUAtBuild s).view = s.view ∧ (readUAtBuild s).clock = s.clock ∧
    (readUAtBuild s).book = s.book ∧ (readUAtBuild s).heat = s.heat ∧ (readUAtBuild s).bank = s.bank ∧
    (readUAtBuild s).account = s.account ∧ (readUAtBuild s).link = s.link ∧ (readUAtBuild s).permit = s.permit ∧
    (readUAtBuild s).free = s.free ∧ (readUAtBuild s).pending = s.pending ∧
    (readUAtBuild s).share.command = s.share.command ∧ (readUAtBuild s).share.timer = s.share.timer ∧
    (readUAtBuild s).share.wake = s.share.wake ∧ (readUAtBuild s).share.lastLoaded = s.share.lastLoaded ∧
    (readUAtBuild s).seq.state = s.seq.state ∧ (readUAtBuild s).seq.joinTimer = s.seq.joinTimer ∧
    (readUAtBuild s).seq.startTimer = s.seq.startTimer ∧ (readUAtBuild s).seq.standbyTimer = s.seq.standbyTimer ∧
    (readUAtBuild s).seq.tripHeld = s.seq.tripHeld ∧ (readUAtBuild s).seq.leaveCount = s.seq.leaveCount ∧
    (readUAtBuild s).seq.tripOut = s.seq.tripOut := by
  refine ⟨?_, ?_, ?_, ?_, ?_, ?_, ?_, ?_, ?_, ?_, ?_, ?_, ?_, ?_, ?_, ?_, ?_, ?_, ?_, ?_, ?_, ?_, ?_, ?_, ?_⟩ <;>
    first | rfl | (simp [readUAtBuild]; done) | (unfold readUAtBuild; (try dsimp only); (repeat' split) <;> first | rfl | (simp; done))

@[simp] theorem buildStatus_keeps (s : State) :
    (buildStatus s).now = s.now ∧ (buildStatus s).items = s.items ∧ (buildStatus s).inForce = s.inForce ∧
    (buildStatus s).view = s.view ∧ (buildStatus s).clock = s.clock ∧ (buildStatus s).book = s.book ∧
    (buildStatus s).heat = s.heat ∧ (buildStatus s).bank = s.bank ∧ (buildStatus s).account = s.account ∧
    (buildStatus s).link = s.link ∧ (buildStatus s).permit = s.permit ∧ (buildStatus s).free = s.free ∧
    (buildStatus s).pending = s.pending ∧ (buildStatus s).share.command = s.share.command ∧
    (buildStatus s).share.timer = s.share.timer ∧ (buildStatus s).share.wake = s.share.wake ∧
    (buildStatus s).share.lastLoaded = s.share.lastLoaded ∧ (buildStatus s).seq.state = s.seq.state ∧
    (buildStatus s).seq.joinTimer = s.seq.joinTimer ∧ (buildStatus s).seq.startTimer = s.seq.startTimer ∧
    (buildStatus s).seq.standbyTimer = s.seq.standbyTimer ∧ (buildStatus s).seq.tripHeld = s.seq.tripHeld ∧
    (buildStatus s).seq.leaveCount = s.seq.leaveCount ∧ (buildStatus s).seq.tripOut = s.seq.tripOut ∧
    (buildStatus s).bus.statusTimer = s.bus.statusTimer ∧ (buildStatus s).bus.pendingAlert = s.bus.pendingAlert ∧
    (buildStatus s).bus.onBus = s.bus.onBus ∧ (buildStatus s).bus.rx = s.bus.rx ∧
    (buildStatus s).bus.overrun = s.bus.overrun := by
  refine ⟨?_, ?_, ?_, ?_, ?_, ?_, ?_, ?_, ?_, ?_, ?_, ?_, ?_, ?_, ?_, ?_, ?_, ?_, ?_, ?_, ?_, ?_, ?_, ?_, ?_, ?_, ?_, ?_, ?_⟩ <;>
    first | rfl | (simp [buildStatus]; done)

@[simp] theorem askAlert_keeps (reason : AlertReason) (cut : CutReport) (s : State) :
    (askAlert reason cut s).now = s.now ∧ (askAlert reason cut s).items = s.items ∧
    (askAlert reason cut s).inForce = s.inForce ∧ (askAlert reason cut s).view = s.view ∧
    (askAlert reason cut s).clock = s.clock ∧ (askAlert reason cut s).book = s.book ∧
    (askAlert reason cut s).heat = s.heat ∧ (askAlert reason cut s).bank = s.bank ∧
    (askAlert reason cut s).account = s.account ∧ (askAlert reason cut s).link = s.link ∧
    (askAlert reason cut s).permit = s.permit ∧ (askAlert reason cut s).free = s.free ∧
    (askAlert reason cut s).pending = s.pending ∧ (askAlert reason cut s).share.command = s.share.command ∧
    (askAlert reason cut s).share.timer = s.share.timer ∧ (askAlert reason cut s).share.wake = s.share.wake ∧
    (askAlert reason cut s).share.lastLoaded = s.share.lastLoaded ∧ (askAlert reason cut s).seq.state = s.seq.state ∧
    (askAlert reason cut s).seq.joinTimer = s.seq.joinTimer ∧
    (askAlert reason cut s).seq.startTimer = s.seq.startTimer ∧
    (askAlert reason cut s).seq.standbyTimer = s.seq.standbyTimer ∧
    (askAlert reason cut s).seq.tripHeld = s.seq.tripHeld ∧
    (askAlert reason cut s).seq.leaveCount = s.seq.leaveCount ∧ (askAlert reason cut s).seq.tripOut = s.seq.tripOut ∧
    (askAlert reason cut s).bus.statusTimer = s.bus.statusTimer ∧ (askAlert reason cut s).bus.onBus = s.bus.onBus ∧
    (askAlert reason cut s).bus.rx = s.bus.rx ∧ (askAlert reason cut s).bus.overrun = s.bus.overrun := by
  refine ⟨?_, ?_, ?_, ?_, ?_, ?_, ?_, ?_, ?_, ?_, ?_, ?_, ?_, ?_, ?_, ?_, ?_, ?_, ?_, ?_, ?_, ?_, ?_, ?_, ?_, ?_, ?_, ?_⟩ <;>
    first | rfl | (simp [askAlert]; done) | (unfold askAlert; (try dsimp only); (repeat' split) <;> first | rfl | (simp; done))

@[simp] theorem standDown_keeps (s : State) :
    (standDown s).now = s.now ∧ (standDown s).items = s.items ∧ (standDown s).inForce = s.inForce ∧
    (standDown s).clock = s.clock ∧ (standDown s).account = s.account ∧ (standDown s).permit = s.permit ∧
    (standDown s).free = s.free ∧ (standDown s).pending = s.pending ∧
    (standDown s).share.lastLoaded = s.share.lastLoaded ∧ (standDown s).share.lastU = s.share.lastU ∧
    (standDown s).seq.state = s.seq.state ∧ (standDown s).bus.pendingAlert = s.bus.pendingAlert ∧
    (standDown s).bus.onBus = s.bus.onBus ∧ (standDown s).book.noms = s.book.noms ∧
    (standDown s).book.orders = s.book.orders ∧ (standDown s).book.target = s.book.target ∧
    (standDown s).book.n = s.book.n ∧ (standDown s).book.a = s.book.a ∧
    (standDown s).book.orderChanged = s.book.orderChanged ∧ (standDown s).heat.zones = s.heat.zones ∧
    (standDown s).heat.hotZones = s.heat.hotZones ∧ (standDown s).heat.classCharge = s.heat.classCharge ∧
    (standDown s).heat.classDischarge = s.heat.classDischarge ∧ (standDown s).heat.outlet = s.heat.outlet ∧
    (standDown s).heat.heldCharge = s.heat.heldCharge ∧ (standDown s).heat.heldDischarge = s.heat.heldDischarge ∧
    (standDown s).link.kept = s.link.kept ∧ (standDown s).link.owed = s.link.owed ∧
    (standDown s).link.setpoint = s.link.setpoint ∧ (standDown s).link.reports = s.link.reports ∧
    (standDown s).link.reportNo = s.link.reportNo ∧ (standDown s).link.discarded = s.link.discarded ∧
    (standDown s).link.faults = s.link.faults ∧ (standDown s).link.sending = s.link.sending := by
  refine ⟨?_, ?_, ?_, ?_, ?_, ?_, ?_, ?_, ?_, ?_, ?_, ?_, ?_, ?_, ?_, ?_, ?_, ?_, ?_, ?_, ?_, ?_, ?_, ?_, ?_, ?_, ?_, ?_,
    ?_, ?_, ?_, ?_, ?_, ?_⟩ <;>
    rfl

@[simp] theorem endLeave_keeps (s : State) :
    (endLeave s).now = s.now ∧ (endLeave s).items = s.items ∧ (endLeave s).inForce = s.inForce ∧
    (endLeave s).clock = s.clock ∧ (endLeave s).permit = s.permit ∧ (endLeave s).free = s.free ∧
    (endLeave s).pending = s.pending ∧ (endLeave s).share.lastLoaded = s.share.lastLoaded ∧
    (endLeave s).share.lastU = s.share.lastU ∧ (endLeave s).bus.onBus = s.bus.onBus ∧
    (endLeave s).account.log = s.account.log ∧ (endLeave s).book.noms = s.book.noms ∧
    (endLeave s).book.orders = s.book.orders ∧ (endLeave s).book.target = s.book.target ∧
    (endLeave s).book.n = s.book.n ∧ (endLeave s).book.a = s.book.a ∧
    (endLeave s).book.orderChanged = s.book.orderChanged ∧ (endLeave s).heat.zones = s.heat.zones ∧
    (endLeave s).heat.hotZones = s.heat.hotZones ∧ (endLeave s).heat.classCharge = s.heat.classCharge ∧
    (endLeave s).heat.classDischarge = s.heat.classDischarge ∧ (endLeave s).heat.outlet = s.heat.outlet ∧
    (endLeave s).heat.heldCharge = s.heat.heldCharge ∧ (endLeave s).heat.heldDischarge = s.heat.heldDischarge ∧
    (endLeave s).link.kept = s.link.kept ∧ (endLeave s).link.owed = s.link.owed ∧
    (endLeave s).link.setpoint = s.link.setpoint ∧ (endLeave s).link.faults = s.link.faults ∧
    (endLeave s).link.sending = s.link.sending := by
  refine ⟨?_, ?_, ?_, ?_, ?_, ?_, ?_, ?_, ?_, ?_, ?_, ?_, ?_, ?_, ?_, ?_, ?_, ?_, ?_, ?_, ?_, ?_, ?_, ?_, ?_, ?_, ?_, ?_, ?_⟩ <;>
    first | rfl | (simp [endLeave]; done)

@[simp] theorem standbyOnCommand_keeps (old new : Nat) (s : State) :
    (standbyOnCommand old new s).now = s.now ∧ (standbyOnCommand old new s).items = s.items ∧
    (standbyOnCommand old new s).inForce = s.inForce ∧ (standbyOnCommand old new s).bus = s.bus ∧
    (standbyOnCommand old new s).view = s.view ∧ (standbyOnCommand old new s).clock = s.clock ∧
    (standbyOnCommand old new s).book = s.book ∧ (standbyOnCommand old new s).share = s.share ∧
    (standbyOnCommand old new s).heat = s.heat ∧ (standbyOnCommand old new s).bank = s.bank ∧
    (standbyOnCommand old new s).account = s.account ∧ (standbyOnCommand old new s).link = s.link ∧
    (standbyOnCommand old new s).permit = s.permit ∧ (standbyOnCommand old new s).free = s.free ∧
    (standbyOnCommand old new s).pending = s.pending ∧ (standbyOnCommand old new s).seq.state = s.seq.state ∧
    (standbyOnCommand old new s).seq.available = s.seq.available ∧
    (standbyOnCommand old new s).seq.joinTimer = s.seq.joinTimer ∧
    (standbyOnCommand old new s).seq.startTimer = s.seq.startTimer ∧
    (standbyOnCommand old new s).seq.tripHeld = s.seq.tripHeld ∧
    (standbyOnCommand old new s).seq.leaveCount = s.seq.leaveCount ∧
    (standbyOnCommand old new s).seq.tripOut = s.seq.tripOut := by
  refine ⟨?_, ?_, ?_, ?_, ?_, ?_, ?_, ?_, ?_, ?_, ?_, ?_, ?_, ?_, ?_, ?_, ?_, ?_, ?_, ?_, ?_, ?_⟩ <;>
    first | rfl | (simp [standbyOnCommand]; done) | (unfold standbyOnCommand; (try dsimp only); (repeat' split) <;> first | rfl | (simp; done))

@[simp] theorem setCommand_keeps (c : Nat) (s : State) :
    (setCommand c s).now = s.now ∧ (setCommand c s).items = s.items ∧ (setCommand c s).inForce = s.inForce ∧
    (setCommand c s).clock = s.clock ∧ (setCommand c s).permit = s.permit ∧ (setCommand c s).free = s.free ∧
    (setCommand c s).pending = s.pending ∧ (setCommand c s).share.lastU = s.share.lastU ∧
    (setCommand c s).bus.onBus = s.bus.onBus ∧ (setCommand c s).account.log = s.account.log ∧
    (setCommand c s).book.noms = s.book.noms ∧ (setCommand c s).book.orders = s.book.orders ∧
    (setCommand c s).book.target = s.book.target ∧ (setCommand c s).book.n = s.book.n ∧
    (setCommand c s).book.a = s.book.a ∧ (setCommand c s).book.orderChanged = s.book.orderChanged ∧
    (setCommand c s).heat.zones = s.heat.zones ∧ (setCommand c s).heat.hotZones = s.heat.hotZones ∧
    (setCommand c s).heat.classCharge = s.heat.classCharge ∧
    (setCommand c s).heat.classDischarge = s.heat.classDischarge ∧ (setCommand c s).heat.outlet = s.heat.outlet ∧
    (setCommand c s).heat.heldCharge = s.heat.heldCharge ∧
    (setCommand c s).heat.heldDischarge = s.heat.heldDischarge ∧ (setCommand c s).link.kept = s.link.kept ∧
    (setCommand c s).link.owed = s.link.owed ∧ (setCommand c s).link.setpoint = s.link.setpoint ∧
    (setCommand c s).link.faults = s.link.faults ∧ (setCommand c s).link.sending = s.link.sending := by
  refine ⟨?_, ?_, ?_, ?_, ?_, ?_, ?_, ?_, ?_, ?_, ?_, ?_, ?_, ?_, ?_, ?_, ?_, ?_, ?_, ?_, ?_, ?_, ?_, ?_, ?_, ?_, ?_, ?_⟩ <;>
    first | rfl | (simp [setCommand]; done) | (unfold setCommand; (try dsimp only); (repeat' split) <;> first | rfl | (simp; done))

@[simp] theorem readUpper_keeps (s : State) :
    (readUpper s).now = s.now ∧ (readUpper s).items = s.items ∧ (readUpper s).inForce = s.inForce ∧
    (readUpper s).clock = s.clock ∧ (readUpper s).permit = s.permit ∧ (readUpper s).free = s.free ∧
    (readUpper s).pending = s.pending ∧ (readUpper s).bus.onBus = s.bus.onBus ∧
    (readUpper s).account.log = s.account.log ∧ (readUpper s).book.noms = s.book.noms ∧
    (readUpper s).book.orders = s.book.orders ∧ (readUpper s).book.target = s.book.target ∧
    (readUpper s).book.n = s.book.n ∧ (readUpper s).book.a = s.book.a ∧
    (readUpper s).book.orderChanged = s.book.orderChanged ∧ (readUpper s).heat.zones = s.heat.zones ∧
    (readUpper s).heat.hotZones = s.heat.hotZones ∧ (readUpper s).heat.classCharge = s.heat.classCharge ∧
    (readUpper s).heat.classDischarge = s.heat.classDischarge ∧ (readUpper s).heat.outlet = s.heat.outlet ∧
    (readUpper s).heat.heldCharge = s.heat.heldCharge ∧ (readUpper s).heat.heldDischarge = s.heat.heldDischarge ∧
    (readUpper s).link.kept = s.link.kept ∧ (readUpper s).link.owed = s.link.owed ∧
    (readUpper s).link.faults = s.link.faults ∧ (readUpper s).link.sending = s.link.sending := by
  refine ⟨?_, ?_, ?_, ?_, ?_, ?_, ?_, ?_, ?_, ?_, ?_, ?_, ?_, ?_, ?_, ?_, ?_, ?_, ?_, ?_, ?_, ?_, ?_, ?_, ?_, ?_⟩ <;>
    first | rfl | (simp [readUpper]; done) | (unfold readUpper; (try dsimp only); (repeat' split) <;> first | rfl | (simp; done))

@[simp] theorem readIfCapChanged_keeps (cap : Nat) (s : State) :
    (readIfCapChanged cap s).now = s.now ∧ (readIfCapChanged cap s).items = s.items ∧
    (readIfCapChanged cap s).inForce = s.inForce ∧ (readIfCapChanged cap s).clock = s.clock ∧
    (readIfCapChanged cap s).permit = s.permit ∧ (readIfCapChanged cap s).free = s.free ∧
    (readIfCapChanged cap s).pending = s.pending ∧ (readIfCapChanged cap s).bus.onBus = s.bus.onBus ∧
    (readIfCapChanged cap s).account.log = s.account.log ∧ (readIfCapChanged cap s).book.noms = s.book.noms ∧
    (readIfCapChanged cap s).book.orders = s.book.orders ∧ (readIfCapChanged cap s).book.target = s.book.target ∧
    (readIfCapChanged cap s).book.n = s.book.n ∧ (readIfCapChanged cap s).book.a = s.book.a ∧
    (readIfCapChanged cap s).book.orderChanged = s.book.orderChanged ∧
    (readIfCapChanged cap s).heat.zones = s.heat.zones ∧ (readIfCapChanged cap s).heat.hotZones = s.heat.hotZones ∧
    (readIfCapChanged cap s).heat.classCharge = s.heat.classCharge ∧
    (readIfCapChanged cap s).heat.classDischarge = s.heat.classDischarge ∧
    (readIfCapChanged cap s).heat.outlet = s.heat.outlet ∧
    (readIfCapChanged cap s).heat.heldCharge = s.heat.heldCharge ∧
    (readIfCapChanged cap s).heat.heldDischarge = s.heat.heldDischarge ∧
    (readIfCapChanged cap s).link.kept = s.link.kept ∧ (readIfCapChanged cap s).link.owed = s.link.owed ∧
    (readIfCapChanged cap s).link.faults = s.link.faults ∧ (readIfCapChanged cap s).link.sending = s.link.sending := by
  refine ⟨?_, ?_, ?_, ?_, ?_, ?_, ?_, ?_, ?_, ?_, ?_, ?_, ?_, ?_, ?_, ?_, ?_, ?_, ?_, ?_, ?_, ?_, ?_, ?_, ?_, ?_⟩ <;>
    first | rfl | (simp [readIfCapChanged]; done) | (unfold readIfCapChanged; (try dsimp only); (repeat' split) <;> first | rfl | (simp; done))

@[simp] theorem releaseCap_keeps (b : Bool) (s : State) :
    (releaseCap b s).now = s.now ∧ (releaseCap b s).items = s.items ∧ (releaseCap b s).inForce = s.inForce ∧
    (releaseCap b s).bus = s.bus ∧ (releaseCap b s).view = s.view ∧ (releaseCap b s).clock = s.clock ∧
    (releaseCap b s).book = s.book ∧ (releaseCap b s).share = s.share ∧ (releaseCap b s).heat = s.heat ∧
    (releaseCap b s).seq = s.seq ∧ (releaseCap b s).account = s.account ∧ (releaseCap b s).link = s.link ∧
    (releaseCap b s).permit = s.permit ∧ (releaseCap b s).free = s.free ∧ (releaseCap b s).pending = s.pending ∧
    (releaseCap b s).bank.native = s.bank.native ∧ (releaseCap b s).bank.thermal = s.bank.thermal ∧
    (releaseCap b s).bank.margin = s.bank.margin ∧ (releaseCap b s).bank.stale = s.bank.stale ∧
    (releaseCap b s).bank.zoneHigh = s.bank.zoneHigh ∧ (releaseCap b s).bank.blankThermal = s.bank.blankThermal ∧
    (releaseCap b s).bank.blankMargin = s.bank.blankMargin := by
  refine ⟨?_, ?_, ?_, ?_, ?_, ?_, ?_, ?_, ?_, ?_, ?_, ?_, ?_, ?_, ?_, ?_, ?_, ?_, ?_, ?_, ?_, ?_⟩ <;>
    first | rfl | (simp [releaseCap]; done) | (unfold releaseCap; (try dsimp only); (repeat' split) <;> first | rfl | (simp; done))

@[simp] theorem unloadBank_keeps (s : State) :
    (unloadBank s).now = s.now ∧ (unloadBank s).items = s.items ∧ (unloadBank s).inForce = s.inForce ∧
    (unloadBank s).bus = s.bus ∧ (unloadBank s).view = s.view ∧ (unloadBank s).clock = s.clock ∧
    (unloadBank s).book = s.book ∧ (unloadBank s).share = s.share ∧ (unloadBank s).heat = s.heat ∧
    (unloadBank s).seq = s.seq ∧ (unloadBank s).account = s.account ∧ (unloadBank s).link = s.link ∧
    (unloadBank s).permit = s.permit ∧ (unloadBank s).free = s.free ∧ (unloadBank s).pending = s.pending ∧
    (unloadBank s).bank.native = s.bank.native ∧ (unloadBank s).bank.stale = s.bank.stale ∧
    (unloadBank s).bank.zoneHigh = s.bank.zoneHigh := by
  refine ⟨?_, ?_, ?_, ?_, ?_, ?_, ?_, ?_, ?_, ?_, ?_, ?_, ?_, ?_, ?_, ?_, ?_, ?_⟩ <;>
    first | rfl | (simp [unloadBank]; done)

@[simp] theorem unloadIfLoaded_keeps (left : StationState) (s : State) :
    (unloadIfLoaded left s).now = s.now ∧ (unloadIfLoaded left s).items = s.items ∧
    (unloadIfLoaded left s).inForce = s.inForce ∧ (unloadIfLoaded left s).bus = s.bus ∧
    (unloadIfLoaded left s).view = s.view ∧ (unloadIfLoaded left s).clock = s.clock ∧
    (unloadIfLoaded left s).book = s.book ∧ (unloadIfLoaded left s).share = s.share ∧
    (unloadIfLoaded left s).heat = s.heat ∧ (unloadIfLoaded left s).seq = s.seq ∧
    (unloadIfLoaded left s).account = s.account ∧ (unloadIfLoaded left s).link = s.link ∧
    (unloadIfLoaded left s).permit = s.permit ∧ (unloadIfLoaded left s).free = s.free ∧
    (unloadIfLoaded left s).pending = s.pending ∧ (unloadIfLoaded left s).bank.native = s.bank.native ∧
    (unloadIfLoaded left s).bank.stale = s.bank.stale ∧ (unloadIfLoaded left s).bank.zoneHigh = s.bank.zoneHigh := by
  refine ⟨?_, ?_, ?_, ?_, ?_, ?_, ?_, ?_, ?_, ?_, ?_, ?_, ?_, ?_, ?_, ?_, ?_, ?_⟩ <;>
    first | rfl | (simp [unloadIfLoaded]; done) | (unfold unloadIfLoaded; (try dsimp only); (repeat' split) <;> first | rfl | (simp; done))

@[simp] theorem stopSequence_keeps (s : State) :
    (stopSequence s).now = s.now ∧ (stopSequence s).items = s.items ∧ (stopSequence s).inForce = s.inForce ∧
    (stopSequence s).bus = s.bus ∧ (stopSequence s).view = s.view ∧ (stopSequence s).clock = s.clock ∧
    (stopSequence s).book = s.book ∧ (stopSequence s).share = s.share ∧ (stopSequence s).heat = s.heat ∧
    (stopSequence s).bank = s.bank ∧ (stopSequence s).account = s.account ∧ (stopSequence s).link = s.link ∧
    (stopSequence s).permit = s.permit ∧ (stopSequence s).free = s.free ∧ (stopSequence s).pending = s.pending ∧
    (stopSequence s).seq.state = s.seq.state ∧ (stopSequence s).seq.available = s.seq.available := by
  refine ⟨?_, ?_, ?_, ?_, ?_, ?_, ?_, ?_, ?_, ?_, ?_, ?_, ?_, ?_, ?_, ?_, ?_⟩ <;>
    rfl

@[simp] theorem dropCommand_keeps (s : State) :
    (dropCommand s).now = s.now ∧ (dropCommand s).items = s.items ∧ (dropCommand s).inForce = s.inForce ∧
    (dropCommand s).bus = s.bus ∧ (dropCommand s).view = s.view ∧ (dropCommand s).clock = s.clock ∧
    (dropCommand s).book = s.book ∧ (dropCommand s).heat = s.heat ∧ (dropCommand s).seq = s.seq ∧
    (dropCommand s).bank = s.bank ∧ (dropCommand s).account = s.account ∧ (dropCommand s).link = s.link ∧
    (dropCommand s).permit = s.permit ∧ (dropCommand s).free = s.free ∧ (dropCommand s).pending = s.pending ∧
    (dropCommand s).share.timer = s.share.timer ∧ (dropCommand s).share.lastLoaded = s.share.lastLoaded ∧
    (dropCommand s).share.lastU = s.share.lastU := by
  refine ⟨?_, ?_, ?_, ?_, ?_, ?_, ?_, ?_, ?_, ?_, ?_, ?_, ?_, ?_, ?_, ?_, ?_, ?_⟩ <;>
    rfl

@[simp] theorem setpointIfFell_keeps (old : Nat) (s : State) :
    (setpointIfFell old s).now = s.now ∧ (setpointIfFell old s).items = s.items ∧
    (setpointIfFell old s).inForce = s.inForce ∧ (setpointIfFell old s).bus = s.bus ∧
    (setpointIfFell old s).view = s.view ∧ (setpointIfFell old s).clock = s.clock ∧
    (setpointIfFell old s).book = s.book ∧ (setpointIfFell old s).share = s.share ∧
    (setpointIfFell old s).heat = s.heat ∧ (setpointIfFell old s).seq = s.seq ∧
    (setpointIfFell old s).bank = s.bank ∧ (setpointIfFell old s).account = s.account ∧
    (setpointIfFell old s).permit = s.permit ∧ (setpointIfFell old s).free = s.free ∧
    (setpointIfFell old s).pending = s.pending ∧ (setpointIfFell old s).link.kept = s.link.kept ∧
    (setpointIfFell old s).link.owed = s.link.owed ∧ (setpointIfFell old s).link.reports = s.link.reports ∧
    (setpointIfFell old s).link.reportNo = s.link.reportNo ∧
    (setpointIfFell old s).link.discarded = s.link.discarded ∧ (setpointIfFell old s).link.faults = s.link.faults ∧
    (setpointIfFell old s).link.sending = s.link.sending ∧ (setpointIfFell old s).link.holder = s.link.holder ∧
    (setpointIfFell old s).link.staleTimer = s.link.staleTimer ∧
    (setpointIfFell old s).link.staleMark = s.link.staleMark := by
  refine ⟨?_, ?_, ?_, ?_, ?_, ?_, ?_, ?_, ?_, ?_, ?_, ?_, ?_, ?_, ?_, ?_, ?_, ?_, ?_, ?_, ?_, ?_, ?_, ?_, ?_⟩ <;>
    first | rfl | (simp [setpointIfFell]; done) | (unfold setpointIfFell; (try dsimp only); (repeat' split) <;> first | rfl | (simp; done))

@[simp] theorem enterStandby_keeps (cause : Cause) (s : State) :
    (enterStandby cause s).now = s.now ∧ (enterStandby cause s).items = s.items ∧
    (enterStandby cause s).inForce = s.inForce ∧ (enterStandby cause s).clock = s.clock ∧
    (enterStandby cause s).permit = s.permit ∧ (enterStandby cause s).free = s.free ∧
    (enterStandby cause s).pending = s.pending ∧ (enterStandby cause s).bus.onBus = s.bus.onBus ∧
    (enterStandby cause s).account.log = s.account.log ∧ (enterStandby cause s).book.noms = s.book.noms ∧
    (enterStandby cause s).book.orders = s.book.orders ∧ (enterStandby cause s).book.target = s.book.target ∧
    (enterStandby cause s).book.n = s.book.n ∧ (enterStandby cause s).book.a = s.book.a ∧
    (enterStandby cause s).book.orderChanged = s.book.orderChanged ∧
    (enterStandby cause s).heat.zones = s.heat.zones ∧ (enterStandby cause s).heat.hotZones = s.heat.hotZones ∧
    (enterStandby cause s).heat.classCharge = s.heat.classCharge ∧
    (enterStandby cause s).heat.classDischarge = s.heat.classDischarge ∧
    (enterStandby cause s).heat.outlet = s.heat.outlet ∧ (enterStandby cause s).heat.heldCharge = s.heat.heldCharge ∧
    (enterStandby cause s).heat.heldDischarge = s.heat.heldDischarge ∧
    (enterStandby cause s).link.kept = s.link.kept ∧ (enterStandby cause s).link.owed = s.link.owed ∧
    (enterStandby cause s).link.faults = s.link.faults ∧ (enterStandby cause s).link.sending = s.link.sending := by
  refine ⟨?_, ?_, ?_, ?_, ?_, ?_, ?_, ?_, ?_, ?_, ?_, ?_, ?_, ?_, ?_, ?_, ?_, ?_, ?_, ?_, ?_, ?_, ?_, ?_, ?_, ?_⟩ <;>
    first | rfl | (simp [enterStandby]; done)

@[simp] theorem enterActive_keeps (cause : Cause) (s : State) :
    (enterActive cause s).now = s.now ∧ (enterActive cause s).items = s.items ∧
    (enterActive cause s).inForce = s.inForce ∧ (enterActive cause s).bus = s.bus ∧
    (enterActive cause s).view = s.view ∧ (enterActive cause s).clock = s.clock ∧
    (enterActive cause s).book = s.book ∧ (enterActive cause s).share = s.share ∧
    (enterActive cause s).bank = s.bank ∧ (enterActive cause s).account = s.account ∧
    (enterActive cause s).permit = s.permit ∧ (enterActive cause s).free = s.free ∧
    (enterActive cause s).pending = s.pending ∧ (enterActive cause s).heat.zones = s.heat.zones ∧
    (enterActive cause s).heat.hotZones = s.heat.hotZones ∧
    (enterActive cause s).heat.classCharge = s.heat.classCharge ∧
    (enterActive cause s).heat.classDischarge = s.heat.classDischarge ∧
    (enterActive cause s).heat.outlet = s.heat.outlet ∧ (enterActive cause s).heat.heldCharge = s.heat.heldCharge ∧
    (enterActive cause s).heat.heldDischarge = s.heat.heldDischarge ∧
    (enterActive cause s).heat.cooled = s.heat.cooled ∧ (enterActive cause s).link.kept = s.link.kept ∧
    (enterActive cause s).link.owed = s.link.owed ∧ (enterActive cause s).link.setpoint = s.link.setpoint ∧
    (enterActive cause s).link.faults = s.link.faults ∧ (enterActive cause s).link.sending = s.link.sending ∧
    (enterActive cause s).link.holder = s.link.holder ∧ (enterActive cause s).link.staleTimer = s.link.staleTimer ∧
    (enterActive cause s).link.staleMark = s.link.staleMark := by
  refine ⟨?_, ?_, ?_, ?_, ?_, ?_, ?_, ?_, ?_, ?_, ?_, ?_, ?_, ?_, ?_, ?_, ?_, ?_, ?_, ?_, ?_, ?_, ?_, ?_, ?_, ?_, ?_, ?_, ?_⟩ <;>
    first | rfl | (simp [enterActive]; done)

@[simp] theorem trip_keeps (ms : List Monitor) (s : State) :
    (trip ms s).now = s.now ∧ (trip ms s).items = s.items ∧ (trip ms s).inForce = s.inForce ∧
    (trip ms s).view = s.view ∧ (trip ms s).clock = s.clock ∧ (trip ms s).book = s.book ∧
    (trip ms s).permit = s.permit ∧ (trip ms s).free = s.free ∧ (trip ms s).pending = s.pending ∧
    (trip ms s).share.timer = s.share.timer ∧ (trip ms s).share.lastLoaded = s.share.lastLoaded ∧
    (trip ms s).bus.statusTimer = s.bus.statusTimer ∧ (trip ms s).bus.onBus = s.bus.onBus ∧
    (trip ms s).bus.rx = s.bus.rx ∧ (trip ms s).bus.overrun = s.bus.overrun ∧
    (trip ms s).bank.native = s.bank.native ∧ (trip ms s).bank.stale = s.bank.stale ∧
    (trip ms s).bank.zoneHigh = s.bank.zoneHigh ∧ (trip ms s).account.ownAcc = s.account.ownAcc ∧
    (trip ms s).account.plantAcc = s.account.plantAcc ∧ (trip ms s).account.ownPoint = s.account.ownPoint ∧
    (trip ms s).account.peerPoints = s.account.peerPoints ∧ (trip ms s).account.log = s.account.log ∧
    (trip ms s).heat.zones = s.heat.zones ∧ (trip ms s).heat.hotZones = s.heat.hotZones ∧
    (trip ms s).heat.classCharge = s.heat.classCharge ∧ (trip ms s).heat.classDischarge = s.heat.classDischarge ∧
    (trip ms s).heat.outlet = s.heat.outlet ∧ (trip ms s).heat.heldCharge = s.heat.heldCharge ∧
    (trip ms s).heat.heldDischarge = s.heat.heldDischarge ∧ (trip ms s).heat.cooled = s.heat.cooled ∧
    (trip ms s).link.kept = s.link.kept ∧ (trip ms s).link.owed = s.link.owed ∧
    (trip ms s).link.faults = s.link.faults ∧ (trip ms s).link.sending = s.link.sending ∧
    (trip ms s).link.holder = s.link.holder ∧ (trip ms s).link.staleTimer = s.link.staleTimer ∧
    (trip ms s).link.staleMark = s.link.staleMark := by
  refine ⟨?_, ?_, ?_, ?_, ?_, ?_, ?_, ?_, ?_, ?_, ?_, ?_, ?_, ?_, ?_, ?_, ?_, ?_, ?_, ?_, ?_, ?_, ?_, ?_, ?_, ?_, ?_, ?_,
    ?_, ?_, ?_, ?_, ?_, ?_, ?_, ?_, ?_, ?_⟩ <;>
    first | rfl | (simp [trip]; done)

@[simp] theorem handleLatches_keeps (ms : List Monitor) (s : State) :
    (handleLatches ms s).now = s.now ∧ (handleLatches ms s).items = s.items ∧
    (handleLatches ms s).inForce = s.inForce ∧ (handleLatches ms s).view = s.view ∧
    (handleLatches ms s).clock = s.clock ∧ (handleLatches ms s).book = s.book ∧
    (handleLatches ms s).permit = s.permit ∧ (handleLatches ms s).free = s.free ∧
    (handleLatches ms s).pending = s.pending ∧ (handleLatches ms s).share.timer = s.share.timer ∧
    (handleLatches ms s).share.lastLoaded = s.share.lastLoaded ∧
    (handleLatches ms s).bus.statusTimer = s.bus.statusTimer ∧ (handleLatches ms s).bus.onBus = s.bus.onBus ∧
    (handleLatches ms s).bus.rx = s.bus.rx ∧ (handleLatches ms s).bus.overrun = s.bus.overrun ∧
    (handleLatches ms s).bank.native = s.bank.native ∧ (handleLatches ms s).bank.stale = s.bank.stale ∧
    (handleLatches ms s).bank.zoneHigh = s.bank.zoneHigh ∧ (handleLatches ms s).account.ownAcc = s.account.ownAcc ∧
    (handleLatches ms s).account.plantAcc = s.account.plantAcc ∧
    (handleLatches ms s).account.ownPoint = s.account.ownPoint ∧
    (handleLatches ms s).account.peerPoints = s.account.peerPoints ∧
    (handleLatches ms s).account.log = s.account.log ∧ (handleLatches ms s).heat.zones = s.heat.zones ∧
    (handleLatches ms s).heat.hotZones = s.heat.hotZones ∧
    (handleLatches ms s).heat.classCharge = s.heat.classCharge ∧
    (handleLatches ms s).heat.classDischarge = s.heat.classDischarge ∧
    (handleLatches ms s).heat.outlet = s.heat.outlet ∧ (handleLatches ms s).heat.heldCharge = s.heat.heldCharge ∧
    (handleLatches ms s).heat.heldDischarge = s.heat.heldDischarge ∧
    (handleLatches ms s).heat.cooled = s.heat.cooled ∧ (handleLatches ms s).link.kept = s.link.kept ∧
    (handleLatches ms s).link.owed = s.link.owed ∧ (handleLatches ms s).link.faults = s.link.faults ∧
    (handleLatches ms s).link.sending = s.link.sending ∧ (handleLatches ms s).link.holder = s.link.holder ∧
    (handleLatches ms s).link.staleTimer = s.link.staleTimer ∧ (handleLatches ms s).link.staleMark = s.link.staleMark := by
  refine ⟨?_, ?_, ?_, ?_, ?_, ?_, ?_, ?_, ?_, ?_, ?_, ?_, ?_, ?_, ?_, ?_, ?_, ?_, ?_, ?_, ?_, ?_, ?_, ?_, ?_, ?_, ?_, ?_,
    ?_, ?_, ?_, ?_, ?_, ?_, ?_, ?_, ?_, ?_⟩ <;>
    first | rfl | (simp [handleLatches]; done) | (unfold handleLatches; (try dsimp only); (repeat' split) <;> first | rfl | (simp; done))

@[simp] theorem addressConflict_keeps (s : State) :
    (addressConflict s).now = s.now ∧ (addressConflict s).items = s.items ∧ (addressConflict s).inForce = s.inForce ∧
    (addressConflict s).clock = s.clock ∧ (addressConflict s).permit = s.permit ∧ (addressConflict s).free = s.free ∧
    (addressConflict s).pending = s.pending ∧ (addressConflict s).bus.onBus = s.bus.onBus ∧
    (addressConflict s).account.log = s.account.log ∧ (addressConflict s).book.noms = s.book.noms ∧
    (addressConflict s).book.orders = s.book.orders ∧ (addressConflict s).book.target = s.book.target ∧
    (addressConflict s).book.n = s.book.n ∧ (addressConflict s).book.a = s.book.a ∧
    (addressConflict s).book.orderChanged = s.book.orderChanged ∧ (addressConflict s).heat.zones = s.heat.zones ∧
    (addressConflict s).heat.hotZones = s.heat.hotZones ∧ (addressConflict s).heat.classCharge = s.heat.classCharge ∧
    (addressConflict s).heat.classDischarge = s.heat.classDischarge ∧
    (addressConflict s).heat.outlet = s.heat.outlet ∧ (addressConflict s).heat.heldCharge = s.heat.heldCharge ∧
    (addressConflict s).heat.heldDischarge = s.heat.heldDischarge ∧ (addressConflict s).link.kept = s.link.kept ∧
    (addressConflict s).link.owed = s.link.owed ∧ (addressConflict s).link.faults = s.link.faults ∧
    (addressConflict s).link.sending = s.link.sending := by
  refine ⟨?_, ?_, ?_, ?_, ?_, ?_, ?_, ?_, ?_, ?_, ?_, ?_, ?_, ?_, ?_, ?_, ?_, ?_, ?_, ?_, ?_, ?_, ?_, ?_, ?_, ?_⟩ <;>
    first | rfl | (simp [addressConflict]; done)

end Sys2Proof.Machine
end

