-- ==== Sys2Proof/Laws/FramesEvents.lean ====
section
/-! SUPPORT. What the work of a whole event leaves unchanged, field by field: expiries, measurement records, SEAL, CLEAR, applied frames. -/

namespace Sys2Proof.Machine

@[simp] theorem enterStarting_keeps (s : State) :
    (enterStarting s).now = s.now ∧ (enterStarting s).items = s.items ∧ (enterStarting s).inForce = s.inForce ∧
    (enterStarting s).bus = s.bus ∧ (enterStarting s).view = s.view ∧ (enterStarting s).clock = s.clock ∧
    (enterStarting s).book = s.book ∧ (enterStarting s).heat = s.heat ∧ (enterStarting s).bank = s.bank ∧
    (enterStarting s).account = s.account ∧ (enterStarting s).permit = s.permit ∧ (enterStarting s).free = s.free ∧
    (enterStarting s).pending = s.pending ∧ (enterStarting s).share.timer = s.share.timer ∧
    (enterStarting s).share.lastLoaded = s.share.lastLoaded ∧ (enterStarting s).share.lastU = s.share.lastU ∧
    (enterStarting s).seq.joinTimer = s.seq.joinTimer ∧ (enterStarting s).seq.standbyTimer = s.seq.standbyTimer ∧
    (enterStarting s).seq.tripHeld = s.seq.tripHeld ∧ (enterStarting s).seq.leaveCount = s.seq.leaveCount ∧
    (enterStarting s).seq.tripOut = s.seq.tripOut ∧ (enterStarting s).link.kept = s.link.kept ∧
    (enterStarting s).link.owed = s.link.owed ∧ (enterStarting s).link.setpoint = s.link.setpoint ∧
    (enterStarting s).link.faults = s.link.faults ∧ (enterStarting s).link.sending = s.link.sending ∧
    (enterStarting s).link.holder = s.link.holder ∧ (enterStarting s).link.staleTimer = s.link.staleTimer ∧
    (enterStarting s).link.staleMark = s.link.staleMark := by
  refine ⟨?_, ?_, ?_, ?_, ?_, ?_, ?_, ?_, ?_, ?_, ?_, ?_, ?_, ?_, ?_, ?_, ?_, ?_, ?_, ?_, ?_, ?_, ?_, ?_, ?_, ?_, ?_, ?_, ?_⟩ <;>
    rfl

@[simp] theorem standbyExpiry_keeps (k : Kind) (s : State) :
    (standbyExpiry k s).now = s.now ∧ (standbyExpiry k s).items = s.items ∧ (standbyExpiry k s).inForce = s.inForce ∧
    (standbyExpiry k s).bus = s.bus ∧ (standbyExpiry k s).view = s.view ∧ (standbyExpiry k s).clock = s.clock ∧
    (standbyExpiry k s).book = s.book ∧ (standbyExpiry k s).heat = s.heat ∧ (standbyExpiry k s).bank = s.bank ∧
    (standbyExpiry k s).account = s.account ∧ (standbyExpiry k s).permit = s.permit ∧
    (standbyExpiry k s).free = s.free ∧ (standbyExpiry k s).pending = s.pending ∧
    (standbyExpiry k s).share.timer = s.share.timer ∧ (standbyExpiry k s).share.lastLoaded = s.share.lastLoaded ∧
    (standbyExpiry k s).share.lastU = s.share.lastU ∧ (standbyExpiry k s).seq.joinTimer = s.seq.joinTimer ∧
    (standbyExpiry k s).seq.standbyTimer = s.seq.standbyTimer ∧ (standbyExpiry k s).seq.tripHeld = s.seq.tripHeld ∧
    (standbyExpiry k s).seq.leaveCount = s.seq.leaveCount ∧ (standbyExpiry k s).seq.tripOut = s.seq.tripOut ∧
    (standbyExpiry k s).link.kept = s.link.kept ∧ (standbyExpiry k s).link.owed = s.link.owed ∧
    (standbyExpiry k s).link.setpoint = s.link.setpoint ∧ (standbyExpiry k s).link.faults = s.link.faults ∧
    (standbyExpiry k s).link.sending = s.link.sending ∧ (standbyExpiry k s).link.holder = s.link.holder ∧
    (standbyExpiry k s).link.staleTimer = s.link.staleTimer ∧ (standbyExpiry k s).link.staleMark = s.link.staleMark := by
  refine ⟨?_, ?_, ?_, ?_, ?_, ?_, ?_, ?_, ?_, ?_, ?_, ?_, ?_, ?_, ?_, ?_, ?_, ?_, ?_, ?_, ?_, ?_, ?_, ?_, ?_, ?_, ?_, ?_, ?_⟩ <;>
    first | rfl | (simp [standbyExpiry]; done) | (unfold standbyExpiry; (try dsimp only); (repeat' split) <;> first | rfl | (simp; done))

@[simp] theorem loadedExpiry_keeps (k : Kind) (s : State) :
    (loadedExpiry k s).now = s.now ∧ (loadedExpiry k s).items = s.items ∧ (loadedExpiry k s).inForce = s.inForce ∧
    (loadedExpiry k s).clock = s.clock ∧ (loadedExpiry k s).permit = s.permit ∧ (loadedExpiry k s).free = s.free ∧
    (loadedExpiry k s).pending = s.pending ∧ (loadedExpiry k s).share.lastU = s.share.lastU ∧
    (loadedExpiry k s).bus.onBus = s.bus.onBus ∧ (loadedExpiry k s).account.log = s.account.log ∧
    (loadedExpiry k s).book.noms = s.book.noms ∧ (loadedExpiry k s).book.orders = s.book.orders ∧
    (loadedExpiry k s).book.target = s.book.target ∧ (loadedExpiry k s).book.n = s.book.n ∧
    (loadedExpiry k s).book.a = s.book.a ∧ (loadedExpiry k s).book.orderChanged = s.book.orderChanged ∧
    (loadedExpiry k s).heat.zones = s.heat.zones ∧ (loadedExpiry k s).heat.hotZones = s.heat.hotZones ∧
    (loadedExpiry k s).heat.classCharge = s.heat.classCharge ∧
    (loadedExpiry k s).heat.classDischarge = s.heat.classDischarge ∧ (loadedExpiry k s).heat.outlet = s.heat.outlet ∧
    (loadedExpiry k s).heat.heldCharge = s.heat.heldCharge ∧
    (loadedExpiry k s).heat.heldDischarge = s.heat.heldDischarge ∧ (loadedExpiry k s).link.kept = s.link.kept ∧
    (loadedExpiry k s).link.owed = s.link.owed ∧ (loadedExpiry k s).link.setpoint = s.link.setpoint ∧
    (loadedExpiry k s).link.faults = s.link.faults ∧ (loadedExpiry k s).link.sending = s.link.sending := by
  refine ⟨?_, ?_, ?_, ?_, ?_, ?_, ?_, ?_, ?_, ?_, ?_, ?_, ?_, ?_, ?_, ?_, ?_, ?_, ?_, ?_, ?_, ?_, ?_, ?_, ?_, ?_, ?_, ?_⟩ <;>
    first | rfl | (simp [loadedExpiry]; done)

@[simp] theorem readAtExpiry_keeps (s : State) :
    (readAtExpiry s).now = s.now ∧ (readAtExpiry s).items = s.items ∧ (readAtExpiry s).inForce = s.inForce ∧
    (readAtExpiry s).bus = s.bus ∧ (readAtExpiry s).view = s.view ∧ (readAtExpiry s).clock = s.clock ∧
    (readAtExpiry s).book = s.book ∧ (readAtExpiry s).bank = s.bank ∧ (readAtExpiry s).account = s.account ∧
    (readAtExpiry s).permit = s.permit ∧ (readAtExpiry s).free = s.free ∧ (readAtExpiry s).pending = s.pending ∧
    (readAtExpiry s).share.command = s.share.command ∧ (readAtExpiry s).share.timer = s.share.timer ∧
    (readAtExpiry s).share.wake = s.share.wake ∧ (readAtExpiry s).share.lastLoaded = s.share.lastLoaded ∧
    (readAtExpiry s).seq.state = s.seq.state ∧ (readAtExpiry s).seq.joinTimer = s.seq.joinTimer ∧
    (readAtExpiry s).seq.startTimer = s.seq.startTimer ∧ (readAtExpiry s).seq.standbyTimer = s.seq.standbyTimer ∧
    (readAtExpiry s).seq.tripHeld = s.seq.tripHeld ∧ (readAtExpiry s).seq.leaveCount = s.seq.leaveCount ∧
    (readAtExpiry s).seq.tripOut = s.seq.tripOut ∧ (readAtExpiry s).heat.zones = s.heat.zones ∧
    (readAtExpiry s).heat.hotZones = s.heat.hotZones ∧ (readAtExpiry s).heat.classCharge = s.heat.classCharge ∧
    (readAtExpiry s).heat.classDischarge = s.heat.classDischarge ∧
    (readAtExpiry s).heat.pubCharge = s.heat.pubCharge ∧ (readAtExpiry s).heat.pubDischarge = s.heat.pubDischarge ∧
    (readAtExpiry s).heat.outlet = s.heat.outlet ∧ (readAtExpiry s).heat.heldCharge = s.heat.heldCharge ∧
    (readAtExpiry s).heat.heldDischarge = s.heat.heldDischarge ∧ (readAtExpiry s).link.kept = s.link.kept ∧
    (readAtExpiry s).link.owed = s.link.owed ∧ (readAtExpiry s).link.setpoint = s.link.setpoint ∧
    (readAtExpiry s).link.faults = s.link.faults ∧ (readAtExpiry s).link.sending = s.link.sending ∧
    (readAtExpiry s).link.holder = s.link.holder ∧ (readAtExpiry s).link.staleTimer = s.link.staleTimer ∧
    (readAtExpiry s).link.staleMark = s.link.staleMark := by
  refine ⟨?_, ?_, ?_, ?_, ?_, ?_, ?_, ?_, ?_, ?_, ?_, ?_, ?_, ?_, ?_, ?_, ?_, ?_, ?_, ?_, ?_, ?_, ?_, ?_, ?_, ?_, ?_, ?_,
    ?_, ?_, ?_, ?_, ?_, ?_, ?_, ?_, ?_, ?_, ?_, ?_⟩ <;>
    first | rfl | (simp [readAtExpiry]; done)

@[simp] theorem expiryStages_keeps (k : Kind) (s : State) :
    (expiryStages k s).now = s.now ∧ (expiryStages k s).items = s.items ∧ (expiryStages k s).inForce = s.inForce ∧
    (expiryStages k s).clock = s.clock ∧ (expiryStages k s).permit = s.permit ∧ (expiryStages k s).free = s.free ∧
    (expiryStages k s).pending = s.pending ∧ (expiryStages k s).bus.onBus = s.bus.onBus ∧
    (expiryStages k s).account.log = s.account.log ∧ (expiryStages k s).book.noms = s.book.noms ∧
    (expiryStages k s).book.orders = s.book.orders ∧ (expiryStages k s).book.orderChanged = s.book.orderChanged ∧
    (expiryStages k s).heat.zones = s.heat.zones ∧ (expiryStages k s).heat.hotZones = s.heat.hotZones ∧
    (expiryStages k s).heat.classCharge = s.heat.classCharge ∧
    (expiryStages k s).heat.classDischarge = s.heat.classDischarge ∧ (expiryStages k s).heat.outlet = s.heat.outlet ∧
    (expiryStages k s).heat.heldCharge = s.heat.heldCharge ∧
    (expiryStages k s).heat.heldDischarge = s.heat.heldDischarge ∧ (expiryStages k s).link.kept = s.link.kept ∧
    (expiryStages k s).link.owed = s.link.owed ∧ (expiryStages k s).link.faults = s.link.faults ∧
    (expiryStages k s).link.sending = s.link.sending := by
  refine ⟨?_, ?_, ?_, ?_, ?_, ?_, ?_, ?_, ?_, ?_, ?_, ?_, ?_, ?_, ?_, ?_, ?_, ?_, ?_, ?_, ?_, ?_, ?_⟩ <;>
    first | rfl | (simp [expiryStages]; done) | (unfold expiryStages; (try dsimp only); (repeat' split) <;> first | rfl | (simp; done))

@[simp] theorem onActive_keeps (m : Monitor) (s : State) :
    (onActive m s).1.now = s.now ∧ (onActive m s).1.items = s.items ∧ (onActive m s).1.inForce = s.inForce ∧
    (onActive m s).1.bus = s.bus ∧ (onActive m s).1.view = s.view ∧ (onActive m s).1.clock = s.clock ∧
    (onActive m s).1.book = s.book ∧ (onActive m s).1.share = s.share ∧ (onActive m s).1.heat = s.heat ∧
    (onActive m s).1.seq = s.seq ∧ (onActive m s).1.account = s.account ∧ (onActive m s).1.permit = s.permit ∧
    (onActive m s).1.free = s.free ∧ (onActive m s).1.pending = s.pending ∧
    (onActive m s).1.bank.blankThermal = s.bank.blankThermal ∧
    (onActive m s).1.bank.blankMargin = s.bank.blankMargin ∧ (onActive m s).1.bank.cap = s.bank.cap ∧
    (onActive m s).1.link.kept = s.link.kept ∧ (onActive m s).1.link.owed = s.link.owed ∧
    (onActive m s).1.link.setpoint = s.link.setpoint ∧ (onActive m s).1.link.faults = s.link.faults ∧
    (onActive m s).1.link.sending = s.link.sending ∧ (onActive m s).1.link.holder = s.link.holder ∧
    (onActive m s).1.link.staleTimer = s.link.staleTimer ∧ (onActive m s).1.link.staleMark = s.link.staleMark := by
  refine ⟨?_, ?_, ?_, ?_, ?_, ?_, ?_, ?_, ?_, ?_, ?_, ?_, ?_, ?_, ?_, ?_, ?_, ?_, ?_, ?_, ?_, ?_, ?_, ?_, ?_⟩ <;>
    first | rfl | (simp [onActive]; done) | (unfold onActive; (try dsimp only); (repeat' split) <;> first | rfl | (simp; done))

theorem judgeAt_cases (m : Monitor) (d : Nat) (b : Bool) (s : State) :
    (judgeAt m d b s).1 = s
    ∨ (judgeAt m d b s).1 = { s with bank := s.bank.setMonitor m (judgeMonitor d b (s.bank.monitor m)) }
    ∨ (judgeAt m d b s).1 = (onActive m { s with bank := s.bank.setMonitor m (judgeMonitor d b (s.bank.monitor m)) }).1 := by
  unfold judgeAt
  split
  · exact Or.inl rfl
  · right
    dsimp only
    split
    · right
      split <;> next t h => exact (congrArg Prod.fst h).symm
    · exact Or.inl rfl
@[simp] theorem judgeAt_keeps (m : Monitor) (d : Nat) (b : Bool) (s : State) :
    (judgeAt m d b s).1.now = s.now ∧ (judgeAt m d b s).1.items = s.items ∧ (judgeAt m d b s).1.inForce = s.inForce ∧
    (judgeAt m d b s).1.bus = s.bus ∧ (judgeAt m d b s).1.view = s.view ∧ (judgeAt m d b s).1.clock = s.clock ∧
    (judgeAt m d b s).1.book = s.book ∧ (judgeAt m d b s).1.share = s.share ∧ (judgeAt m d b s).1.heat = s.heat ∧
    (judgeAt m d b s).1.seq = s.seq ∧ (judgeAt m d b s).1.account = s.account ∧
    (judgeAt m d b s).1.permit = s.permit ∧ (judgeAt m d b s).1.free = s.free ∧
    (judgeAt m d b s).1.pending = s.pending ∧ (judgeAt m d b s).1.bank.blankThermal = s.bank.blankThermal ∧
    (judgeAt m d b s).1.bank.blankMargin = s.bank.blankMargin ∧ (judgeAt m d b s).1.bank.cap = s.bank.cap ∧
    (judgeAt m d b s).1.link.kept = s.link.kept ∧ (judgeAt m d b s).1.link.owed = s.link.owed ∧
    (judgeAt m d b s).1.link.setpoint = s.link.setpoint ∧ (judgeAt m d b s).1.link.faults = s.link.faults ∧
    (judgeAt m d b s).1.link.sending = s.link.sending ∧ (judgeAt m d b s).1.link.holder = s.link.holder ∧
    (judgeAt m d b s).1.link.staleTimer = s.link.staleTimer ∧ (judgeAt m d b s).1.link.staleMark = s.link.staleMark := by
  refine ⟨?_, ?_, ?_, ?_, ?_, ?_, ?_, ?_, ?_, ?_, ?_, ?_, ?_, ?_, ?_, ?_, ?_, ?_, ?_, ?_, ?_, ?_, ?_, ?_, ?_⟩ <;>
    first | rfl | (rcases judgeAt_cases m d b s with h | h | h <;> rw [h] <;> simp)

@[simp] theorem judgeThermal_keeps (t : Nat) (s : State) :
    (judgeThermal t s).1.now = s.now ∧ (judgeThermal t s).1.items = s.items ∧
    (judgeThermal t s).1.inForce = s.inForce ∧ (judgeThermal t s).1.bus = s.bus ∧
    (judgeThermal t s).1.view = s.view ∧ (judgeThermal t s).1.clock = s.clock ∧ (judgeThermal t s).1.book = s.book ∧
    (judgeThermal t s).1.share = s.share ∧ (judgeThermal t s).1.heat = s.heat ∧ (judgeThermal t s).1.seq = s.seq ∧
    (judgeThermal t s).1.account = s.account ∧ (judgeThermal t s).1.permit = s.permit ∧
    (judgeThermal t s).1.free = s.free ∧ (judgeThermal t s).1.pending = s.pending ∧
    (judgeThermal t s).1.bank.blankThermal = s.bank.blankThermal ∧
    (judgeThermal t s).1.bank.blankMargin = s.bank.blankMargin ∧ (judgeThermal t s).1.bank.cap = s.bank.cap ∧
    (judgeThermal t s).1.link.kept = s.link.kept ∧ (judgeThermal t s).1.link.owed = s.link.owed ∧
    (judgeThermal t s).1.link.setpoint = s.link.setpoint ∧ (judgeThermal t s).1.link.faults = s.link.faults ∧
    (judgeThermal t s).1.link.sending = s.link.sending ∧ (judgeThermal t s).1.link.holder = s.link.holder ∧
    (judgeThermal t s).1.link.staleTimer = s.link.staleTimer ∧ (judgeThermal t s).1.link.staleMark = s.link.staleMark := by
  refine ⟨?_, ?_, ?_, ?_, ?_, ?_, ?_, ?_, ?_, ?_, ?_, ?_, ?_, ?_, ?_, ?_, ?_, ?_, ?_, ?_, ?_, ?_, ?_, ?_, ?_⟩ <;>
    first | rfl | (simp [judgeThermal]; done) | (unfold judgeThermal; (try dsimp only); (repeat' split) <;> first | rfl | (simp; done))

@[simp] theorem judgeMargin_keeps (v : Nat) (s : State) :
    (judgeMargin v s).1.now = s.now ∧ (judgeMargin v s).1.items = s.items ∧ (judgeMargin v s).1.inForce = s.inForce ∧
    (judgeMargin v s).1.bus = s.bus ∧ (judgeMargin v s).1.view = s.view ∧ (judgeMargin v s).1.clock = s.clock ∧
    (judgeMargin v s).1.book = s.book ∧ (judgeMargin v s).1.share = s.share ∧ (judgeMargin v s).1.heat = s.heat ∧
    (judgeMargin v s).1.seq = s.seq ∧ (judgeMargin v s).1.account = s.account ∧
    (judgeMargin v s).1.permit = s.permit ∧ (judgeMargin v s).1.free = s.free ∧
    (judgeMargin v s).1.pending = s.pending ∧ (judgeMargin v s).1.bank.blankThermal = s.bank.blankThermal ∧
    (judgeMargin v s).1.bank.blankMargin = s.bank.blankMargin ∧ (judgeMargin v s).1.bank.cap = s.bank.cap ∧
    (judgeMargin v s).1.link.kept = s.link.kept ∧ (judgeMargin v s).1.link.owed = s.link.owed ∧
    (judgeMargin v s).1.link.setpoint = s.link.setpoint ∧ (judgeMargin v s).1.link.faults = s.link.faults ∧
    (judgeMargin v s).1.link.sending = s.link.sending ∧ (judgeMargin v s).1.link.holder = s.link.holder ∧
    (judgeMargin v s).1.link.staleTimer = s.link.staleTimer ∧ (judgeMargin v s).1.link.staleMark = s.link.staleMark := by
  refine ⟨?_, ?_, ?_, ?_, ?_, ?_, ?_, ?_, ?_, ?_, ?_, ?_, ?_, ?_, ?_, ?_, ?_, ?_, ?_, ?_, ?_, ?_, ?_, ?_, ?_⟩ <;>
    first | rfl | (simp [judgeMargin]; done) | (unfold judgeMargin; (try dsimp only); (repeat' split) <;> first | rfl | (simp; done))

@[simp] theorem judgeRecord_keeps (r : Measurement) (s : State) :
    (judgeRecord r s).1.now = s.now ∧ (judgeRecord r s).1.items = s.items ∧ (judgeRecord r s).1.inForce = s.inForce ∧
    (judgeRecord r s).1.bus = s.bus ∧ (judgeRecord r s).1.view = s.view ∧ (judgeRecord r s).1.clock = s.clock ∧
    (judgeRecord r s).1.book = s.book ∧ (judgeRecord r s).1.share = s.share ∧ (judgeRecord r s).1.heat = s.heat ∧
    (judgeRecord r s).1.seq = s.seq ∧ (judgeRecord r s).1.account = s.account ∧
    (judgeRecord r s).1.permit = s.permit ∧ (judgeRecord r s).1.free = s.free ∧
    (judgeRecord r s).1.pending = s.pending ∧ (judgeRecord r s).1.bank.blankThermal = s.bank.blankThermal ∧
    (judgeRecord r s).1.bank.blankMargin = s.bank.blankMargin ∧ (judgeRecord r s).1.bank.cap = s.bank.cap ∧
    (judgeRecord r s).1.link.kept = s.link.kept ∧ (judgeRecord r s).1.link.owed = s.link.owed ∧
    (judgeRecord r s).1.link.setpoint = s.link.setpoint ∧ (judgeRecord r s).1.link.faults = s.link.faults ∧
    (judgeRecord r s).1.link.sending = s.link.sending ∧ (judgeRecord r s).1.link.holder = s.link.holder ∧
    (judgeRecord r s).1.link.staleTimer = s.link.staleTimer ∧ (judgeRecord r s).1.link.staleMark = s.link.staleMark := by
  refine ⟨?_, ?_, ?_, ?_, ?_, ?_, ?_, ?_, ?_, ?_, ?_, ?_, ?_, ?_, ?_, ?_, ?_, ?_, ?_, ?_, ?_, ?_, ?_, ?_, ?_⟩ <;>
    first | rfl | (simp [judgeRecord]; done) | (unfold judgeRecord; (try dsimp only); (repeat' split) <;> first | rfl | (simp; done))

@[simp] theorem endStale_keeps (s : State) :
    (endStale s).now = s.now ∧ (endStale s).items = s.items ∧ (endStale s).inForce = s.inForce ∧
    (endStale s).bus = s.bus ∧ (endStale s).view = s.view ∧ (endStale s).clock = s.clock ∧
    (endStale s).book = s.book ∧ (endStale s).share = s.share ∧ (endStale s).heat = s.heat ∧
    (endStale s).seq = s.seq ∧ (endStale s).account = s.account ∧ (endStale s).link = s.link ∧
    (endStale s).permit = s.permit ∧ (endStale s).free = s.free ∧ (endStale s).pending = s.pending ∧
    (endStale s).bank.native = s.bank.native ∧ (endStale s).bank.thermal = s.bank.thermal ∧
    (endStale s).bank.margin = s.bank.margin ∧ (endStale s).bank.zoneHigh = s.bank.zoneHigh ∧
    (endStale s).bank.blankThermal = s.bank.blankThermal ∧ (endStale s).bank.blankMargin = s.bank.blankMargin := by
  refine ⟨?_, ?_, ?_, ?_, ?_, ?_, ?_, ?_, ?_, ?_, ?_, ?_, ?_, ?_, ?_, ?_, ?_, ?_, ?_, ?_, ?_⟩ <;>
    first | rfl | (simp [endStale]; done)

@[simp] theorem retryCut_keeps (b : Bool) (s : State) :
    (retryCut b s).now = s.now ∧ (retryCut b s).items = s.items ∧ (retryCut b s).inForce = s.inForce ∧
    (retryCut b s).bus = s.bus ∧ (retryCut b s).view = s.view ∧ (retryCut b s).clock = s.clock ∧
    (retryCut b s).book = s.book ∧ (retryCut b s).share = s.share ∧ (retryCut b s).heat = s.heat ∧
    (retryCut b s).seq = s.seq ∧ (retryCut b s).account = s.account ∧ (retryCut b s).link = s.link ∧
    (retryCut b s).permit = s.permit ∧ (retryCut b s).free = s.free ∧ (retryCut b s).pending = s.pending ∧
    (retryCut b s).bank.native = s.bank.native ∧ (retryCut b s).bank.thermal = s.bank.thermal ∧
    (retryCut b s).bank.margin = s.bank.margin ∧ (retryCut b s).bank.stale = s.bank.stale ∧
    (retryCut b s).bank.zoneHigh = s.bank.zoneHigh ∧ (retryCut b s).bank.blankThermal = s.bank.blankThermal ∧
    (retryCut b s).bank.blankMargin = s.bank.blankMargin := by
  refine ⟨?_, ?_, ?_, ?_, ?_, ?_, ?_, ?_, ?_, ?_, ?_, ?_, ?_, ?_, ?_, ?_, ?_, ?_, ?_, ?_, ?_, ?_⟩ <;>
    first | rfl | (simp [retryCut]; done) | (unfold retryCut; (try dsimp only); (repeat' split) <;> first | rfl | (simp; done))

@[simp] theorem retryStage_keeps (b : Bool) (s : State) :
    (retryStage b s).now = s.now ∧ (retryStage b s).items = s.items ∧ (retryStage b s).inForce = s.inForce ∧
    (retryStage b s).bus = s.bus ∧ (retryStage b s).view = s.view ∧ (retryStage b s).clock = s.clock ∧
    (retryStage b s).book = s.book ∧ (retryStage b s).share = s.share ∧ (retryStage b s).heat = s.heat ∧
    (retryStage b s).seq = s.seq ∧ (retryStage b s).account = s.account ∧ (retryStage b s).link = s.link ∧
    (retryStage b s).permit = s.permit ∧ (retryStage b s).free = s.free ∧ (retryStage b s).pending = s.pending ∧
    (retryStage b s).bank.native = s.bank.native ∧ (retryStage b s).bank.thermal = s.bank.thermal ∧
    (retryStage b s).bank.margin = s.bank.margin ∧ (retryStage b s).bank.stale = s.bank.stale ∧
    (retryStage b s).bank.zoneHigh = s.bank.zoneHigh ∧ (retryStage b s).bank.blankThermal = s.bank.blankThermal ∧
    (retryStage b s).bank.blankMargin = s.bank.blankMargin := by
  refine ⟨?_, ?_, ?_, ?_, ?_, ?_, ?_, ?_, ?_, ?_, ?_, ?_, ?_, ?_, ?_, ?_, ?_, ?_, ?_, ?_, ?_, ?_⟩ <;>
    first | rfl | (simp [retryStage]; done) | (unfold retryStage; (try dsimp only); (repeat' split) <;> first | rfl | (simp; done))

@[simp] theorem bankRecord_keeps (r : Measurement) (s : State) :
    (bankRecord r s).now = s.now ∧ (bankRecord r s).items = s.items ∧ (bankRecord r s).inForce = s.inForce ∧
    (bankRecord r s).clock = s.clock ∧ (bankRecord r s).permit = s.permit ∧ (bankRecord r s).free = s.free ∧
    (bankRecord r s).pending = s.pending ∧ (bankRecord r s).bus.onBus = s.bus.onBus ∧
    (bankRecord r s).account.log = s.account.log ∧ (bankRecord r s).book.noms = s.book.noms ∧
    (bankRecord r s).book.orders = s.book.orders ∧ (bankRecord r s).book.target = s.book.target ∧
    (bankRecord r s).book.n = s.book.n ∧ (bankRecord r s).book.a = s.book.a ∧
    (bankRecord r s).book.orderChanged = s.book.orderChanged ∧ (bankRecord r s).heat.zones = s.heat.zones ∧
    (bankRecord r s).heat.hotZones = s.heat.hotZones ∧ (bankRecord r s).heat.classCharge = s.heat.classCharge ∧
    (bankRecord r s).heat.classDischarge = s.heat.classDischarge ∧ (bankRecord r s).heat.outlet = s.heat.outlet ∧
    (bankRecord r s).heat.heldCharge = s.heat.heldCharge ∧
    (bankRecord r s).heat.heldDischarge = s.heat.heldDischarge ∧ (bankRecord r s).link.kept = s.link.kept ∧
    (bankRecord r s).link.owed = s.link.owed ∧ (bankRecord r s).link.faults = s.link.faults ∧
    (bankRecord r s).link.sending = s.link.sending := by
  refine ⟨?_, ?_, ?_, ?_, ?_, ?_, ?_, ?_, ?_, ?_, ?_, ?_, ?_, ?_, ?_, ?_, ?_, ?_, ?_, ?_, ?_, ?_, ?_, ?_, ?_, ?_⟩ <;>
    first | rfl | (simp [bankRecord]; done)

@[simp] theorem takeRecord_keeps (r : Measurement) (s : State) :
    (takeRecord r s).now = s.now ∧ (takeRecord r s).items = s.items ∧ (takeRecord r s).inForce = s.inForce ∧
    (takeRecord r s).clock = s.clock ∧ (takeRecord r s).permit = s.permit ∧ (takeRecord r s).free = s.free ∧
    (takeRecord r s).pending = s.pending ∧ (takeRecord r s).bus.onBus = s.bus.onBus ∧
    (takeRecord r s).account.log = s.account.log ∧ (takeRecord r s).book.noms = s.book.noms ∧
    (takeRecord r s).book.orders = s.book.orders ∧ (takeRecord r s).book.target = s.book.target ∧
    (takeRecord r s).book.n = s.book.n ∧ (takeRecord r s).book.a = s.book.a ∧
    (takeRecord r s).book.orderChanged = s.book.orderChanged ∧ (takeRecord r s).heat.heldCharge = s.heat.heldCharge ∧
    (takeRecord r s).heat.heldDischarge = s.heat.heldDischarge ∧ (takeRecord r s).link.kept = s.link.kept ∧
    (takeRecord r s).link.owed = s.link.owed ∧ (takeRecord r s).link.faults = s.link.faults ∧
    (takeRecord r s).link.sending = s.link.sending := by
  refine ⟨?_, ?_, ?_, ?_, ?_, ?_, ?_, ?_, ?_, ?_, ?_, ?_, ?_, ?_, ?_, ?_, ?_, ?_, ?_, ?_, ?_⟩ <;>
    first | rfl | (unfold takeRecord; dsimp only; split <;> simp)

@[simp] theorem judgeStale_keeps (s : State) :
    (judgeStale s).1.now = s.now ∧ (judgeStale s).1.items = s.items ∧ (judgeStale s).1.inForce = s.inForce ∧
    (judgeStale s).1.bus = s.bus ∧ (judgeStale s).1.view = s.view ∧ (judgeStale s).1.clock = s.clock ∧
    (judgeStale s).1.book = s.book ∧ (judgeStale s).1.share = s.share ∧ (judgeStale s).1.seq = s.seq ∧
    (judgeStale s).1.account = s.account ∧ (judgeStale s).1.permit = s.permit ∧ (judgeStale s).1.free = s.free ∧
    (judgeStale s).1.pending = s.pending ∧ (judgeStale s).1.bank.native = s.bank.native ∧
    (judgeStale s).1.bank.thermal = s.bank.thermal ∧ (judgeStale s).1.bank.margin = s.bank.margin ∧
    (judgeStale s).1.bank.zoneHigh = s.bank.zoneHigh ∧ (judgeStale s).1.bank.blankThermal = s.bank.blankThermal ∧
    (judgeStale s).1.bank.blankMargin = s.bank.blankMargin ∧ (judgeStale s).1.heat.zones = s.heat.zones ∧
    (judgeStale s).1.heat.hotZones = s.heat.hotZones ∧ (judgeStale s).1.heat.classCharge = s.heat.classCharge ∧
    (judgeStale s).1.heat.classDischarge = s.heat.classDischarge ∧
    (judgeStale s).1.heat.pubCharge = s.heat.pubCharge ∧ (judgeStale s).1.heat.pubDischarge = s.heat.pubDischarge ∧
    (judgeStale s).1.heat.outlet = s.heat.outlet ∧ (judgeStale s).1.heat.cooled = s.heat.cooled ∧
    (judgeStale s).1.link.kept = s.link.kept ∧ (judgeStale s).1.link.owed = s.link.owed ∧
    (judgeStale s).1.link.setpoint = s.link.setpoint ∧ (judgeStale s).1.link.faults = s.link.faults ∧
    (judgeStale s).1.link.sending = s.link.sending ∧ (judgeStale s).1.link.holder = s.link.holder ∧
    (judgeStale s).1.link.staleTimer = s.link.staleTimer ∧ (judgeStale s).1.link.staleMark = s.link.staleMark := by
  refine ⟨?_, ?_, ?_, ?_, ?_, ?_, ?_, ?_, ?_, ?_, ?_, ?_, ?_, ?_, ?_, ?_, ?_, ?_, ?_, ?_, ?_, ?_, ?_, ?_, ?_, ?_, ?_, ?_,
    ?_, ?_, ?_, ?_, ?_, ?_, ?_⟩ <;>
    first | rfl | (simp [judgeStale]; done) | (unfold judgeStale; (try dsimp only); (repeat' split) <;> first | rfl | (simp; done))

@[simp] theorem staleExpiry_keeps (s : State) :
    (staleExpiry s).now = s.now ∧ (staleExpiry s).items = s.items ∧ (staleExpiry s).inForce = s.inForce ∧
    (staleExpiry s).clock = s.clock ∧ (staleExpiry s).permit = s.permit ∧ (staleExpiry s).free = s.free ∧
    (staleExpiry s).pending = s.pending ∧ (staleExpiry s).bus.onBus = s.bus.onBus ∧
    (staleExpiry s).account.log = s.account.log ∧ (staleExpiry s).book.noms = s.book.noms ∧
    (staleExpiry s).book.orders = s.book.orders ∧ (staleExpiry s).book.target = s.book.target ∧
    (staleExpiry s).book.n = s.book.n ∧ (staleExpiry s).book.a = s.book.a ∧
    (staleExpiry s).book.orderChanged = s.book.orderChanged ∧ (staleExpiry s).heat.zones = s.heat.zones ∧
    (staleExpiry s).heat.hotZones = s.heat.hotZones ∧ (staleExpiry s).heat.classCharge = s.heat.classCharge ∧
    (staleExpiry s).heat.classDischarge = s.heat.classDischarge ∧ (staleExpiry s).heat.outlet = s.heat.outlet ∧
    (staleExpiry s).link.kept = s.link.kept ∧ (staleExpiry s).link.owed = s.link.owed ∧
    (staleExpiry s).link.faults = s.link.faults ∧ (staleExpiry s).link.sending = s.link.sending := by
  refine ⟨?_, ?_, ?_, ?_, ?_, ?_, ?_, ?_, ?_, ?_, ?_, ?_, ?_, ?_, ?_, ?_, ?_, ?_, ?_, ?_, ?_, ?_, ?_, ?_⟩ <;>
    first | rfl | (simp [staleExpiry]; done)

@[simp] theorem unlatchGone_keeps (s : State) :
    (unlatchGone s).now = s.now ∧ (unlatchGone s).items = s.items ∧ (unlatchGone s).inForce = s.inForce ∧
    (unlatchGone s).bus = s.bus ∧ (unlatchGone s).view = s.view ∧ (unlatchGone s).clock = s.clock ∧
    (unlatchGone s).book = s.book ∧ (unlatchGone s).share = s.share ∧ (unlatchGone s).heat = s.heat ∧
    (unlatchGone s).seq = s.seq ∧ (unlatchGone s).account = s.account ∧ (unlatchGone s).link = s.link ∧
    (unlatchGone s).permit = s.permit ∧ (unlatchGone s).free = s.free ∧ (unlatchGone s).pending = s.pending ∧
    (unlatchGone s).bank.blankThermal = s.bank.blankThermal ∧ (unlatchGone s).bank.blankMargin = s.bank.blankMargin ∧
    (unlatchGone s).bank.cap = s.bank.cap := by
  refine ⟨?_, ?_, ?_, ?_, ?_, ?_, ?_, ?_, ?_, ?_, ?_, ?_, ?_, ?_, ?_, ?_, ?_, ?_⟩ <;>
    rfl

@[simp] theorem leaveTripped_keeps (s : State) :
    (leaveTripped s).now = s.now ∧ (leaveTripped s).items = s.items ∧ (leaveTripped s).inForce = s.inForce ∧
    (leaveTripped s).clock = s.clock ∧ (leaveTripped s).permit = s.permit ∧ (leaveTripped s).free = s.free ∧
    (leaveTripped s).pending = s.pending ∧ (leaveTripped s).bus.onBus = s.bus.onBus ∧
    (leaveTripped s).account.log = s.account.log ∧ (leaveTripped s).book.noms = s.book.noms ∧
    (leaveTripped s).book.orders = s.book.orders ∧ (leaveTripped s).book.target = s.book.target ∧
    (leaveTripped s).book.n = s.book.n ∧ (leaveTripped s).book.a = s.book.a ∧
    (leaveTripped s).book.orderChanged = s.book.orderChanged ∧ (leaveTripped s).heat.zones = s.heat.zones ∧
    (leaveTripped s).heat.hotZones = s.heat.hotZones ∧ (leaveTripped s).heat.classCharge = s.heat.classCharge ∧
    (leaveTripped s).heat.classDischarge = s.heat.classDischarge ∧ (leaveTripped s).heat.outlet = s.heat.outlet ∧
    (leaveTripped s).heat.heldCharge = s.heat.heldCharge ∧
    (leaveTripped s).heat.heldDischarge = s.heat.heldDischarge ∧ (leaveTripped s).link.kept = s.link.kept ∧
    (leaveTripped s).link.owed = s.link.owed ∧ (leaveTripped s).link.faults = s.link.faults ∧
    (leaveTripped s).link.sending = s.link.sending := by
  refine ⟨?_, ?_, ?_, ?_, ?_, ?_, ?_, ?_, ?_, ?_, ?_, ?_, ?_, ?_, ?_, ?_, ?_, ?_, ?_, ?_, ?_, ?_, ?_, ?_, ?_, ?_⟩ <;>
    first | rfl | (simp [leaveTripped]; done) | (unfold leaveTripped; (try dsimp only); (repeat' split) <;> first | rfl | (simp; done))

@[simp] theorem acceptClear_keeps (s : State) :
    (acceptClear s).now = s.now ∧ (acceptClear s).items = s.items ∧ (acceptClear s).inForce = s.inForce ∧
    (acceptClear s).clock = s.clock ∧ (acceptClear s).permit = s.permit ∧ (acceptClear s).free = s.free ∧
    (acceptClear s).pending = s.pending ∧ (acceptClear s).bus.onBus = s.bus.onBus ∧
    (acceptClear s).account.log = s.account.log ∧ (acceptClear s).book.noms = s.book.noms ∧
    (acceptClear s).book.orders = s.book.orders ∧ (acceptClear s).book.target = s.book.target ∧
    (acceptClear s).book.n = s.book.n ∧ (acceptClear s).book.a = s.book.a ∧
    (acceptClear s).book.orderChanged = s.book.orderChanged ∧ (acceptClear s).heat.zones = s.heat.zones ∧
    (acceptClear s).heat.hotZones = s.heat.hotZones ∧ (acceptClear s).heat.classCharge = s.heat.classCharge ∧
    (acceptClear s).heat.classDischarge = s.heat.classDischarge ∧ (acceptClear s).heat.outlet = s.heat.outlet ∧
    (acceptClear s).heat.heldCharge = s.heat.heldCharge ∧ (acceptClear s).heat.heldDischarge = s.heat.heldDischarge ∧
    (acceptClear s).link.kept = s.link.kept ∧ (acceptClear s).link.owed = s.link.owed ∧
    (acceptClear s).link.faults = s.link.faults ∧ (acceptClear s).link.sending = s.link.sending := by
  refine ⟨?_, ?_, ?_, ?_, ?_, ?_, ?_, ?_, ?_, ?_, ?_, ?_, ?_, ?_, ?_, ?_, ?_, ?_, ?_, ?_, ?_, ?_, ?_, ?_, ?_, ?_⟩ <;>
    first | rfl | (simp [acceptClear]; done) | (unfold acceptClear; (try dsimp only); (repeat' split) <;> first | rfl | (simp; done))

@[simp] theorem startStation_keeps (s : State) :
    (startStation s).now = s.now ∧ (startStation s).items = s.items ∧ (startStation s).view = s.view ∧
    (startStation s).clock = s.clock ∧ (startStation s).book = s.book ∧ (startStation s).account = s.account ∧
    (startStation s).permit = s.permit ∧ (startStation s).free = s.free ∧ (startStation s).pending = s.pending ∧
    (startStation s).share.lastU = s.share.lastU ∧ (startStation s).seq.state = s.seq.state ∧
    (startStation s).bus.pendingStatus = s.bus.pendingStatus ∧
    (startStation s).bus.pendingAlert = s.bus.pendingAlert ∧ (startStation s).bus.onBus = s.bus.onBus ∧
    (startStation s).bus.rx = s.bus.rx ∧ (startStation s).bus.overrun = s.bus.overrun ∧
    (startStation s).link.kept = s.link.kept ∧ (startStation s).link.owed = s.link.owed ∧
    (startStation s).link.setpoint = s.link.setpoint ∧ (startStation s).link.reports = s.link.reports ∧
    (startStation s).link.reportNo = s.link.reportNo ∧ (startStation s).link.discarded = s.link.discarded ∧
    (startStation s).link.faults = s.link.faults ∧ (startStation s).link.sending = s.link.sending := by
  refine ⟨?_, ?_, ?_, ?_, ?_, ?_, ?_, ?_, ?_, ?_, ?_, ?_, ?_, ?_, ?_, ?_, ?_, ?_, ?_, ?_, ?_, ?_, ?_, ?_⟩ <;>
    rfl

@[simp] theorem sealTrain_keeps (s : State) :
    (sealTrain s).now = s.now ∧ (sealTrain s).items = s.items ∧ (sealTrain s).inForce = s.inForce ∧
    (sealTrain s).bus = s.bus ∧ (sealTrain s).view = s.view ∧ (sealTrain s).clock = s.clock ∧
    (sealTrain s).share = s.share ∧ (sealTrain s).seq = s.seq ∧ (sealTrain s).bank = s.bank ∧
    (sealTrain s).permit = s.permit ∧ (sealTrain s).free = s.free ∧ (sealTrain s).pending = s.pending ∧
    (sealTrain s).account.ownPoint = s.account.ownPoint ∧ (sealTrain s).account.peerPoints = s.account.peerPoints ∧
    (sealTrain s).account.log = s.account.log ∧ (sealTrain s).book.noms = s.book.noms ∧
    (sealTrain s).book.orders = s.book.orders ∧ (sealTrain s).book.target = s.book.target ∧
    (sealTrain s).book.settle = s.book.settle ∧ (sealTrain s).book.orderChanged = s.book.orderChanged ∧
    (sealTrain s).heat.zones = s.heat.zones ∧ (sealTrain s).heat.hotZones = s.heat.hotZones ∧
    (sealTrain s).heat.classCharge = s.heat.classCharge ∧ (sealTrain s).heat.classDischarge = s.heat.classDischarge ∧
    (sealTrain s).heat.pubCharge = s.heat.pubCharge ∧ (sealTrain s).heat.pubDischarge = s.heat.pubDischarge ∧
    (sealTrain s).heat.outlet = s.heat.outlet ∧ (sealTrain s).heat.heldCharge = s.heat.heldCharge ∧
    (sealTrain s).heat.heldDischarge = s.heat.heldDischarge ∧ (sealTrain s).link.kept = s.link.kept ∧
    (sealTrain s).link.owed = s.link.owed ∧ (sealTrain s).link.setpoint = s.link.setpoint ∧
    (sealTrain s).link.faults = s.link.faults ∧ (sealTrain s).link.sending = s.link.sending ∧
    (sealTrain s).link.holder = s.link.holder ∧ (sealTrain s).link.staleTimer = s.link.staleTimer ∧
    (sealTrain s).link.staleMark = s.link.staleMark := by
  refine ⟨?_, ?_, ?_, ?_, ?_, ?_, ?_, ?_, ?_, ?_, ?_, ?_, ?_, ?_, ?_, ?_, ?_, ?_, ?_, ?_, ?_, ?_, ?_, ?_, ?_, ?_, ?_, ?_,
    ?_, ?_, ?_, ?_, ?_, ?_, ?_, ?_, ?_⟩ <;>
    first | rfl | (simp [sealTrain]; done)

@[simp] theorem sealStore_keeps (s : State) :
    (sealStore s).now = s.now ∧ (sealStore s).items = s.items ∧ (sealStore s).inForce = s.inForce ∧
    (sealStore s).bus = s.bus ∧ (sealStore s).view = s.view ∧ (sealStore s).share = s.share ∧
    (sealStore s).heat = s.heat ∧ (sealStore s).seq = s.seq ∧ (sealStore s).bank = s.bank ∧
    (sealStore s).link = s.link ∧ (sealStore s).permit = s.permit ∧ (sealStore s).free = s.free ∧
    (sealStore s).pending = s.pending ∧ (sealStore s).book.agree = s.book.agree ∧ (sealStore s).book.n = s.book.n ∧
    (sealStore s).book.a = s.book.a ∧ (sealStore s).book.persistence = s.book.persistence ∧
    (sealStore s).book.settle = s.book.settle ∧ (sealStore s).book.held = s.book.held ∧
    (sealStore s).book.orderChanged = s.book.orderChanged := by
  refine ⟨?_, ?_, ?_, ?_, ?_, ?_, ?_, ?_, ?_, ?_, ?_, ?_, ?_, ?_, ?_, ?_, ?_, ?_, ?_, ?_⟩ <;>
    rfl

@[simp] theorem acceptSeal_keeps (s : State) :
    (acceptSeal s).now = s.now ∧ (acceptSeal s).items = s.items ∧ (acceptSeal s).view = s.view ∧
    (acceptSeal s).permit = s.permit ∧ (acceptSeal s).free = s.free ∧ (acceptSeal s).pending = s.pending ∧
    (acceptSeal s).bus.pendingAlert = s.bus.pendingAlert ∧ (acceptSeal s).bus.onBus = s.bus.onBus ∧
    (acceptSeal s).bus.rx = s.bus.rx ∧ (acceptSeal s).bus.overrun = s.bus.overrun ∧
    (acceptSeal s).book.settle = s.book.settle ∧ (acceptSeal s).book.orderChanged = s.book.orderChanged ∧
    (acceptSeal s).link.kept = s.link.kept ∧ (acceptSeal s).link.owed = s.link.owed ∧
    (acceptSeal s).link.setpoint = s.link.setpoint ∧ (acceptSeal s).link.faults = s.link.faults ∧
    (acceptSeal s).link.sending = s.link.sending := by
  refine ⟨?_, ?_, ?_, ?_, ?_, ?_, ?_, ?_, ?_, ?_, ?_, ?_, ?_, ?_, ?_, ?_, ?_⟩ <;>
    first | rfl | (simp [acceptSeal]; done) | (unfold acceptSeal; (try dsimp only); (repeat' split) <;> first | rfl | (simp; done))

@[simp] theorem enqueue_keeps (f : Frame) (s : State) :
    (enqueue f s).now = s.now ∧ (enqueue f s).items = s.items ∧ (enqueue f s).inForce = s.inForce ∧
    (enqueue f s).view = s.view ∧ (enqueue f s).clock = s.clock ∧ (enqueue f s).book = s.book ∧
    (enqueue f s).share = s.share ∧ (enqueue f s).heat = s.heat ∧ (enqueue f s).seq = s.seq ∧
    (enqueue f s).bank = s.bank ∧ (enqueue f s).account = s.account ∧ (enqueue f s).permit = s.permit ∧
    (enqueue f s).free = s.free ∧ (enqueue f s).pending = s.pending ∧
    (enqueue f s).bus.statusTimer = s.bus.statusTimer ∧ (enqueue f s).bus.pendingStatus = s.bus.pendingStatus ∧
    (enqueue f s).bus.pendingAlert = s.bus.pendingAlert ∧ (enqueue f s).bus.onBus = s.bus.onBus ∧
    (enqueue f s).link.kept = s.link.kept ∧ (enqueue f s).link.owed = s.link.owed ∧
    (enqueue f s).link.setpoint = s.link.setpoint ∧ (enqueue f s).link.faults = s.link.faults ∧
    (enqueue f s).link.sending = s.link.sending ∧ (enqueue f s).link.holder = s.link.holder ∧
    (enqueue f s).link.staleTimer = s.link.staleTimer ∧ (enqueue f s).link.staleMark = s.link.staleMark := by
  refine ⟨?_, ?_, ?_, ?_, ?_, ?_, ?_, ?_, ?_, ?_, ?_, ?_, ?_, ?_, ?_, ?_, ?_, ?_, ?_, ?_, ?_, ?_, ?_, ?_, ?_, ?_⟩ <;>
    first | rfl | (simp [enqueue]; done) | (unfold enqueue; (try dsimp only); (repeat' split) <;> first | rfl | (simp; done))

@[simp] theorem removeHead_keeps (s : State) :
    (removeHead s).now = s.now ∧ (removeHead s).items = s.items ∧ (removeHead s).inForce = s.inForce ∧
    (removeHead s).view = s.view ∧ (removeHead s).clock = s.clock ∧ (removeHead s).book = s.book ∧
    (removeHead s).share = s.share ∧ (removeHead s).heat = s.heat ∧ (removeHead s).seq = s.seq ∧
    (removeHead s).bank = s.bank ∧ (removeHead s).account = s.account ∧ (removeHead s).link = s.link ∧
    (removeHead s).permit = s.permit ∧ (removeHead s).free = s.free ∧ (removeHead s).pending = s.pending ∧
    (removeHead s).bus.statusTimer = s.bus.statusTimer ∧ (removeHead s).bus.pendingStatus = s.bus.pendingStatus ∧
    (removeHead s).bus.pendingAlert = s.bus.pendingAlert ∧ (removeHead s).bus.onBus = s.bus.onBus := by
  refine ⟨?_, ?_, ?_, ?_, ?_, ?_, ?_, ?_, ?_, ?_, ?_, ?_, ?_, ?_, ?_, ?_, ?_, ?_, ?_⟩ <;>
    rfl

@[simp] theorem produceOpt_keeps (r : Option Report) (s : State) :
    (produceOpt r s).now = s.now ∧ (produceOpt r s).items = s.items ∧ (produceOpt r s).inForce = s.inForce ∧
    (produceOpt r s).bus = s.bus ∧ (produceOpt r s).view = s.view ∧ (produceOpt r s).clock = s.clock ∧
    (produceOpt r s).book = s.book ∧ (produceOpt r s).share = s.share ∧ (produceOpt r s).heat = s.heat ∧
    (produceOpt r s).seq = s.seq ∧ (produceOpt r s).bank = s.bank ∧ (produceOpt r s).account = s.account ∧
    (produceOpt r s).permit = s.permit ∧ (produceOpt r s).free = s.free ∧ (produceOpt r s).pending = s.pending ∧
    (produceOpt r s).link.kept = s.link.kept ∧ (produceOpt r s).link.owed = s.link.owed ∧
    (produceOpt r s).link.setpoint = s.link.setpoint ∧ (produceOpt r s).link.faults = s.link.faults ∧
    (produceOpt r s).link.sending = s.link.sending ∧ (produceOpt r s).link.holder = s.link.holder ∧
    (produceOpt r s).link.staleTimer = s.link.staleTimer ∧ (produceOpt r s).link.staleMark = s.link.staleMark := by
  refine ⟨?_, ?_, ?_, ?_, ?_, ?_, ?_, ?_, ?_, ?_, ?_, ?_, ?_, ?_, ?_, ?_, ?_, ?_, ?_, ?_, ?_, ?_, ?_⟩ <;>
    first | rfl | (simp [produceOpt]; done) | (unfold produceOpt; (try dsimp only); (repeat' split) <;> first | rfl | (simp; done))

@[simp] theorem handOn_keeps (f : StatusFrame) (old : Option Entry) (arr : Nat) (s : State) :
    (handOn f old arr s).now = s.now ∧ (handOn f old arr s).items = s.items ∧
    (handOn f old arr s).inForce = s.inForce ∧ (handOn f old arr s).bus = s.bus ∧
    (handOn f old arr s).view = s.view ∧ (handOn f old arr s).clock = s.clock ∧
    (handOn f old arr s).share = s.share ∧ (handOn f old arr s).heat = s.heat ∧ (handOn f old arr s).seq = s.seq ∧
    (handOn f old arr s).bank = s.bank ∧ (handOn f old arr s).permit = s.permit ∧
    (handOn f old arr s).free = s.free ∧ (handOn f old arr s).pending = s.pending ∧
    (handOn f old arr s).account.openRec = s.account.openRec ∧
    (handOn f old arr s).account.ownAcc = s.account.ownAcc ∧
    (handOn f old arr s).account.ownPoint = s.account.ownPoint ∧ (handOn f old arr s).account.log = s.account.log ∧
    (handOn f old arr s).book.noms = s.book.noms ∧ (handOn f old arr s).book.orders = s.book.orders ∧
    (handOn f old arr s).book.target = s.book.target ∧ (handOn f old arr s).book.settle = s.book.settle ∧
    (handOn f old arr s).book.orderChanged = s.book.orderChanged ∧ (handOn f old arr s).link.kept = s.link.kept ∧
    (handOn f old arr s).link.owed = s.link.owed ∧ (handOn f old arr s).link.setpoint = s.link.setpoint ∧
    (handOn f old arr s).link.faults = s.link.faults ∧ (handOn f old arr s).link.sending = s.link.sending ∧
    (handOn f old arr s).link.holder = s.link.holder ∧ (handOn f old arr s).link.staleTimer = s.link.staleTimer ∧
    (handOn f old arr s).link.staleMark = s.link.staleMark := by
  refine ⟨?_, ?_, ?_, ?_, ?_, ?_, ?_, ?_, ?_, ?_, ?_, ?_, ?_, ?_, ?_, ?_, ?_, ?_, ?_, ?_, ?_, ?_, ?_, ?_, ?_, ?_, ?_, ?_,
    ?_, ?_⟩ <;>
    first | rfl | (simp [handOn]; done) | (unfold handOn; (try dsimp only); (repeat' split) <;> first | rfl | (simp; done))

@[simp] theorem applyStatus_keeps (f : StatusFrame) (tag : Relation) (arr : Nat) (s : State) :
    (applyStatus f tag arr s).now = s.now ∧ (applyStatus f tag arr s).items = s.items ∧
    (applyStatus f tag arr s).inForce = s.inForce ∧ (applyStatus f tag arr s).clock = s.clock ∧
    (applyStatus f tag arr s).permit = s.permit ∧ (applyStatus f tag arr s).free = s.free ∧
    (applyStatus f tag arr s).pending = s.pending ∧ (applyStatus f tag arr s).bus.onBus = s.bus.onBus ∧
    (applyStatus f tag arr s).account.log = s.account.log ∧ (applyStatus f tag arr s).book.noms = s.book.noms ∧
    (applyStatus f tag arr s).book.orders = s.book.orders ∧ (applyStatus f tag arr s).book.target = s.book.target ∧
    (applyStatus f tag arr s).book.orderChanged = s.book.orderChanged ∧
    (applyStatus f tag arr s).heat.zones = s.heat.zones ∧ (applyStatus f tag arr s).heat.hotZones = s.heat.hotZones ∧
    (applyStatus f tag arr s).heat.classCharge = s.heat.classCharge ∧
    (applyStatus f tag arr s).heat.classDischarge = s.heat.classDischarge ∧
    (applyStatus f tag arr s).heat.outlet = s.heat.outlet ∧
    (applyStatus f tag arr s).heat.heldCharge = s.heat.heldCharge ∧
    (applyStatus f tag arr s).heat.heldDischarge = s.heat.heldDischarge ∧
    (applyStatus f tag arr s).link.kept = s.link.kept ∧ (applyStatus f tag arr s).link.owed = s.link.owed ∧
    (applyStatus f tag arr s).link.faults = s.link.faults ∧ (applyStatus f tag arr s).link.sending = s.link.sending := by
  refine ⟨?_, ?_, ?_, ?_, ?_, ?_, ?_, ?_, ?_, ?_, ?_, ?_, ?_, ?_, ?_, ?_, ?_, ?_, ?_, ?_, ?_, ?_, ?_, ?_⟩ <;>
    first | rfl | (simp [applyStatus]; done) | (unfold applyStatus; (try dsimp only); (repeat' split) <;> first | rfl | (simp; done))

@[simp] theorem applyAlert_keeps (a : Alert) (s : State) :
    (applyAlert a s).now = s.now ∧ (applyAlert a s).items = s.items ∧ (applyAlert a s).inForce = s.inForce ∧
    (applyAlert a s).clock = s.clock ∧ (applyAlert a s).permit = s.permit ∧ (applyAlert a s).free = s.free ∧
    (applyAlert a s).pending = s.pending ∧ (applyAlert a s).bus.onBus = s.bus.onBus ∧
    (applyAlert a s).account.log = s.account.log ∧ (applyAlert a s).book.noms = s.book.noms ∧
    (applyAlert a s).book.orders = s.book.orders ∧ (applyAlert a s).book.target = s.book.target ∧
    (applyAlert a s).book.n = s.book.n ∧ (applyAlert a s).book.a = s.book.a ∧
    (applyAlert a s).book.orderChanged = s.book.orderChanged ∧ (applyAlert a s).heat.zones = s.heat.zones ∧
    (applyAlert a s).heat.hotZones = s.heat.hotZones ∧ (applyAlert a s).heat.classCharge = s.heat.classCharge ∧
    (applyAlert a s).heat.classDischarge = s.heat.classDischarge ∧ (applyAlert a s).heat.outlet = s.heat.outlet ∧
    (applyAlert a s).heat.heldCharge = s.heat.heldCharge ∧
    (applyAlert a s).heat.heldDischarge = s.heat.heldDischarge ∧ (applyAlert a s).link.kept = s.link.kept ∧
    (applyAlert a s).link.owed = s.link.owed ∧ (applyAlert a s).link.faults = s.link.faults ∧
    (applyAlert a s).link.sending = s.link.sending := by
  refine ⟨?_, ?_, ?_, ?_, ?_, ?_, ?_, ?_, ?_, ?_, ?_, ?_, ?_, ?_, ?_, ?_, ?_, ?_, ?_, ?_, ?_, ?_, ?_, ?_, ?_, ?_⟩ <;>
    first | rfl | (simp [applyAlert]; done) | (unfold applyAlert; (try dsimp only); (repeat' split) <;> first | rfl | (simp; done))

@[simp] theorem loseEntry_keeps (e : Entry) (s : State) :
    (loseEntry e s).now = s.now ∧ (loseEntry e s).items = s.items ∧ (loseEntry e s).inForce = s.inForce ∧
    (loseEntry e s).clock = s.clock ∧ (loseEntry e s).permit = s.permit ∧ (loseEntry e s).free = s.free ∧
    (loseEntry e s).pending = s.pending ∧ (loseEntry e s).bus.onBus = s.bus.onBus ∧
    (loseEntry e s).account.log = s.account.log ∧ (loseEntry e s).book.noms = s.book.noms ∧
    (loseEntry e s).book.orders = s.book.orders ∧ (loseEntry e s).book.target = s.book.target ∧
    (loseEntry e s).book.n = s.book.n ∧ (loseEntry e s).book.a = s.book.a ∧
    (loseEntry e s).book.orderChanged = s.book.orderChanged ∧ (loseEntry e s).heat.zones = s.heat.zones ∧
    (loseEntry e s).heat.hotZones = s.heat.hotZones ∧ (loseEntry e s).heat.classCharge = s.heat.classCharge ∧
    (loseEntry e s).heat.classDischarge = s.heat.classDischarge ∧ (loseEntry e s).heat.outlet = s.heat.outlet ∧
    (loseEntry e s).heat.heldCharge = s.heat.heldCharge ∧ (loseEntry e s).heat.heldDischarge = s.heat.heldDischarge ∧
    (loseEntry e s).link.kept = s.link.kept ∧ (loseEntry e s).link.owed = s.link.owed ∧
    (loseEntry e s).link.faults = s.link.faults ∧ (loseEntry e s).link.sending = s.link.sending := by
  refine ⟨?_, ?_, ?_, ?_, ?_, ?_, ?_, ?_, ?_, ?_, ?_, ?_, ?_, ?_, ?_, ?_, ?_, ?_, ?_, ?_, ?_, ?_, ?_, ?_, ?_, ?_⟩ <;>
    first | rfl | (simp [loseEntry]; done) | (unfold loseEntry; (try dsimp only); (repeat' split) <;> first | rfl | (simp; done))

@[simp] theorem applyConflict_keeps (a : Alert) (s : State) :
    (applyConflict a s).now = s.now ∧ (applyConflict a s).items = s.items ∧ (applyConflict a s).inForce = s.inForce ∧
    (applyConflict a s).clock = s.clock ∧ (applyConflict a s).permit = s.permit ∧ (applyConflict a s).free = s.free ∧
    (applyConflict a s).pending = s.pending ∧ (applyConflict a s).bus.onBus = s.bus.onBus ∧
    (applyConflict a s).account.log = s.account.log ∧ (applyConflict a s).book.noms = s.book.noms ∧
    (applyConflict a s).book.orders = s.book.orders ∧ (applyConflict a s).book.target = s.book.target ∧
    (applyConflict a s).book.n = s.book.n ∧ (applyConflict a s).book.a = s.book.a ∧
    (applyConflict a s).book.orderChanged = s.book.orderChanged ∧ (applyConflict a s).heat.zones = s.heat.zones ∧
    (applyConflict a s).heat.hotZones = s.heat.hotZones ∧ (applyConflict a s).heat.classCharge = s.heat.classCharge ∧
    (applyConflict a s).heat.classDischarge = s.heat.classDischarge ∧
    (applyConflict a s).heat.outlet = s.heat.outlet ∧ (applyConflict a s).heat.heldCharge = s.heat.heldCharge ∧
    (applyConflict a s).heat.heldDischarge = s.heat.heldDischarge ∧ (applyConflict a s).link.kept = s.link.kept ∧
    (applyConflict a s).link.owed = s.link.owed ∧ (applyConflict a s).link.faults = s.link.faults ∧
    (applyConflict a s).link.sending = s.link.sending := by
  refine ⟨?_, ?_, ?_, ?_, ?_, ?_, ?_, ?_, ?_, ?_, ?_, ?_, ?_, ?_, ?_, ?_, ?_, ?_, ?_, ?_, ?_, ?_, ?_, ?_, ?_, ?_⟩ <;>
    first | rfl | (simp [applyConflict]; done) | (unfold applyConflict; (try dsimp only); (repeat' split) <;> first | rfl | (simp; done))

@[simp] theorem freeEntry_keeps (address : Nat) (s : State) :
    (freeEntry address s).now = s.now ∧ (freeEntry address s).items = s.items ∧
    (freeEntry address s).inForce = s.inForce ∧ (freeEntry address s).clock = s.clock ∧
    (freeEntry address s).permit = s.permit ∧ (freeEntry address s).free = s.free ∧
    (freeEntry address s).pending = s.pending ∧ (freeEntry address s).bus.onBus = s.bus.onBus ∧
    (freeEntry address s).account.log = s.account.log ∧ (freeEntry address s).book.noms = s.book.noms ∧
    (freeEntry address s).book.orders = s.book.orders ∧ (freeEntry address s).book.target = s.book.target ∧
    (freeEntry address s).book.n = s.book.n ∧ (freeEntry address s).book.a = s.book.a ∧
    (freeEntry address s).book.orderChanged = s.book.orderChanged ∧ (freeEntry address s).heat.zones = s.heat.zones ∧
    (freeEntry address s).heat.hotZones = s.heat.hotZones ∧
    (freeEntry address s).heat.classCharge = s.heat.classCharge ∧
    (freeEntry address s).heat.classDischarge = s.heat.classDischarge ∧
    (freeEntry address s).heat.outlet = s.heat.outlet ∧ (freeEntry address s).heat.heldCharge = s.heat.heldCharge ∧
    (freeEntry address s).heat.heldDischarge = s.heat.heldDischarge ∧ (freeEntry address s).link.kept = s.link.kept ∧
    (freeEntry address s).link.owed = s.link.owed ∧ (freeEntry address s).link.faults = s.link.faults ∧
    (freeEntry address s).link.sending = s.link.sending := by
  refine ⟨?_, ?_, ?_, ?_, ?_, ?_, ?_, ?_, ?_, ?_, ?_, ?_, ?_, ?_, ?_, ?_, ?_, ?_, ?_, ?_, ?_, ?_, ?_, ?_, ?_, ?_⟩ <;>
    first | rfl | (simp [freeEntry]; done)

@[simp] theorem enterRunning_keeps (s : State) :
    (enterRunning s).now = s.now ∧ (enterRunning s).items = s.items ∧ (enterRunning s).inForce = s.inForce ∧
    (enterRunning s).bus = s.bus ∧ (enterRunning s).view = s.view ∧ (enterRunning s).clock = s.clock ∧
    (enterRunning s).book = s.book ∧ (enterRunning s).share = s.share ∧ (enterRunning s).heat = s.heat ∧
    (enterRunning s).account = s.account ∧ (enterRunning s).permit = s.permit ∧ (enterRunning s).free = s.free ∧
    (enterRunning s).pending = s.pending ∧ (enterRunning s).seq.joinTimer = s.seq.joinTimer ∧
    (enterRunning s).seq.tripHeld = s.seq.tripHeld ∧ (enterRunning s).seq.leaveCount = s.seq.leaveCount ∧
    (enterRunning s).seq.tripOut = s.seq.tripOut ∧ (enterRunning s).bank.native = s.bank.native ∧
    (enterRunning s).bank.thermal = s.bank.thermal ∧ (enterRunning s).bank.margin = s.bank.margin ∧
    (enterRunning s).bank.stale = s.bank.stale ∧ (enterRunning s).bank.zoneHigh = s.bank.zoneHigh ∧
    (enterRunning s).bank.cap = s.bank.cap ∧ (enterRunning s).link.kept = s.link.kept ∧
    (enterRunning s).link.owed = s.link.owed ∧ (enterRunning s).link.setpoint = s.link.setpoint ∧
    (enterRunning s).link.faults = s.link.faults ∧ (enterRunning s).link.sending = s.link.sending ∧
    (enterRunning s).link.holder = s.link.holder ∧ (enterRunning s).link.staleTimer = s.link.staleTimer ∧
    (enterRunning s).link.staleMark = s.link.staleMark := by
  refine ⟨?_, ?_, ?_, ?_, ?_, ?_, ?_, ?_, ?_, ?_, ?_, ?_, ?_, ?_, ?_, ?_, ?_, ?_, ?_, ?_, ?_, ?_, ?_, ?_, ?_, ?_, ?_, ?_,
    ?_, ?_, ?_⟩ <;>
    rfl

@[simp] theorem endWindow_keeps (s : State) :
    (endWindow s).now = s.now ∧ (endWindow s).items = s.items ∧ (endWindow s).inForce = s.inForce ∧
    (endWindow s).clock = s.clock ∧ (endWindow s).permit = s.permit ∧ (endWindow s).free = s.free ∧
    (endWindow s).pending = s.pending ∧ (endWindow s).bus.onBus = s.bus.onBus ∧
    (endWindow s).account.log = s.account.log ∧ (endWindow s).book.noms = s.book.noms ∧
    (endWindow s).book.orders = s.book.orders ∧ (endWindow s).book.target = s.book.target ∧
    (endWindow s).book.n = s.book.n ∧ (endWindow s).book.a = s.book.a ∧
    (endWindow s).book.orderChanged = s.book.orderChanged ∧ (endWindow s).heat.zones = s.heat.zones ∧
    (endWindow s).heat.hotZones = s.heat.hotZones ∧ (endWindow s).heat.classCharge = s.heat.classCharge ∧
    (endWindow s).heat.classDischarge = s.heat.classDischarge ∧ (endWindow s).heat.outlet = s.heat.outlet ∧
    (endWindow s).heat.heldCharge = s.heat.heldCharge ∧ (endWindow s).heat.heldDischarge = s.heat.heldDischarge ∧
    (endWindow s).link.kept = s.link.kept ∧ (endWindow s).link.owed = s.link.owed ∧
    (endWindow s).link.faults = s.link.faults ∧ (endWindow s).link.sending = s.link.sending := by
  refine ⟨?_, ?_, ?_, ?_, ?_, ?_, ?_, ?_, ?_, ?_, ?_, ?_, ?_, ?_, ?_, ?_, ?_, ?_, ?_, ?_, ?_, ?_, ?_, ?_, ?_, ?_⟩ <;>
    first | rfl | (simp [endWindow]; done) | (unfold endWindow; (try dsimp only); (repeat' split) <;> first | rfl | (simp; done))

@[simp] theorem advance_keeps (current : Nat) (s : State) :
    (advance current s).now = s.now ∧ (advance current s).items = s.items ∧ (advance current s).inForce = s.inForce ∧
    (advance current s).bus = s.bus ∧ (advance current s).view = s.view ∧ (advance current s).heat = s.heat ∧
    (advance current s).seq = s.seq ∧ (advance current s).bank = s.bank ∧ (advance current s).permit = s.permit ∧
    (advance current s).pending = s.pending ∧ (advance current s).share.command = s.share.command ∧
    (advance current s).share.timer = s.share.timer ∧ (advance current s).share.wake = s.share.wake ∧
    (advance current s).share.lastU = s.share.lastU ∧ (advance current s).link.kept = s.link.kept ∧
    (advance current s).link.owed = s.link.owed ∧ (advance current s).link.setpoint = s.link.setpoint ∧
    (advance current s).link.faults = s.link.faults ∧ (advance current s).link.sending = s.link.sending ∧
    (advance current s).link.holder = s.link.holder ∧ (advance current s).link.staleTimer = s.link.staleTimer ∧
    (advance current s).link.staleMark = s.link.staleMark ∧ (advance current s).clock.lastPulse = s.clock.lastPulse := by
  refine ⟨?_, ?_, ?_, ?_, ?_, ?_, ?_, ?_, ?_, ?_, ?_, ?_, ?_, ?_, ?_, ?_, ?_, ?_, ?_, ?_, ?_, ?_, ?_⟩ <;>
    first | rfl | (simp [advance]; done) | (unfold advance; (try dsimp only); (repeat' split) <;> first | rfl | (simp; done))

end Sys2Proof.Machine
end

