-- ==== Sys2Proof/Laws/Operations.lean ====
section
/-! SUPPORT. What the shared operations do: one lemma for each thing a proof about commands needs, so that no later proof unfolds
them: the exchange of a request, a produced report, the read of U, the change of the command, the upper limit, the shares, the spans
of the delivery account. -/

namespace Sys2Proof.Machine

/-! ## The exchange of a request -/

/-- A request row of the table is `request` of its request. -/
theorem exec_of_asRequest {c : Instr} {t : Nat} {tag : Byte} {r : Request} (h : asRequest c = some (t, tag, r)) (s : State) :
    exec c s = .next (request t tag r s) := by
  cases c <;> simp [asRequest] at h <;> obtain ⟨rfl, rfl, rfl⟩ := h <;> rfl

theorem isRepeat_false_of_new {s : State} {tag : Byte} {r : Request} (h : IsNew s tag r) : isRepeat r.code tag r.body s = false := by
  unfold isRepeat
  split
  · next k hk =>
    have h' := h.2 k hk
    simp only [Bool.and_eq_false_imp, Bool.and_eq_true, beq_iff_eq, beq_eq_false_iff_ne, ne_eq, and_imp]
    intro h1 h2 h3
    exact h' ⟨h1, h2, h3⟩
  · rfl

/-- A new request acts at its block, and its reply is kept and owed (R148). -/
theorem request_new {s : State} {tag : Byte} {r : Request} (h : IsNew s tag r) (t : Nat) :
    request t tag r s = answered (handle r (s.atInstant t)).state tag r (handle r (s.atInstant t)).answer := by
  have h1 : isRepeat r.code tag r.body (s.atInstant t) = false := by
    have := isRepeat_false_of_new h
    simpa [isRepeat] using this
  simp [request, exchange, h.1, h1, oweReply, answered]

/-- A request while a reply is owed is discarded and counted (R148). -/
theorem request_early {s : State} (h : s.link.owed ≠ none) (t : Nat) (tag : Byte) (r : Request) :
    request t tag r s = counted (s.atInstant t) := by
  have h1 : s.link.owed.isSome = true := by cases hs : s.link.owed <;> simp_all <;> (rw [← hr])
  simp [request, exchange, h1, countFault, counted]

/-- A request that repeats the kept one makes its kept reply owed once more (R148). -/
theorem request_repeat {s : State} {k : Kept} {tag : Byte} {r : Request} (h : s.link.owed = none) (hk : s.link.kept = some k)
    (h1 : k.code = r.code) (h2 : k.tag = tag) (h3 : k.body = r.body) (t : Nat) :
    request t tag r s = { s.atInstant t with link := { s.link with owed := some k.reply } } := by
  simp [request, exchange, h, isRepeat, hk, h1, h2, h3, resend, State.atInstant]

/-- A new request of the table, by what its block makes of it. -/
theorem exec_new {c : Instr} {t : Nat} {tag : Byte} {r : Request} {s u : State} {a : Answer} (h : asRequest c = some (t, tag, r))
    (hn : IsNew s tag r) (hh : handle r (s.atInstant t) = ⟨u, a⟩) : exec c s = .next (answered u tag r a) := by
  rw [exec_of_asRequest h, request_new hn, hh]

/-- A refused request leaves the station as it was (R150). -/
theorem handle_refused {r : Request} {s : State} {code : Refuse} (h : (handle r s).answer = .refuse code) : (handle r s).state = s := by
  cases r <;>
    simp only [handle, handleSetItem, handleSeal, handleMeasure, handleSetTime, handleInsert, handleCancel, replaceList, handleClear,
      handleLeave, handleRestart, handleQueryState, handleQueryPeer, handleQueryBook, handleReadLog, handleReleaseLog, refuse]
      at h ⊢ <;>
    (try (repeat' split) <;> simp_all)

/-! ## Reports -/

/-- A produced report joins a queue that has room, with the current number (R160). -/
theorem produce_reports {s : State} (h : s.link.reports.length < 16) (r : Report) :
    (produce r s).link.reports = s.link.reports ++ [⟨s.link.reportNo, r⟩] := by
  simp [produce, Config.reportCapacity, h]

theorem produce_reportNo (r : Report) (s : State) : (produce r s).link.reportNo = (s.link.reportNo + 1) % 65536 := rfl

/-- A produced report leaves the reports that wait in their places (R160). -/
theorem produce_reports_prefix (r : Report) (s : State) : s.link.reports <+: (produce r s).link.reports := by
  simp only [produce]; split <;> simp

/-- A report produced into a full queue is discarded, its number is used up, and the flag is set (R160). -/
theorem produce_full {s : State} (h : 16 ≤ s.link.reports.length) (r : Report) : produce r s =
    { s with link := { s.link with reportNo := (s.link.reportNo + 1) % 65536, discarded := true } } := by
  simp [produce, Config.reportCapacity, Nat.not_lt.mpr h]

/-- A produced report is queued. -/
theorem produce_queued (r : Report) (s : State) : Queued s (produce r s) r :=
  ⟨fun h => by rw [produce_reports h]; simp, fun h => by rw [produce_full h]; simp⟩

/-- A report stays queued while further reports are produced. -/
theorem queued_produce {s u : State} {r : Report} (h : Queued s u r) (x : Report) : Queued s (produce x u) r := by
  refine ⟨fun hl => (produce_reports_prefix x u).subset (h.1 hl), fun hl => ?_⟩
  obtain ⟨h1, h2⟩ := h.2 hl
  rw [produce_full (by rw [h1]; exact hl)]
  exact ⟨h1, rfl⟩

theorem produce_reports_length (r : Report) (s : State) (h : s.link.reports.length ≤ 16) :
    (produce r s).link.reports.length ≤ 16 := by
  by_cases h2 : s.link.reports.length < 16
  · rw [produce_reports h2]; simp; omega
  · simpa [produce, Config.reportCapacity, h2] using h

/-! ## The upper limit and AVAILABLE -/

/-- U is 0 or at least m (R49, R50). -/
theorem upperLimit_zero_or_ge (s : State) : upperLimit s = 0 ∨ s.inForce.minLoad ≤ upperLimit s := by
  unfold upperLimit; split <;> omega

theorem upperLimit_le_rated (s : State) : upperLimit s ≤ s.inForce.rated := by
  unfold upperLimit leastCap; split <;> omega

/-- U depends on nothing but the values in force, the holder, the view, the cooled flag and the monitor cap (R49). -/
theorem upperLimit_congr {s u : State} (h1 : u.inForce = s.inForce) (h2 : u.link.holder = s.link.holder) (h3 : u.view = s.view)
    (h4 : u.heat.cooled = s.heat.cooled) (h5 : u.bank.cap = s.bank.cap) : upperLimit u = upperLimit s := by
  have hp : heldPressure u = heldPressure s := by unfold heldPressure; rw [h2]
  have hl : linkedStore u = linkedStore s := by unfold linkedStore; rw [h1, h3]
  have hk : u.ownKind = s.ownKind := by unfold State.ownKind; rw [h1]
  have hh : heatReservation u = heatReservation s := by unfold heatReservation; rw [h1, h3, hk]
  simp only [upperLimit, leastCap, bandCap, rateCap, flowAllowance, flowReservation, heatCap, cooledCap, storeCapC, storeCapX,
    qualityCap, hp, hl, hk, hh, h1, h3, h4, h5]
  rfl

theorem latchedSet_isEmpty_iff (b : Bank) : b.latchedSet.isEmpty = true ↔ ∀ m, (b.monitor m).cond ≠ .latched := by
  simp only [Bank.latchedSet, List.isEmpty_iff, List.filter_eq_nil_iff, beq_iff_eq]
  constructor
  · intro h m
    exact h m (by cases m <;> simp [allMonitors])
  · intro h m _
    exact h m

theorem mayBeAvailable_iff (x : StationState) : x.mayBeAvailable = true ↔ x = .standby ∨ x = .starting ∨ x = .running := by
  cases x <;> simp [StationState.mayBeAvailable]

/-- The four conditions of AVAILABLE (R51). -/
theorem availableNow_iff (s : State) : availableNow s = true ↔
    (s.seq.state = .standby ∨ s.seq.state = .starting ∨ s.seq.state = .running) ∧ s.permit = true
    ∧ (∀ m, (s.bank.monitor m).cond ≠ .latched) ∧ s.share.lastU ≠ 0 := by
  simp only [availableNow, Bool.and_eq_true, latchedSet_isEmpty_iff, mayBeAvailable_iff, bne_iff_ne, ne_eq, and_assoc]

/-- The law of AVAILABLE holds after every evaluation. -/
theorem evalAvailable_law (s : State) : AvailableLaw (evalAvailable s) := by
  have h := availableNow_iff s
  simpa [AvailableLaw, evalAvailable] using h

theorem readU_law (s : State) : AvailableLaw (readU s) := evalAvailable_law _

/-! ## The command -/

/-- A change of the command (R66, R110, R113): none, a change that leaves the state, or the end of a leave. -/
theorem setCommand_cases (c : Nat) (s : State) :
    (c = s.share.command ∧ setCommand c s = s)
    ∨ (c ≠ s.share.command ∧ ¬ (s.seq.state = .leaving ∧ c = 0) ∧ (setCommand c s).share.command = c
        ∧ (setCommand c s).seq.state = s.seq.state)
    ∨ (c ≠ s.share.command ∧ s.seq.state = .leaving ∧ c = 0 ∧ (setCommand c s).share.command = 0
        ∧ (setCommand c s).seq.state = .offline) := by
  unfold setCommand
  split
  · next h => exact Or.inl ⟨h, rfl⟩
  · next h =>
    right
    dsimp only
    split
    · next h2 => exact Or.inr ⟨h, h2.1, h2.2, by simp [endLeave, standDown], by simp [endLeave, enterState]⟩
    · next h2 =>
      refine Or.inl ⟨h, h2, ?_, ?_⟩ <;> unfold standbyOnCommand <;> (repeat' split) <;> rfl

@[simp] theorem endLeave_command (s : State) : (endLeave s).share.command = 0 := by simp [endLeave, standDown]

@[simp] theorem endLeave_state (s : State) : (endLeave s).seq.state = .offline := by simp [endLeave, enterState]

/-- A SETPOINT carries the command, mode and state as they stand (R65). -/
@[simp] theorem sendSetpoint_setpoint (s : State) : (sendSetpoint s).link.setpoint =
    some ⟨s.share.command, decide (s.inForce.kind = some .C ∧ s.heat.cooled = true), s.seq.state⟩ := by
  cases hc : s.heat.cooled <;> by_cases hk : s.inForce.kind = some .C <;> simp [sendSetpoint, setpointNow, hk, hc]

/-- A change of the command that ends no leave, as one record (R66, R110). -/
theorem setCommand_stays {c : Nat} {s : State} (h : c ≠ s.share.command) (hl : ¬ (s.seq.state = .leaving ∧ c = 0)) :
    setCommand c s = { s with
      share := { s.share with
        command := c, lastLoaded := if c ≠ 0 ∧ s.clock.current ≠ none then s.clock.current else s.share.lastLoaded }
      seq := { s.seq with standbyTimer :=
        if s.seq.state = .running ∧ c = 0 then some (s.now + standbyTime s.inForce.items.standbyCode)
        else if s.seq.state = .running ∧ s.share.command = 0 then none else s.seq.standbyTimer } } := by
  have ho : (s.clock.current.isSome = true) = (s.clock.current ≠ none) := by cases s.clock.current <;> simp
  unfold setCommand standbyOnCommand
  simp only [if_neg h, if_neg hl, ho]
  by_cases hr : s.seq.state = .running <;> by_cases h0 : c = 0 <;> by_cases hc : s.share.command = 0 <;> simp_all <;> (rw [← hr])

/-- A read of U never raises the command, and leaves it at U or below where the station is still loaded (R50). -/
theorem readUpper_cases (s : State) :
    ((s.isTrain && s.isSealed) = false ∧ readUpper s = s)
    ∨ ((s.isTrain && s.isSealed) = true ∧ readUpper s = readU (decideMode s)
        ∧ ((readU (decideMode s)).seq.state.loaded = true → s.share.command ≤ upperLimit (decideMode s)))
    ∨ ((s.isTrain && s.isSealed) = true ∧ s.seq.state.loaded = true ∧ upperLimit (decideMode s) < s.share.command
        ∧ readUpper s = sendSetpoint (setCommand (upperLimit (decideMode s)) (readU (decideMode s)))) := by
  unfold readUpper
  by_cases h : (s.isTrain && s.isSealed) = true
  · rw [if_pos h]
    dsimp only
    by_cases h2 : ((readU (decideMode s)).seq.state.loaded && decide ((readU (decideMode s)).share.lastU <
        (readU (decideMode s)).share.command)) = true
    · rw [if_pos h2]
      right; right
      simp only [Bool.and_eq_true, decide_eq_true_eq] at h2
      refine ⟨h, by simpa using h2.1, by simpa [readU, evalAvailable] using h2.2, rfl⟩
    · rw [if_neg h2]
      right; left
      refine ⟨h, rfl, ?_⟩
      intro h3
      simp only [Bool.and_eq_true, decide_eq_true_eq, not_and, Nat.not_lt] at h2
      simpa [readU, evalAvailable] using h2 h3
  · rw [if_neg h]
    exact Or.inl ⟨by simpa using h, rfl⟩

theorem wantsCooled_eq_all (s : State) : wantsCooled s = (storeCapC s).all fun c => decide (c < s.inForce.minLoad) := by
  unfold wantsCooled; cases storeCapC s <;> rfl

/-- The cooled flag after a compressor's decision, and as it was on another kind. -/
theorem decideMode_cooled (s : State) :
    (decideMode s).heat.cooled = if s.inForce.kind = some .C then wantsCooled s else s.heat.cooled := by
  unfold decideMode
  by_cases hk : s.inForce.kind = some .C <;> by_cases hw : wantsCooled s = s.heat.cooled <;> simp [hk, hw]

/-- The limit that a read of U finds is the upper limit once the mode is decided. -/
theorem limitRead_eq (s : State) : limitRead s s.link.holder s.view s.bank.cap = upperLimit (decideMode s) := by
  refine upperLimit_congr ?_ ?_ ?_ ?_ ?_ <;> simp [decideMode_cooled, wantsCooled_eq_all]

/-- A read of U after an event does what `CutAtRead` says, with the holder, view and cap as they stand (R50). -/
theorem readUpper_cutAtRead {s : State} (h : s.seq.state ≠ .offline) :
    CutAtRead s (readUpper s) (limitRead s s.link.holder s.view s.bank.cap) := by
  have hs : s.isSealed = true := by simpa [State.isSealed] using h
  have hu : upperLimit (readU (decideMode s)) = upperLimit (decideMode s) := by
    refine upperLimit_congr ?_ ?_ ?_ ?_ ?_ <;> simp
  have hlu : (readU (decideMode s)).share.lastU = upperLimit (decideMode s) := by simp [readU, evalAvailable]
  rw [limitRead_eq]
  generalize hU : upperLimit (decideMode s) = U at *
  by_cases hc : s.isTrain = true ∧ (s.seq.state = .running ∨ s.seq.state = .leaving)
  · obtain ⟨ht, hl⟩ := hc
    have hload : s.seq.state.loaded = true := by rcases hl with h | h <;> rw [h] <;> rfl
    refine ⟨fun _ _ => ?_, fun hn => absurd ⟨ht, hl⟩ hn⟩
    by_cases hcut : U < s.share.command
    · have hr : readUpper s = sendSetpoint (setCommand U (readU (decideMode s))) := by
        simp [readUpper, ht, hs, hload, hlu, hcut]
      have hne : U ≠ s.share.command := by omega
      have hcmd : s.share.command ≠ 0 := by omega
      rw [hr]
      by_cases hend : s.seq.state = .leaving ∧ U = 0
      · have he : setCommand U (readU (decideMode s)) = endLeave { readU (decideMode s) with
            share := { (readU (decideMode s)).share with command := 0 } } := by
          unfold setCommand
          simp [hend, Ne.symm hcmd, standbyOnCommand]
        rw [he]
        refine ⟨?_, ?_, fun hn => absurd ?_ hn, ?_, ?_, fun hn => ?_⟩
        · simp [hend.2]
        · rw [if_pos ⟨hend.1, hcmd, hend.2⟩]; simp
        · simp
        · rw [if_pos hcut]; simp
        · rw [if_neg (fun hx => hx.2.1 hend.2)]; simp
        · simp at hn
      · have hnz : s.seq.state = .leaving → U ≠ 0 := fun h1 h2 => hend ⟨h1, h2⟩
        rw [setCommand_stays (by simpa using hne) (by simpa using hnz)]
        refine ⟨?_, ?_, fun _ => ⟨?_, ?_⟩, ?_, ?_, fun hn => ?_⟩
        · simp; omega
        · have : ¬ (s.seq.state = .leaving ∧ s.share.command ≠ 0 ∧ U = 0) := fun hx => hend ⟨hx.1, hx.2.2⟩
          simp [if_neg this]
        · simpa using hlu
        · rw [← hu]; refine upperLimit_congr ?_ ?_ ?_ ?_ ?_ <;> simp
        · rw [if_pos hcut]; simp
        · simp [hcut]
        · have hrun : s.seq.state = .running := by simpa using hn
          by_cases h0 : U = 0 <;> simp [hrun, h0, hcmd, standbyTime, minutes, apply_ite (· * 60000)]
    · have hr : readUpper s = readU (decideMode s) := by
        simp [readUpper, ht, hs, hload, hlu, hcut]
      rw [hr]
      have h0 : ¬ (s.share.command ≠ 0 ∧ U = 0) := by omega
      refine ⟨?_, ?_, fun _ => ⟨hlu, hu⟩, ?_, ?_, fun _ => ?_⟩
      · simp; omega
      · rw [if_neg (fun hx => h0 hx.2)]; simp
      · rw [if_neg hcut]; simp
      · rw [if_neg (fun hx => hcut hx.1)]; simp
      · rw [if_neg h0]; simp
  · refine ⟨fun h1 h2 => absurd ⟨h1, h2⟩ hc, fun _ => ?_⟩
    rcases readUpper_cases s with ⟨_, hr⟩ | ⟨_, hr, _⟩ | ⟨h1, h2, _⟩
    · rw [hr]; simp
    · rw [hr]; simp
    · refine absurd ⟨?_, ?_⟩ hc
      · simp only [Bool.and_eq_true] at h1; exact h1.1
      · revert h2; cases s.seq.state <;> simp [StationState.loaded]

/-! ## The shares (R59) -/

theorem remainderPass_spec (rem : Nat) (xs : List Alloc) (h : ∀ x ∈ xs, x.share ≤ x.room) :
    (remainderPass rem xs).1 + totalShare (remainderPass rem xs).2 = rem + totalShare xs
    ∧ (remainderPass rem xs).2.length = xs.length
    ∧ (∀ x ∈ (remainderPass rem xs).2, x.share ≤ x.room)
    ∧ totalRoom (remainderPass rem xs).2 = totalRoom xs
    ∧ ∀ (i : Nat) (x y : Alloc), xs[i]? = some x → (remainderPass rem xs).2[i]? = some y →
        y.address = x.address ∧ y.room = x.room ∧ x.share ≤ y.share := by
  induction xs generalizing rem with
  | nil => cases rem <;> simp [remainderPass]
  | cons x xs ih =>
    have hx := h x (by simp)
    have hxs : ∀ y ∈ xs, y.share ≤ y.room := fun y hy => h y (by simp [hy])
    cases rem with
    | zero =>
      refine ⟨rfl, rfl, h, rfl, ?_⟩
      intro i a b ha hb
      simp only [remainderPass] at hb
      rw [ha] at hb
      cases hb
      exact ⟨rfl, rfl, Nat.le_refl _⟩
    | succ rem =>
      simp only [remainderPass]
      split
      · next hlt =>
        obtain ⟨h1, h2, h3, h4, h5⟩ := ih rem hxs
        simp only [totalShare, totalRoom, List.map_cons, List.sum_cons, List.length_cons, List.mem_cons, forall_eq_or_imp] at *
        refine ⟨by omega, by omega, ⟨by omega, h3⟩, by omega, ?_⟩
        intro i a b ha hb
        cases i with
        | zero => simp at ha hb; subst ha; subst hb; exact ⟨rfl, rfl, by simp⟩
        | succ i => simp at ha hb; exact h5 i a b ha hb
      · next hlt =>
        obtain ⟨h1, h2, h3, h4, h5⟩ := ih (rem + 1) hxs
        simp only [totalShare, totalRoom, List.map_cons, List.sum_cons, List.length_cons, List.mem_cons, forall_eq_or_imp] at *
        refine ⟨by omega, by omega, ⟨by omega, h3⟩, by omega, ?_⟩
        intro i a b ha hb
        cases i with
        | zero => simp at ha hb; subst ha; subst hb; exact ⟨rfl, rfl, Nat.le_refl _⟩
        | succ i => simp at ha hb; exact h5 i a b ha hb

/-- C without the own command is the sum of the commands that count (R54). -/
theorem peerSum_eq_commandsOf (view : List Entry) (k : Kind) : peerSum view k = commandsOf view k := rfl

/-- An entry is a party exactly where it takes part with those values (R21, R55). -/
theorem party_eq_some_iff (k : Kind) (e : Entry) (p : Party) : e.party k = some p ↔ TakesPart k e p := by
  unfold Entry.party TakesPart
  cases e.fields with
  | train f =>
    by_cases h : e.status = .present ∧ f.kind = k ∧ e.state = .running ∧ f.available = true ∧ f.held = false ∧ f.minLoad ≤ f.upper
    · simp only [if_pos h, Option.some.injEq, Fields.train.injEq]
      constructor
      · rintro rfl; exact ⟨f, rfl, h.1, h.2.1, h.2.2.1, h.2.2.2.1, h.2.2.2.2.1, h.2.2.2.2.2, rfl⟩
      · rintro ⟨_, rfl, _, _, _, _, _, _, rfl⟩; rfl
    · simp only [if_neg h]
      refine ⟨fun hp => (nomatch hp), ?_⟩
      rintro ⟨_, hf, h1, h2, h3, h4, h5, h6, _⟩
      cases hf
      exact absurd ⟨h1, h2, h3, h4, h5, h6⟩ h
  | store f => simp

/-! ## The delivery account (R137 to R139) -/

theorem spanEnergy_eq_energyOf (k : Kind) (output since upto : Nat) : spanEnergy k output since upto = energyOf (some k) output since upto := by
  cases k <;> simp [spanEnergy, energyOf, Kind.sign]

theorem peerSpans_eq_peersEnergy (ps : List PeerPoint) (upto : Nat) : peerSpans ps upto = peersEnergy ps upto := by
  simp only [peerSpans, peersEnergy, spanEnergy_eq_energyOf]

/-- The own span of a station is the energy of its held output. -/
theorem ownEnergyIs_iff (s : State) (upto : Nat) (span : Int) :
    OwnEnergyIs s upto span ↔ span = ownSpan s.ownKind s.account.ownPoint upto := by
  have hk (q : OwnPoint) : spanEnergy s.ownKind q.output q.since upto = energyOf s.inForce.kind q.output q.since upto := by
    rw [spanEnergy_eq_energyOf, State.ownKind]
    cases s.inForce.kind <;> simp [energyOf]
  cases h : s.account.ownPoint <;> simp [OwnEnergyIs, ownSpan, h, hk]

/-- A peer's energy is added while an interval is open. -/
theorem addPlant_plantAcc (a : Account) (e : Int) : (a.addPlant e).plantAcc = a.plantAcc + (if a.openRec = none then 0 else e) := by
  unfold Account.addPlant; cases h : a.openRec <;> simp

/-- The only point of an address is the one found. -/
theorem findPoint_of_only {ps : List PeerPoint} {p : PeerPoint} (h : OnlyPoint ps p) : findPoint ps p.address = some p := by
  unfold findPoint
  cases hf : ps.find? fun q => q.address == p.address with
  | none => exact absurd (List.find?_eq_none.mp hf p h.1) (by simp)
  | some q => rw [h.2 q (List.mem_of_find?_eq_some hf) (by simpa using List.find?_some hf)]

/-! ## The modes in force (R121) -/

@[simp] theorem deriveModes_native (i : Items) : (deriveModes i).native = .latch := rfl

@[simp] theorem deriveInForce_native (i : Items) : (deriveInForce i).modes.native = .latch := rfl

/-! ## A list of the book (R32) -/

/-- How many parts of an entry lie outside a range. -/
theorem trimEntry_length (f c : Nat) (hc : 1 ≤ c) (e : BookEntry) (h : 1 ≤ e.count) :
    (trimEntry f (f + c - 1) e).length = (if e.first < f then 1 else 0) + (if f + c < e.first + e.count then 1 else 0) := by
  unfold trimEntry
  by_cases hm : e.meets f (f + c - 1) = true
  · rw [if_pos hm, List.length_append, apply_ite List.length, apply_ite List.length]
    have : (f + c - 1 < e.last) = (f + c < e.first + e.count) := by unfold BookEntry.last; apply propext; omega
    simp only [this, List.length_cons, List.length_nil]
  · rw [if_neg hm]
    have hm : ¬ (e.first ≤ f + c - 1 ∧ f ≤ e.first + e.count - 1) := fun h' => hm (by simp [BookEntry.meets, BookEntry.last, h'])
    by_cases h1 : e.first < f
    · rw [if_pos h1, if_neg (by omega)]; rfl
    · rw [if_neg h1, if_pos (by omega)]; rfl

/-- How many entries a trimmed list holds. -/
theorem trimList_length (f c : Nat) (hc : 1 ≤ c) (es : List BookEntry) (h : ∀ e ∈ es, 1 ≤ e.count) :
    (trimList f (f + c - 1) es).length = entriesLeft f c es := by
  induction es with
  | nil => rfl
  | cons e es ih =>
    have ht := ih fun x hx => h x (by simp [hx])
    simp only [trimList, List.flatMap_cons, List.length_append, entriesLeft, List.map_cons, List.sum_cons] at ht ⊢
    rw [ht, trimEntry_length f c hc e (h e (by simp))]

/-- An insertion adds one entry. -/
theorem insertEntry_length (e : BookEntry) (es : List BookEntry) : (insertEntry e es).length = es.length + 1 := by
  induction es with
  | nil => rfl
  | cons x xs ih => unfold insertEntry; split <;> simp [ih]

/-! ## The items of QUERY STATE -/

/-- A heat reservation that fits its field is shown as it is. -/
theorem reservationField_fits {n : Nat} (h : n < 65536) : reservationField n = bytes2 n := if_pos h

/-- A heat reservation takes two bytes. -/
theorem reservationField_length (n : Nat) : (reservationField n).length = 2 := by unfold reservationField; split <;> rfl

theorem onTrain_of_train {k : Kind} (h : k ≠ .H) (items : List Byte) : onTrain (some k) items = items := by
  cases k <;> first | exact absurd rfl h | rfl

theorem onTrain_of_store (items : List Byte) : onTrain (some .H) items = [] := rfl

/-- The first item of a list is the one asked for. -/
theorem itemValue_fieldItem_self (number : Nat) (value rest : List Byte) (fuel : Nat) (h : value.length < 256) :
    itemValue (byteOf number) (fuel + 1) (fieldItem number value ++ rest) = some value := by
  have : (byteOf value.length).toNat = value.length := by simp [byteOf, Nat.mod_eq_of_lt h]
  simp [fieldItem, itemValue, this]

/-- Another item at the head of a list is passed over. -/
theorem itemValue_fieldItem_skip (n : Byte) (number : Nat) (value rest : List Byte) (fuel : Nat) (h : value.length < 256)
    (hn : byteOf number ≠ n) : itemValue n (fuel + 1) (fieldItem number value ++ rest) = itemValue n fuel rest := by
  have : (byteOf value.length).toNat = value.length := by simp [byteOf, Nat.mod_eq_of_lt h]
  simp [fieldItem, itemValue, this, hn]

end Sys2Proof.Machine
end

