-- ==== Sys2Proof/Tests/Slice0.lean ====
section
/-! SUPPORT. The model's own tests: the ill-formed terms that WellFormed refuses, the spec's worked examples, each command on a small
state, and for each statement a state and operands that meet its hypotheses, clause by clause. -/

namespace Sys2Proof.Tests

open Sys2Proof.Machine

/-! ## Well-formedness -/

theorem test_zones_of_a_store_record :
    Instr.wellFormed (.measure 0 1 (.store (List.replicate 8 0))) = true
    ∧ Instr.wellFormed (.measure 0 1 (.store (List.replicate 7 0))) = false := by decide

theorem test_a_known_record_is_not_unknown :
    Instr.wellFormed (.unknownRequest 0 8 1 []) = false ∧ Instr.wellFormed (.unknownRequest 0 8 1 [0]) = true
    ∧ Instr.wellFormed (.unknownRequest 0 3 1 (List.replicate 11 1)) = false
    ∧ Instr.wellFormed (.unknownRequest 0 3 1 (List.replicate 11 2)) = true := by decide

theorem test_addresses_end_at_15 :
    Instr.wellFormed (.lateDeadline 15) = true ∧ Instr.wellFormed (.lateDeadline 16) = false
    ∧ Instr.wellFormed (.lostDeadline 16) = false ∧ Instr.wellFormed (.lostHoldExpiry 16) = false := by decide

theorem test_blanking_is_of_two_monitors :
    Instr.wellFormed (.blankingTimerExpiry .thermal) = true ∧ Instr.wellFormed (.blankingTimerExpiry .native) = false
    ∧ Instr.wellFormed (.blankingTimerExpiry .stale) = false ∧ Instr.wellFormed (.blankingTimerExpiry .zoneHigh) = false := by decide

/-! ## Small stations -/

def trainItems (k : Kind) : Items :=
  { address := some 2, kind := some k, cavern := some 1, rated := some 400, minLoad := some 120, nativeMin := some 4000,
    nativeMax := some 8000, linked := some 14 }

def storeItems : Items :=
  { address := some 14, kind := some .H, qc := some 300, qd := some 400, sHot := some 500, sCold := some 200 }

/-- A station in OFFLINE with its items set. -/
def configured (i : Items) : State := { now := 1000, items := i, permit := true }

/-- A station in a state after the seal. -/
def station (i : Items) (st : StationState) : State :=
  { now := 1000, items := i, inForce := deriveInForce i, seq := { state := st }, permit := true,
    bank := { cap := i.rated.getD 0 } }

def train (st : StationState) : State := station (trainItems .C) st
def expander (st : StationState) : State := station (trainItems .X) st
def store (st : StationState) : State := station storeItems st

/-- The station with a timed clock. -/
def timed (i : Nat) (s : State) : State := { s with clock := { current := some i, lastPulse := some s.now } }

/-- A peer train's fields, in RUNNING and out of HELD. -/
def peerFields (k : Kind) (command upper minLoad : Nat) : TrainFields :=
  { kind := k, cavern := 1, linked := none, held := false, cooled := false, available := true, clockFree := false, vcode := 19,
    interval := 4294967295, target := none, command := command, output := command, massFlow := 50, heatFlow := 120, upper := upper,
    minLoad := minLoad }

def peer (address : Nat) (k : Kind) (command upper minLoad : Nat) : Entry :=
  { address := address, state := .running, fields := .train (peerFields k command upper minLoad), arrival := 1000,
    relation := .sameCavern, status := .present, holdEnd := none }

def storeEntry (charge discharge outlet : Nat) : Entry :=
  { address := 14, state := .active, fields := .store ⟨false, false, 19, charge, discharge, outlet, 3⟩, arrival := 1000,
    relation := .linkedStore, status := .present, holdEnd := none }

/-- A train with a held record. -/
def measured (s : State) : State := { s with link := { s.link with holder := some ⟨.train 200 50 6000 400 200, 1000⟩ } }

/-- The state a command leads to. -/
def after (s : State) (c : Instr) : State :=
  match exec c s with
  | .next u => u
  | .fault _ => s
  | .refused _ => s

/-- The answer of the owed reply. -/
def answerOf (s : State) : Option Answer := s.link.owed.map Reply.answer

/-- With no kept request and no owed reply every record is a new request. -/
theorem isNew_of_idle {s : State} (h1 : s.link.owed = none) (h2 : s.link.kept = none) (tag : Byte) (r : Request) : IsNew s tag r :=
  ⟨h1, fun k hk => by rw [h2] at hk; cases hk⟩

/-! ## Worked examples of the spec -/

/-- Three compressors share a shortfall, expiries 2 to 7 of the climb back (03). -/
theorem test_shares_of_the_climb_back :
    (shares 60 [⟨2, 280, 0⟩, ⟨5, 280, 0⟩, ⟨9, 400, 0⟩]).map Alloc.share = [18, 17, 25]
    ∧ (shares 40 [⟨2, 270, 0⟩, ⟨5, 270, 0⟩, ⟨9, 400, 0⟩]).map Alloc.share = [12, 11, 17]
    ∧ (shares 8 [⟨2, 254, 0⟩, ⟨5, 254, 0⟩, ⟨9, 400, 0⟩]).map Alloc.share = [3, 2, 3]
    ∧ (shares 3 [⟨2, 251, 0⟩, ⟨5, 252, 0⟩, ⟨9, 400, 0⟩]).map Alloc.share = [1, 1, 1]
    ∧ (shares 1 [⟨2, 250, 0⟩, ⟨5, 251, 0⟩, ⟨9, 400, 0⟩]).map Alloc.share = [1, 0, 0] := by decide

/-- The first expiry of that example: E = −70 and H = 10, address 9 is shed, address 2 falls by 10, address 5 stays (03). -/
theorem test_shed_of_the_highest_at_minimum :
    sharedDesired (-70) [⟨2, 130, 400, 120⟩, ⟨5, 120, 400, 120⟩, ⟨9, 120, 400, 120⟩] 2 130 = 120
    ∧ sharedDesired (-70) [⟨2, 130, 400, 120⟩, ⟨5, 120, 400, 120⟩, ⟨9, 120, 400, 120⟩] 5 120 = 120
    ∧ sharedDesired (-70) [⟨2, 130, 400, 120⟩, ⟨5, 120, 400, 120⟩, ⟨9, 120, 400, 120⟩] 9 120 = 0 := by decide

/-- R61's figures, and R62's ramp steps. -/
theorem test_snap_and_ramp_figures :
    snap 120 60 = 120 ∧ snap 120 59 = 0 ∧ snap 125 63 = 125 ∧ snap 125 62 = 0
    ∧ rampStepOf { ramp := 600, vcode := 19 } = 10 ∧ rampStepOf { ramp := 600, vcode := 0 } = 1
    ∧ rampStepOf { ramp := 600, vcode := 31 } = 16 := by decide

/-- The view of one train, counted (01). -/
theorem test_view_counted :
    let view := [peer 5 .C 250 300 120, { peer 7 .C 180 400 120 with status := .late, relation := .other },
      { peer 9 .C 150 350 120 with fields := .train { peerFields .C 150 350 120 with held := true } },
      { peer 11 .X 0 500 150 with status := .lost },
      { peer 12 .C 160 330 120 with state := .tripped, fields := .train { peerFields .C 160 330 120 with available := false } },
      storeEntry 300 400 480]
    peerSum view .C = 740 ∧ (eligible view .C none).map Party.address = [5] ∧ view.any (·.interlocks .C) = false
    ∧ flowReservation { train .running with view := view } = 150 := by decide

/-- The store cap of one compressor, an expander's store cap and quality caps (05). -/
theorem test_store_caps :
    storeCapOf 300 120 60 400 = 300 ∧ storeCapOf 400 165 110 500 = 213 ∧ storeCapOf 150 120 60 400 = 50
    ∧ qualityCap { station { trainItems .X with rated := some 500, xHot := 520 } .running with view := [storeEntry 0 400 480] } = 437
    ∧ qualityCap { station { trainItems .X with rated := some 500, xHot := 520 } .running with view := [storeEntry 0 400 560] } = 500
    ∧ qualityCap { station { trainItems .X with rated := some 500, xHot := 520 } .running with view := [storeEntry 0 400 295] } = 148 := by
  decide

/-- The zones of the filling store, records 1 to 3 (05). -/
theorem test_zones_of_a_filling_store :
    let z1 := classifyZones 500 200 (List.replicate 8 {}) [540, 530, 515, 470, 300, 220, 205, 190]
    let z2 := classifyZones 500 200 z1 [545, 538, 528, 512, 480, 240, 212, 198]
    let z3 := classifyZones 500 200 z2 [548, 544, 536, 524, 505, 470, 300, 215]
    z1.map Zone.cls = [.hot, .hot, .hot, .warm, .warm, .warm, .warm, .cold]
    ∧ z2.map Zone.cls = [.hot, .hot, .hot, .hot, .warm, .warm, .warm, .cold]
    ∧ z3.map Zone.cls = [.hot, .hot, .hot, .hot, .hot, .warm, .warm, .warm]
    ∧ allowanceOf 1 300 = 150 ∧ allowanceOf 2 300 = 300 ∧ allowanceOf 0 300 = 0 := by decide

/-- A zone stays HOT down to 490 °C (05, records 7 and 8). -/
theorem test_hot_zone_hysteresis :
    classify 500 200 .hot 490 = .hot ∧ classify 500 200 .hot 489 = .warm ∧ classify 500 200 .warm 499 = .warm
    ∧ classify 500 200 .cold 210 = .cold ∧ classify 500 200 .cold 211 = .warm ∧ classify 500 200 .warm 201 = .warm := by decide

/-- Energies in kWh, rounded half away from zero (08). -/
theorem test_kwh_rounds_away_from_zero :
    kWh (-243018000) = -6751 ∧ kWh (-667800000) = -18550 ∧ kWh 18000 = 1 ∧ kWh 17999 = 0 ∧ kWh (-18000) = -1
    ∧ kWh (-667800000) - targetEnergy 15 (-840) = 2450 := by decide

/-- Loading and trimming the nomination list: the fourth, fifth and seventh requests (02). -/
theorem test_trimming_the_nomination_list :
    let l3 : List BookEntry := [⟨1001, 8, -600⟩, ⟨1009, 4, -840⟩, ⟨1013, 12, 900⟩]
    let l4 := insertEntry ⟨1004, 3, -700⟩ (trimList 1004 1006 l3)
    let l5 := insertEntry ⟨1008, 7, 500⟩ (trimList 1008 1014 l4)
    l4 = [⟨1001, 3, -600⟩, ⟨1004, 3, -700⟩, ⟨1007, 2, -600⟩, ⟨1009, 4, -840⟩, ⟨1013, 12, 900⟩]
    ∧ l5 = [⟨1001, 3, -600⟩, ⟨1004, 3, -700⟩, ⟨1007, 1, -600⟩, ⟨1008, 7, 500⟩, ⟨1015, 10, 900⟩]
    ∧ trimList 1010 1011 l5 = [⟨1001, 3, -600⟩, ⟨1004, 3, -700⟩, ⟨1007, 1, -600⟩, ⟨1008, 2, 500⟩, ⟨1012, 3, 500⟩,
        ⟨1015, 10, 900⟩] := by decide

/-- The clock through a lost time source, in ms (02): the early pulse, the deadline, the advance, the pulse in free run. -/
theorem test_clock_through_a_lost_time_source :
    let s := { train .standby with now := 1920000, clock := { current := some 5002, lastPulse := some 1920000 } }
    let s1 := after s (.boundaryPulse 2100000)
    let s2 := after s1 .freeRunDeadline
    let s3 := after s2 .freeRunAdvance
    let s4 := after s3 (.boundaryPulse 3750000)
    s1.clock = s.clock
    ∧ (s2.now, s2.clock) = (3270000, ⟨some 5003, none, some 1920000, some 3270000, true⟩)
    ∧ (s3.now, s3.clock) = (3720000, ⟨some 5004, none, some 1920000, some 3720000, true⟩)
    ∧ s4.clock = ⟨some 5004, none, some 3750000, none, false⟩ := by decide

/-- The retry cut of a compressor, records 2 to 4 (07). -/
theorem test_retry_cut :
    let s := { train .running with
      view := [{ storeEntry 5000 0 500 with relation := .linkedStore }]
      share := { command := 300, lastU := 400 }
      bank := { cap := 400, thermal := ⟨.pending, 2, 0, true⟩ } }
    let s1 := after s (.measure 2000 1 (.train 300 50 6000 615 200))
    let s2 := after { s1 with link := { s1.link with owed := none } } (.measure 3000 2 (.train 250 50 6000 609 200))
    (s1.bank.thermal, s1.bank.cap, s1.share.command) = (⟨.active, 0, 0, true⟩, 250, 250)
    ∧ (s2.bank.thermal, s2.bank.cap, s2.share.command) = (⟨.active, 0, 0, true⟩, 200, 200) := by decide

/-- A store trips on an overheated zone, is refused CLEAR while it is hot, and returns to ACTIVE (07). -/
theorem test_store_trips_and_is_cleared :
    let i := { storeItems with modeZone := .latch, dgZone := 2, storeMax := 560 }
    let s := { station i .active with bank := { zoneHigh := ⟨.pending, 1, 0, true⟩ } }
    let hot : List Half := [566, 500, 500, 500, 300, 300, 200, 200]
    let s1 := after s (.measure 2000 1 (.store hot))
    let s2 := after { s1 with link := { s1.link with owed := none } } (.clear 2100 2)
    let s3 := after { s1 with link := { s1.link with owed := none } } (.measure 3000 3 (.store (557 :: hot.tail)))
    let s4 := after { s3 with link := { s3.link with owed := none } } (.clear 3100 4)
    (s1.seq.state, s1.seq.tripOut, s1.heat.pubCharge) = (.tripped, true, 0)
    ∧ s1.link.reports.map NumberedReport.report = [.trip [.zoneHigh], .stateChange .active .tripped .trip]
    ∧ answerOf s2 = some (.refuse .badState) ∧ s2.seq.state = .tripped
    ∧ (s4.seq.state, s4.seq.tripOut, s4.heat.pubCharge, s4.heat.pubDischarge) = (.active, false, 300, 400) := by decide

/-- Integration across a boundary: the own and peer spans of the interval that closes (08). -/
theorem test_spans_across_a_boundary :
    let s := { train .running with
      now := 900000
      account := { openRec := some { interval := 5001, target := -840 }, ownPoint := some ⟨300, 899400⟩,
                   peerPoints := [⟨5, 250, .C, 899700⟩, ⟨9, 160, .C, 899100⟩, ⟨11, 0, .X, 899500⟩] } }
    (creditAll s).ownAcc = -180000 ∧ (creditAll s).plantAcc = -399000 := by decide

/-- One compressor's status frame (10.5): its bytes before the check. -/
theorem test_bytes_of_a_status_frame :
    Frame.encode (.status ⟨2, some .running, .train
      { kind := .C, cavern := 1, linked := some 14, held := false, cooled := false, available := true, clockFree := false,
        vcode := 19, interval := 5002, target := some (-840), command := 200, output := 200, massFlow := 50, heatFlow := 120,
        upper := 200, minLoad := 120 }⟩)
    = withCheck [1, 2, 1, 1, 14, 4, 4, 19, 0, 0, 19, 138, 252, 184, 0, 200, 0, 200, 0, 50, 0, 120, 0, 200, 0, 120] :=
  congrArg withCheck (by decide)

/-- The check of R164 over the nine digits is the known value of its polynomial and start. -/
theorem test_check_of_the_nine_digits : crc [49, 50, 51, 52, 53, 54, 55, 56, 57] = 0x29B1#16 := by decide +kernel

/-- The three reports at the seal of an untimed compressor (09). -/
theorem test_reports_at_the_seal :
    ((after (configured (trainItems .C)) (.seal 2000 1)).link.reports.map NumberedReport.report
      = [.stateChange .offline .joining .sealed, .held .noTime 0 0, .storeCooled true])
    ∧ answerOf (after (configured (trainItems .C)) (.seal 2000 1)) = some (.accept false) := by decide

/-- The ageing of one entry at v′ = 19 and s = 2 (01). -/
theorem test_ageing_of_one_entry :
    let s := { train .standby with now := 0, heat := { cooled := true }, view := [{ peer 5 .C 0 300 120 with arrival := 0 }] }
    let s1 := after s (.lateDeadline 5)
    let s2 := after s1 (.lostDeadline 5)
    let s3 := after s2 (.lostHoldExpiry 5)
    (s1.now, s1.view.map Entry.status) = (1500, [.late])
    ∧ (s2.now, s2.view.map Entry.holdEnd, s2.link.reports.map NumberedReport.report) = (4000, [some 64000], [.peerLost 5])
    ∧ (s3.now, s3.view) = (64000, []) := by decide

/-- A compressor meets a filling store: it enters cooled mode and is cut to its cooled cap, with a SETPOINT (05). -/
theorem test_cooled_mode_cuts :
    let other : Entry := { peer 5 .C 200 400 120 with
      fields := .train { peerFields .C 200 400 120 with linked := some 14, massFlow := 0 } }
    let s := { measured (train .running) with
      share := { command := 300, lastU := 300 }
      view := [other, storeEntry 300 400 500]
      bus := { rx := [⟨.status ⟨14, some .active, .store ⟨false, false, 19, 150, 400, 500, 7⟩⟩, .linkedStore, 1000⟩] } }
    let u := after s (.applyStatusFrame 2000)
    upperLimit s = 300 ∧ (u.heat.cooled, u.share.lastU, u.share.command) = (true, 120, 120)
    ∧ u.link.setpoint = some ⟨120, true, .running⟩ := by decide

/-- A silent train controller: the stale cap takes the command (07). -/
theorem test_stale_spell_caps_the_command :
    let s := { measured (train .running) with
      heat := { cooled := true }, share := { command := 120, lastU := 120 },
      link := { holder := some ⟨.train 200 50 6000 400 200, 0⟩, staleTimer := some 5000 } }
    let u := after s .staleTimerExpiry
    (u.now, u.bank.stale, u.bank.cap, u.link.staleMark) = (5000, ⟨.active, 0, 0, true⟩, 120, true)
    ∧ u.link.reports.map NumberedReport.report = [.monitorWarn .stale .retry] := by decide

/-- A station that missed a nomination: DISAGREE counts outside the settle window, and sets HELD at 3 (02). -/
theorem test_disagreement_sets_held :
    let s := { timed 5002 (train .standby) with
      book := { target := some 0, agree := false, n := 5, a := 1, settle := 1, persistence := 1 }, share := { timer := some 1000 } }
    let s1 := after s .controlPeriodExpiry
    let s2 := after s1 .controlPeriodExpiry
    let s3 := after s2 .controlPeriodExpiry
    (s1.book.settle, s1.book.persistence, s2.book.persistence, s2.book.held) = (0, 1, 2, none)
    ∧ (s3.book.persistence, s3.book.held) = (3, some .disagree)
    ∧ s3.link.reports.getLast? = some ⟨1, .held .disagree 5 1⟩ := by decide

/-- Overrun: the first drop reports, the second does not, and the mark ends with the queue (01). -/
theorem test_overrun :
    let s := { train .standby with bus := { rx := List.replicate 8 ⟨.alert ⟨11, .trip, {}⟩, .other, 0⟩ } }
    let s1 := enqueue (.alert ⟨12, .trip, {}⟩) s
    let s2 := enqueue (.alert ⟨12, .trip, {}⟩) s1
    (s1.bus.overrun, s1.bus.rx.length, s1.link.reports.length) = (true, 8, 1)
    ∧ s2 = s1 ∧ (removeHead { s1 with bus := { s1.bus with rx := s1.bus.rx.take 1 } }).bus.overrun = false := by decide

/-! ## Each command on a small station -/

theorem test_set_item :
    (after State.reset (.setItem 5 1 9 0 20000)).items.ramp = 10000
    ∧ answerOf (after State.reset (.setItem 5 1 9 0 20000)) = some (.accept true)
    ∧ (after State.reset (.setItem 5 1 10 0 45)).items.interval = 30
    ∧ answerOf (after State.reset (.setItem 5 1 41 0 0)) = some (.refuse .unknown)
    ∧ answerOf (after (train .standby) (.setItem 5 1 9 0 5)) = some (.refuse .badState) := by decide

theorem test_seal_refused_incomplete :
    answerOf (after State.reset (.seal 5 1)) = some (.refuse .incomplete)
    ∧ answerOf (after (configured { trainItems .C with nativeMax := some 4000 }) (.seal 5 1)) = some (.refuse .incomplete) := by decide

theorem test_measure_of_the_other_kind :
    answerOf (after (store .active) (.measure 5 1 (.train 0 0 0 0 0))) = some (.refuse .badKind)
    ∧ answerOf (after (train .standby) (.measure 5 1 (.store (List.replicate 8 0)))) = some (.refuse .badKind) := by decide

theorem test_set_time :
    (after (train .standby) (.setTime 5 1 4294967295)).clock.pending = some 4294967294
    ∧ answerOf (after (store .active) (.setTime 5 1 4)) = some (.refuse .badKind) := by decide

theorem test_nominate_clamps_and_refuses :
    (after (timed 1000 (train .standby)) (.nominate 5 1 1030 200 (BitVec.ofInt 16 (-3500)))).book.noms = [⟨1030, 96, -3000⟩]
    ∧ answerOf (after (timed 1000 (train .standby)) (.nominate 5 1 1000 1 0)) = some (.refuse .tooLate)
    ∧ answerOf (after (train .standby) (.nominate 5 1 1000 1 0)) = some (.refuse .noTime) := by decide

theorem test_order_marks_the_current_interval :
    (after (timed 1000 (train .standby)) (.order 5 1 1000 1 150)).book.orderChanged = true
    ∧ (after (timed 1000 (train .standby)) (.order 5 1 1001 1 150)).book.orderChanged = false := by decide

theorem test_cancel_splits_an_entry :
    let s := timed 1000 (train .standby)
    (after { s with book := { noms := [⟨1008, 7, 500⟩] } } (.cancel 5 1 1 1010 2)).book.noms = [⟨1008, 2, 500⟩, ⟨1012, 3, 500⟩]
    ∧ answerOf (after s (.cancel 5 1 3 1010 2)) = some (.refuse .unknown) := by decide

theorem test_leave_at_once_and_later :
    (after (train .standby) (.leave 5 1)).seq.state = .offline
    ∧ (after (train .standby) (.leave 5 1)).link.setpoint = some ⟨0, false, .offline⟩
    ∧ (after { train .running with share := { command := 200 } } (.leave 5 1)).seq.state = .leaving
    ∧ answerOf (after (train .joining) (.leave 5 1)) = some (.refuse .badState) := by decide

theorem test_restart_keeps_the_log :
    let r := completeRecord { interval := 4951, target := -840 } 0 0 15 false false
    let u := after { train .running with account := { log := [r] } } (.restart 5 1)
    u.account.log = [r] ∧ u.seq.state = .offline ∧ u.items = {} ∧ answerOf u = some (.accept false) := by decide

theorem test_query_book_and_log :
    answerOf (after { train .standby with book := { orders := [⟨7, 1, -1⟩] } } (.queryBook 5 1 2 0))
      = some (.data [1, 0, 0, 0, 7, 0, 1, 255, 255])
    ∧ answerOf (after (train .standby) (.readLog 5 1)) = some (.data [0])
    ∧ answerOf (after (train .standby) (.releaseLog 5 1 3)) = some (.accept true) := by decide

theorem test_query_state_and_peer :
    (answerOf (after (train .standby) (.queryState 5 1))).isSome = true
    ∧ answerOf (after (train .standby) (.queryPeer 5 1 16)) = some (.data [0]) := by decide

theorem test_repeat_unknown_and_damaged_records :
    let s := after (train .standby) (.readLog 5 1)
    let sent := { s with link := { s.link with owed := none } }
    (after sent (.repeatRequest 6)).link.owed = s.link.owed
    ∧ (after s (.repeatRequest 6)).link.faults = 1
    ∧ answerOf (after (train .standby) (.unknownRequest 5 99 1 [])) = some (.refuse .unknown)
    ∧ (after (train .standby) (.linkRecordDiscarded 5 [1, 2, 3])).link.faults = 1 := by decide

theorem test_transmitter :
    let s := after (train .standby) (.leave 5 1)
    let s1 := after s (.linkTransmit 6)
    let s2 := after s1 (.linkRecordSent 7)
    let s3 := after s2 (.linkTransmit 8)
    (s1.link.sending.map Sending.isReply, s2.link.owed, s2.link.sending.isSome) = (some true, none, false)
    ∧ (s3.link.sending.map Sending.isReply, s3.link.setpoint, s3.link.reports.length) = (some false, none, 1) := by decide +kernel

theorem test_power_on_reset : (after (train .running) (.powerOnReset 5)).seq = State.reset.seq := by decide

theorem test_permit_removed :
    (after (train .starting) (.permitChange 5 false)).seq.state = .standby
    ∧ (after (train .joining) (.permitChange 5 false)).seq.state = .joining
    ∧ (after { train .leaving with share := { command := 200 } } (.permitChange 5 false)).seq.state = .offline := by decide

theorem test_frame_arrival :
    (after (train .standby) (.frameArrival 5 (Frame.encode (.alert ⟨2, .trip, {}⟩)))).seq.state = .conflict
    ∧ (after (train .standby) (.frameArrival 5 (Frame.encode (.alert ⟨9, .trip, {}⟩)))).bus.rx = [⟨.alert ⟨9, .trip, {}⟩, .other, 1000⟩]
    ∧ (after (train .standby) (.frameArrival 5 [3, 9, 1])).bus.rx = [] := by decide +kernel

theorem test_alerts :
    let s := { train .standby with view := [peer 9 .C 200 400 120] }
    let trip := after { s with bus := { rx := [⟨.alert ⟨9, .trip, {}⟩, .sameCavern, 1000⟩] } } (.applyAlert 1000)
    let conflict := after { s with bus := { rx := [⟨.alert ⟨9, .conflict, {}⟩, .sameCavern, 1000⟩] } } (.applyAlertConflict 1000)
    trip.view.map Entry.state = [.tripped]
    ∧ (conflict.view.map Entry.status, conflict.view.map Entry.holdEnd) = ([.lost], [some 61000]) := by decide

theorem test_bus_takes_and_ends :
    let s := { train .standby with bus := { pendingAlert := some ⟨2, .trip, {}⟩ } }
    let s1 := after s (.busTakeFrame 5)
    (s1.bus.pendingAlert, s1.bus.onBus.isSome, (after s1 (.frameTransmissionEnd 6)).bus.onBus) = (none, true, none) := by decide

theorem test_status_timer :
    let u := after { train .standby with bus := { statusTimer := some 2000 } } .statusTimerExpiry
    (u.now, u.bus.statusTimer, u.bus.pendingStatus.isSome) = (2000, some 3000, true)
    ∧ (after { store .leaving with bus := { statusTimer := some 2000 }, seq := { state := .leaving, leaveCount := 2 } }
        .statusTimerExpiry).seq.state = .offline := by decide

/-- A compressor in RUNNING at command 200 with target −300 alone on the plant rises by its ramp step; out of direction it falls. -/
theorem test_control_period :
    let s := { timed 7 (measured (train .running)) with
      heat := { cooled := true }, share := { command := 200, timer := some 1000 }, seq := { state := .running, available := true }
      items := trainItems .C, view := [storeEntry 5000 0 500] }
    (after { s with book := { noms := [⟨7, 1, -300⟩], target := some (-300) } } .controlPeriodExpiry).share.command = 210
    ∧ (after { s with book := { noms := [⟨7, 1, 300⟩], target := some 300 } } .controlPeriodExpiry).share.command = 190 := by decide

theorem test_sequencer_timers :
    (after { train .joining with seq := { state := .joining, joinTimer := some 2000 } } .joinTimerExpiry).seq.state = .standby
    ∧ (after { store .joining with seq := { state := .joining, joinTimer := some 2000 } } .joinTimerExpiry).seq.state = .active
    ∧ (after { train .starting with seq := { state := .starting, startTimer := some 2000 } } .startTimerExpiry).seq
        = { state := .running, standbyTimer := some 1802000 }
    ∧ (after { train .running with seq := { state := .running, standbyTimer := some 2000 } } .standbyTimerExpiry).seq.state = .standby
    ∧ (after { train .running with bank := { blankThermal := some 2000 } } (.blankingTimerExpiry .thermal)).bank.blankThermal = none := by
  decide

/-! ## Hypotheses met

For each statement with hypotheses, a state and operands that meet them all, for each clause, at the ends of its ranges. -/

theorem witness_StepTakesFrontOfQueue : ∃ s : State, s.pending = [] := ⟨State.reset, rfl⟩

theorem witness_EachCommandChangesOnlyItsParts :
    (∃ (c : Instr) (s u : State) (p : Part), c.wellFormed = true ∧ exec c s = .next u ∧ p ∉ mayChange c
      ∧ (s.seq.state = .leaving → u.seq.state = .offline → p ∉ leaveEndParts))
    ∧ ∃ (s u : State) (p : Part), exec .controlPeriodExpiry s = .next u ∧ s.seq.state = .leaving ∧ u.seq.state = .offline
      ∧ p ∉ mayChange .controlPeriodExpiry ∧ p ∉ leaveEndParts :=
  ⟨⟨.lateDeadline 15, State.reset, _, .items, rfl, rfl, by decide, by decide⟩,
    { train .leaving with share := { command := 125, timer := some 1000 } }, _, .items, rfl, rfl, by decide, by decide, by decide⟩

theorem witness_NumericItemsTakenInRange : ∃ row ∈ itemTable, ∃ (s : State) (tag : Byte) (value : Word),
    s.seq.state = .offline ∧ IsNew s tag (.setItem row.item row.monitor value) :=
  ⟨⟨1, 0, 0, 15, fun i n => { i with address := some n }⟩, by simp [itemTable], State.reset, 1, 16, rfl, isNew_of_idle rfl rfl _ _⟩

theorem witness_CodedItemsTaken :
    State.reset.seq.state = .offline ∧ (∀ item monitor value, IsNew State.reset 1 (.setItem item monitor value))
    ∧ (3 : Word).toInt = Kind.H.code ∧ (15 : Word).toInt = (15 : Nat) ∧ (15 : Nat) < 16 ∧ (255 : Word).toInt = 255
    ∧ (4 : Word).toInt = Mode.off.code :=
  ⟨rfl, fun _ _ _ => isNew_of_idle rfl rfl _ _, by decide, by decide, by decide, by decide, by decide⟩

/-- The premises of both statements about the seal of a train, for both kinds. -/
theorem witness_SealStartsTrain :
    (∀ k : Kind, k ≠ .H → ∃ s : State, s.seq.state = .offline ∧ IsNew s 1 .seal ∧ s.items.kind = some k ∧ s.items.address = some 2
      ∧ s.items.cavern = some 1 ∧ s.items.rated = some 400 ∧ s.items.minLoad = some 120 ∧ s.items.nativeMin = some 4000
      ∧ s.items.nativeMax = some 8000 ∧ 4000 < 8000)
    ∧ (configured (trainItems .C)).clock.current = none ∧ (configured (trainItems .C)).account.openRec = none
    ∧ (timed 7 (configured (trainItems .C))).clock.current = some 7
    ∧ (∃ s : State, s.items = trainItems .C ∧ s.account.openRec ≠ none)
    ∧ (configured (trainItems .C)).view = [] ∧ (configured (trainItems .C)).link.reports.length + 3 ≤ 16 :=
  ⟨fun k _ => ⟨configured (trainItems k), rfl, isNew_of_idle rfl rfl _ _, rfl, rfl, rfl, rfl, rfl, rfl, rfl, by decide⟩, rfl, rfl, rfl,
    ⟨{ configured (trainItems .C) with account := { openRec := some { interval := 7, target := 0 } } }, rfl, by decide⟩, rfl, by decide⟩

/-- Working limits kept and replaced, thresholds kept and brought apart at the edges 779 and 780. -/
theorem witness_SealDerivesTrainLimits :
    let s := configured { trainItems .X with workMin := some 4500, workMax := some 4500, xHot := 800, xCold := 780 }
    s.seq.state = .offline ∧ IsNew s 1 .seal ∧ Kind.X ≠ .H ∧ s.items.kind = some .X ∧ s.items.address = some 2
    ∧ s.items.cavern = some 1 ∧ s.items.rated = some 400 ∧ s.items.minLoad = some 120 ∧ s.items.nativeMin = some 4000
    ∧ s.items.nativeMax = some 8000
    ∧ 4500 = (match s.items.workMin with | none => 4000 | some x => max 4000 (min x 8000))
    ∧ 4500 = (match s.items.workMax with | none => 8000 | some x => max 4000 (min x 8000))
    ∧ ¬ 4500 < 4500 ∧ (4500 : Nat) < 4501 ∧ ¬ s.items.xCold + 20 < s.items.xHot ∧ 779 < s.items.xCold
    ∧ ¬ (779 : Nat) + 20 < 799 ∧ (779 : Nat) ≤ 779 ∧ (779 : Nat) + 20 < 800 :=
  ⟨rfl, isNew_of_idle rfl rfl _ _, by decide, rfl, rfl, rfl, rfl, rfl, rfl, rfl, by decide, by decide, by decide, by decide, by decide,
    by decide, by decide, by decide, by decide⟩

theorem witness_SealStartsStore :
    let s := configured storeItems
    s.seq.state = .offline ∧ IsNew s 1 .seal ∧ s.items.kind = some .H ∧ s.items.address = some 14 ∧ s.items.qc = some 300
    ∧ s.items.qd = some 400 ∧ s.items.sHot = some 500 ∧ s.items.sCold = some 200 ∧ 200 + 20 < 500
    ∧ ¬ (779 : Nat) + 20 < 799 ∧ ¬ (780 : Nat) + 20 < 800 ∧ s.link.reports.length < 16 :=
  ⟨rfl, isNew_of_idle rfl rfl _ _, rfl, rfl, rfl, rfl, rfl, rfl, by decide, by decide, by decide, by decide⟩

theorem witness_ConfigurationRefusals :
    (∀ item monitor value, IsNew (train .standby) 1 (.setItem item monitor value))
    ∧ (∀ r : Request, IsNew (train .standby) 1 r) ∧ (∀ r : Request, IsNew (store .active) 1 r) ∧ (∀ r : Request, IsNew State.reset 1 r)
    ∧ NamesNothing 41 0 0 ∧ ¬ NamesNothing 40 0 0 ∧ (train .standby).seq.state ≠ .offline
    ∧ State.reset.items.address = none
    ∧ (∃ lo hi, (configured { trainItems .C with nativeMax := some 4000 }).items.nativeMin = some lo
        ∧ (configured { trainItems .C with nativeMax := some 4000 }).items.nativeMax = some hi ∧ hi ≤ lo)
    ∧ (List.replicate 7 (0 : Half)).length ≠ 8 ∧ (MeasureForm.store (List.replicate 8 0)).wellFormed = true
    ∧ (store .active).isStore = true ∧ (train .standby).isTrain = true :=
  ⟨fun _ _ _ => isNew_of_idle rfl rfl _ _, fun _ => isNew_of_idle rfl rfl _ _, fun _ => isNew_of_idle rfl rfl _ _,
    fun _ => isNew_of_idle rfl rfl _ _, by unfold NamesNothing; decide, by unfold NamesNothing; decide, by decide, rfl,
    ⟨4000, 4000, rfl, rfl, by decide⟩, by decide, by decide, by decide, by decide⟩

/-- A train's record with an open interval and a held output, and one whose read of U ends a leave. -/
theorem witness_TrainMeasureTaken :
    let s := { train .running with account := { openRec := some { interval := 7, target := 0 }, ownPoint := some ⟨200, 900⟩ } }
    s.isTrain = true ∧ s.seq.state ≠ .offline ∧ IsNew s 1 (.measure (.train 2500 1000 25000 800 1000)) ∧ s.account.openRec ≠ none
    ∧ s.account.ownPoint = some ⟨200, 900⟩ ∧ (train .standby).account.openRec = none
    ∧ (after { train .leaving with share := { command := 200, lastU := 200 } } (.measure 2000 1 (.train 0 0 9000 0 0))).seq.state
        = .offline :=
  ⟨by decide, by decide, isNew_of_idle rfl rfl _ _, by decide, rfl, rfl, by decide⟩

theorem witness_StoreMeasureClassesZones :
    let s := { store .active with heat := {} }
    s.isStore = true ∧ s.seq.state ≠ .offline ∧ IsNew s 1 (.measure (.store (List.replicate 8 500)))
    ∧ (List.replicate 8 (500 : Half)).length = 8 ∧ s.heat.zones.length = 8 ∧ s.inForce.hot = some 500 ∧ s.inForce.cold = some 200
    ∧ 200 + 20 < 500 :=
  ⟨by decide, by decide, isNew_of_idle rfl rfl _ _, by decide, by decide, by decide, by decide, by decide⟩

/-- R87's rows are met one by one at the ends of their ranges and do not overlap. -/
theorem witness_ZoneRule_rows :
    ZoneRule 221 200 .hot 221 .hot ∧ ZoneRule 221 200 .hot 211 .hot ∧ ZoneRule 221 200 .cold 211 .warm
    ∧ ZoneRule 221 200 .cold 210 .cold ∧ ZoneRule 221 200 .hot 201 .warm ∧ ZoneRule 221 200 .hot 200 .cold
    ∧ ZoneRule 500 200 .hot 489 .warm ∧ ZoneRule 500 200 .cold 211 .warm := by
  simp [ZoneRule]

theorem witness_SetTimeWaitsForPulse :
    (∀ n, IsNew State.reset 1 (.setTime n)) ∧ State.reset.seq.state = .offline ∧ (∀ n, IsNew (store .active) 1 (.setTime n))
    ∧ (store .active).seq.state ≠ .offline ∧ (store .active).isStore = true ∧ (∀ n, IsNew (train .joining) 1 (.setTime n))
    ∧ (train .joining).seq.state ≠ .offline ∧ (train .joining).isTrain = true ∧ (train .joining).clock.current = none :=
  ⟨fun _ => isNew_of_idle rfl rfl _ _, rfl, fun _ => isNew_of_idle rfl rfl _ _, by decide, by decide,
    fun _ => isNew_of_idle rfl rfl _ _, by decide, by decide, rfl⟩

theorem listLaw_nil : ListLaw [] := ⟨by simp, List.Pairwise.nil⟩

/-- The greatest list that leaves room for a split and a new entry, and the ends of the range of intervals. -/
theorem witness_NominateCoversItsRange :
    let s := timed 4294967293 (train .standby)
    s.isTrain = true ∧ s.seq.state ≠ .offline ∧ IsNew s 1 (.nominate 4294967295 0 0) ∧ s.clock.current = some 4294967293
    ∧ ListLaw s.book.noms ∧ 4294967294 = min (4294967295 : Word).toNat 4294967294 ∧ 1 = takenCount 4294967294 (0 : Half).toNat
    ∧ 4294967293 < 4294967294 ∧ s.book.noms.length + 2 ≤ 32 ∧ takenCount 8 96 = 96 ∧ takenCount 8 97 = 96 ∧ takenCount 8 1 = 1 :=
  ⟨by decide, by decide, isNew_of_idle rfl rfl _ _, rfl, listLaw_nil, by decide, by decide, by decide, by decide, by decide, by decide,
    by decide⟩

theorem witness_OrderCoversItsRange :
    let s := timed 7 (train .standby)
    s.isTrain = true ∧ s.seq.state ≠ .offline ∧ IsNew s 1 (.order 7 1 0) ∧ s.clock.current = some 7 ∧ ListLaw s.book.orders
    ∧ 7 = min (7 : Word).toNat 4294967294 ∧ 1 = takenCount 7 (1 : Half).toNat ∧ 7 ≤ 7 ∧ s.book.orders.length + 2 ≤ 16 :=
  ⟨by decide, by decide, isNew_of_idle rfl rfl _ _, rfl, listLaw_nil, by decide, by decide, by decide, by decide⟩

theorem witness_CancelClearsItsRange :
    let s := { timed 7 (train .standby) with book := { noms := [⟨8, 1, 5⟩], orders := [⟨7, 1, 5⟩] } }
    s.isTrain = true ∧ s.seq.state ≠ .offline ∧ s.clock.current = some 7 ∧ 8 = min (8 : Word).toNat 4294967294
    ∧ 1 = takenCount 8 (1 : Half).toNat ∧ (∀ l, IsNew s 1 (.cancel l 8 1)) ∧ ListLaw s.book.noms ∧ 7 < 8
    ∧ s.book.noms.length + 1 ≤ 32 ∧ ListLaw s.book.orders ∧ 7 ≤ 7 ∧ s.book.orders.length + 1 ≤ 16
    ∧ coveringEntry s.book.orders 7 ≠ none ∧ (∀ j, 9 ≤ j → j < 9 + 1 → coveringEntry s.book.noms j = none) := by
  refine ⟨by decide, by decide, rfl, by decide, by decide, fun _ => isNew_of_idle rfl rfl _ _, ⟨by simp, by simp⟩, by decide,
    by decide, ⟨by simp, by simp⟩, by decide, by decide, by decide, ?_⟩
  intro j h1 h2
  obtain rfl : j = 9 := by omega
  decide

/-- The four refusals in their order, a full list, and the replacement of one of its entries. -/
theorem witness_BookRequestRefusals :
    let full := (List.range 32).map fun k => (⟨10 + k, 1, 5⟩ : BookEntry)
    let s := { timed 7 (train .standby) with book := { noms := full } }
    (State.reset.seq.state = .offline ∧ (∀ r, IsNew State.reset 1 r))
    ∧ ((store .active).seq.state ≠ .offline ∧ (store .active).isStore = true ∧ (∀ r, IsNew (store .active) 1 r))
    ∧ ((train .standby).seq.state ≠ .offline ∧ (train .standby).isStore = false ∧ (train .standby).clock.current = none
        ∧ ∀ r, IsNew (train .standby) 1 r)
    ∧ s.clock.current = some 7 ∧ s.seq.state ≠ .offline ∧ s.isStore = false ∧ (∀ r, IsNew s 1 r)
    ∧ min (7 : Word).toNat 4294967294 ≤ 7 ∧ min (6 : Word).toNat 4294967294 < 7 ∧ 7 < min (10 : Word).toNat 4294967294
    ∧ s.book.noms.length = 32
    ∧ (∃ e ∈ s.book.noms, e.first = min (10 : Word).toNat 4294967294
        ∧ e.count = takenCount (min (10 : Word).toNat 4294967294) (1 : Half).toNat)
    ∧ 7 < min (42 : Word).toNat 4294967294
    ∧ (∀ e ∈ s.book.noms, e.first + e.count ≤ min (42 : Word).toNat 4294967294
        ∨ min (42 : Word).toNat 4294967294 + takenCount (min (42 : Word).toNat 4294967294) (1 : Half).toNat ≤ e.first)
    ∧ (∀ e ∈ s.book.noms, 1 ≤ e.count) ∧ (∀ e ∈ s.book.noms, 1 ≤ e.count ∧ e.count ≤ 96 ∧ -3000 ≤ e.amount ∧ e.amount ≤ 3000
        ∧ e.first + e.count ≤ 4294967295) :=
  ⟨⟨rfl, fun _ => isNew_of_idle rfl rfl _ _⟩, ⟨by decide, by decide, fun _ => isNew_of_idle rfl rfl _ _⟩,
    ⟨by decide, by decide, rfl, fun _ => isNew_of_idle rfl rfl _ _⟩, rfl, by decide, by decide, fun _ => isNew_of_idle rfl rfl _ _,
    by decide, by decide, by decide, by decide, by decide, by decide, by decide, by decide, by decide⟩

theorem witness_full_list_law : ListLaw ((List.range 32).map fun k => (⟨10 + k, 1, 5⟩ : BookEntry)) := by
  unfold ListLaw; decide

/-- The edges of BOOK_FULL in each list: a split of the last entry, a trim at its end, its replacement, and a range that meets none. -/
theorem witness_BookRequestRefusals_edges :
    let noms := ((List.range 31).map fun k => (⟨20 + k, 1, 5⟩ : BookEntry)) ++ [⟨100, 3, 5⟩]
    let orders := ((List.range 15).map fun k => (⟨20 + k, 1, 5⟩ : BookEntry)) ++ [⟨100, 3, 5⟩]
    let s := { timed 7 (train .standby) with book := { noms := noms, orders := orders } }
    (s.clock.current = some 7 ∧ s.seq.state ≠ .offline ∧ s.isStore = false ∧ (101 : Nat) = min (101 : Word).toNat 4294967294
      ∧ 1 = takenCount 101 (1 : Half).toNat ∧ ListLaw s.book.noms ∧ ListLaw s.book.orders)
    ∧ (entriesLeft 101 1 noms = 33 ∧ entriesLeft 100 1 noms = 32 ∧ entriesLeft 100 3 noms + 1 = 32 ∧ entriesLeft 200 1 noms + 1 = 33)
    ∧ (entriesLeft 101 1 orders = 17 ∧ entriesLeft 100 1 orders = 16 ∧ entriesLeft 100 3 orders + 1 = 16
      ∧ entriesLeft 200 1 orders + 1 = 17) :=
  ⟨⟨rfl, by decide, by decide, by decide, by decide, by unfold ListLaw; decide, by unfold ListLaw; decide⟩, by decide, by decide⟩

theorem witness_ClearUnlatches :
    (∀ s : State, s.link.owed = none → s.link.kept = none → IsNew s 1 .clear) ∧ State.reset.seq.state = .offline
    ∧ (∃ s : State, s.link.owed = none ∧ s.link.kept = none ∧ s.seq.state = .tripped
        ∧ ∃ m, (s.bank.monitor m).cond = .latched ∧ (s.bank.monitor m).mark = true)
    ∧ (∃ s : State, s.link.owed = none ∧ s.link.kept = none ∧ s.seq.state = .tripped ∧ (s.bank.monitor .native).cond = .latched
        ∧ ∀ m, (s.bank.monitor m).cond = .latched → (s.bank.monitor m).mark = false)
    ∧ (train .running).seq.state ≠ .offline ∧ (train .running).seq.state ≠ .tripped ∧ (train .running).link.owed = none :=
  ⟨fun _ h1 h2 => isNew_of_idle h1 h2 _ _, rfl,
    ⟨{ train .tripped with bank := { native := ⟨.latched, 0, 0, true⟩ } }, rfl, rfl, rfl, .native, by decide, by decide⟩,
    ⟨{ train .tripped with bank := { native := ⟨.latched, 0, 0, false⟩ } }, rfl, rfl, rfl, by decide, fun m => by cases m <;> decide⟩,
    by decide, by decide, rfl⟩

/-- A tripped store whose latch has gone, and a store in ACTIVE. -/
theorem witness_ClearUnlatches_store :
    let s := { store .tripped with bank := { zoneHigh := ⟨.latched, 0, 0, false⟩, stale := ⟨.active, 0, 0, true⟩ } }
    IsNew s 1 .clear ∧ s.seq.state = .tripped ∧ s.isStore = true
    ∧ (∀ m, (s.bank.monitor m).cond = .latched → (s.bank.monitor m).mark = false)
    ∧ (store .active).seq.state ≠ .offline ∧ (store .active).seq.state ≠ .tripped ∧ (after (store .active) (.clear 5 1)).seq.state = .active :=
  ⟨isNew_of_idle rfl rfl _ _, rfl, rfl, (fun m => by cases m <;> decide), by decide, by decide, by decide⟩

theorem witness_LeaveByState :
    (∀ st, IsNew (train st) 1 .leave ∧ IsNew (store st) 1 .leave ∧ (train st).seq.state = st ∧ (store st).seq.state = st
      ∧ (train st).share.command = 0 ∧ (train st).isTrain = true ∧ (store st).isStore = true)
    ∧ (∃ s : State, IsNew s 1 .leave ∧ s.seq.state = .running ∧ s.share.command ≠ 0)
    ∧ (∃ (s : State) (e : BookEntry) (o : OpenRecord), s.seq.state = .standby ∧ s.clock.current = some 7
        ∧ coveringEntry s.book.noms 7 = some e ∧ s.account.openRec = some o) :=
  ⟨fun _ => ⟨isNew_of_idle rfl rfl _ _, isNew_of_idle rfl rfl _ _, rfl, rfl, rfl, rfl, rfl⟩,
    ⟨{ train .running with share := { command := 1 } }, isNew_of_idle rfl rfl _ _, rfl, by decide⟩,
    ⟨{ timed 7 (train .standby) with
        book := { noms := [⟨7, 1, 5⟩] }, account := { openRec := some { interval := 7, target := 5 } } }, ⟨7, 1, 5⟩,
      { interval := 7, target := 5 }, rfl, rfl, by decide, rfl⟩⟩

theorem witness_RestartKeepsOnlyLog : IsNew (train .running) 1 .restart := isNew_of_idle rfl rfl _ _

theorem witness_QueryStateShowsStation :
    IsNew (measured (train .running)) 1 .queryState ∧ CapacityLaw (measured (train .running))
    ∧ (∀ zones r, (measured (train .running)).link.holder = some ⟨.store zones, r⟩ → zones.length = 8)
    ∧ (measured (train .running)).items.kind = some .C
    ∧ (measured (train .running)).link.holder = some ⟨.train 200 50 6000 400 200, 1000⟩
    ∧ IsNew (store .active) 1 .queryState ∧ CapacityLaw (store .active) ∧ (store .active).items.kind = some .H
    ∧ (store .active).link.holder = none :=
  ⟨isNew_of_idle rfl rfl _ _, by unfold CapacityLaw; decide, fun zones r h => by simp [measured] at h, rfl, rfl,
    isNew_of_idle rfl rfl _ _, by unfold CapacityLaw; decide, rfl, rfl⟩

/-- Each timer alone and after the others, both blanking timers, an open record, a linked store, a clock, a store's held record, and the kind unset. -/
theorem witness_QueryStateShowsStation_fields :
    (∀ d : Nat, d < 4294968296 → d - max (train .running).now 1000 < 4294967296)
    ∧ (∀ seq : Seq, ∃ s : State, IsNew s 1 .queryState ∧ CapacityLaw s ∧ s.seq = seq ∧ s.items.kind = some .X ∧ s.link.holder = none
        ∧ s.bank.blankThermal = some 2000 ∧ s.bank.blankMargin = some 2000 ∧ s.account.openRec = some { interval := 7, target := 5 }
        ∧ linkedStore s = some ⟨false, false, 19, 1, 2, 3, 3⟩ ∧ heatReservation s < 65536)
    ∧ (∃ s : State, IsNew s 1 .queryState ∧ s.link.holder = some ⟨.store (List.replicate 8 500), 1000⟩ ∧ s.items.kind = some .H
        ∧ s.heat.zones[7]? = some ⟨none, .unclassified⟩)
    ∧ IsNew State.reset 1 .queryState ∧ State.reset.items.kind = none ∧ State.reset.items.address = none
    ∧ linkedStore (train .running) = none ∧ (train .running).bank.blankThermal = none ∧ (train .running).seq.joinTimer = none := by
  refine ⟨fun d h => ?_, fun seq => ⟨{ expander .running with
        seq := seq, bank := { blankThermal := some 2000, blankMargin := some 2000 }, view := [storeEntry 1 2 3]
        account := { openRec := some { interval := 7, target := 5 } } },
      isNew_of_idle rfl rfl _ _, (show CapacityLaw (expander .running) by unfold CapacityLaw; decide), rfl, rfl, rfl, rfl, rfl, rfl, rfl,
      (show heatReservation { expander .running with view := [storeEntry 1 2 3] } < 65536 by decide)⟩,
    ⟨{ store .active with link := { holder := some ⟨.store (List.replicate 8 500), 1000⟩ } }, isNew_of_idle rfl rfl _ _, rfl, rfl, rfl⟩,
    isNew_of_idle rfl rfl _ _, rfl, rfl, by decide, rfl, rfl⟩
  have : max (train .running).now 1000 = 1000 := by decide
  omega

theorem viewLaw_of_peer : ViewLaw { train .standby with view := [peer 5 .C 200 400 120] } := by
  refine ⟨by simp, ?_, ?_, ?_⟩ <;> simp [train, station, peer, InForce.address, deriveInForce, trainItems]

theorem witness_QueryPeerShowsEntry :
    let s := { train .standby with view := [peer 5 .C 200 400 120] }
    (∀ a, IsNew s 1 (.queryPeer a)) ∧ (∀ e ∈ s.view, e.address ≠ (6 : Byte).toNat) ∧ ViewLaw s ∧ 15 < (16 : Byte).toNat
    ∧ (2 : Byte).toNat = s.inForce.address ∧ peer 5 .C 200 400 120 ∈ s.view ∧ (peer 5 .C 200 400 120).address = (5 : Byte).toNat
    ∧ max s.now 4294968295 - (peer 5 .C 200 400 120).arrival < 4294967296
    ∧ (∀ d, (peer 5 .C 200 400 120).holdEnd = some d → d - max s.now 4294968295 < 4294967296) :=
  ⟨fun _ => isNew_of_idle rfl rfl _ _, by decide, viewLaw_of_peer, by decide, by decide, by simp, by decide, by decide,
    fun d h => by cases h⟩

/-- The last position of the list, and the first past it. -/
theorem witness_QueryBookShowsList :
    let s := { train .standby with book := { noms := [⟨7, 1, 5⟩, ⟨8, 1, 6⟩] } }
    (∀ l i, IsNew s 1 (.queryBook l i)) ∧ s.book.noms[(1 : Byte).toNat]? = some ⟨8, 1, 6⟩ ∧ s.book.noms.length ≤ (2 : Byte).toNat
    ∧ BookLaw s ∧ s.book.noms[0]? = some ⟨7, 1, 5⟩ ∧ StoreLaw (store .active) ∧ (store .active).isStore = true
    ∧ (0 : Byte) ≠ 1 ∧ (0 : Byte) ≠ 2 ∧ (3 : Byte) ≠ 2 :=
  ⟨fun _ _ => isNew_of_idle rfl rfl _ _, by decide, by decide, ⟨by unfold ListLaw; decide, listLaw_nil⟩, by decide,
    fun _ => ⟨rfl, rfl, rfl, rfl, rfl, rfl⟩, by decide, by decide, by decide, by decide⟩

theorem witness_ReadLogShowsOldest :
    (∃ (s : State) (r : DeliveryRecord) (rs : List DeliveryRecord), IsNew s 1 .readLog ∧ s.account.log = r :: rs)
    ∧ (IsNew (store .active) 1 .readLog ∧ (store .active).account.log = [] ∧ StoreLaw (store .active)
      ∧ (store .active).isStore = true) :=
  ⟨⟨{ train .standby with account := { log := [completeRecord { interval := 7, target := 5 } 0 0 15 false false] } }, _, _,
      isNew_of_idle rfl rfl _ _, rfl⟩,
    isNew_of_idle rfl rfl _ _, rfl, fun _ => ⟨rfl, rfl, rfl, rfl, rfl, rfl⟩, by decide⟩

theorem witness_ReleaseLogRemovesOldest :
    IsNew (train .standby) 1 (.releaseLog 65535) ∧ IsNew (train .standby) 1 (.releaseLog 0) ∧ IsNew (store .active) 1 (.releaseLog 1)
    ∧ StoreLaw (store .active) ∧ (store .active).isStore = true ∧ IsNew (train .standby) 1 .restart :=
  ⟨isNew_of_idle rfl rfl _ _, isNew_of_idle rfl rfl _ _, isNew_of_idle rfl rfl _ _, fun _ => ⟨rfl, rfl, rfl, rfl, rfl, rfl⟩, by decide,
    isNew_of_idle rfl rfl _ _⟩

theorem witness_RefusedRequestChangesNothing :
    asRequest (.seal 5 1) = some (5, 1, .seal) ∧ IsNew State.reset 1 .seal
    ∧ answerOf (after State.reset (.seal 5 1)) = some (.refuse .incomplete) :=
  ⟨rfl, isNew_of_idle rfl rfl _ _, by decide⟩

theorem witness_RepeatedUnknownAndDamagedRecords :
    let k : Kept := ⟨14, 1, [], ⟨1, 14, .data [0]⟩⟩
    let s : State := { link := { kept := some k } }
    let owing : State := { link := { kept := some k, owed := some k.reply } }
    s.link.kept = some k ∧ s.link.owed = none ∧ owing.link.kept = some k ∧ owing.link.owed ≠ none
    ∧ asRequest (.readLog 5 1) = some (5, 1, .readLog) ∧ k.code = Request.readLog.code ∧ k.tag = 1 ∧ k.body = Request.readLog.body
    ∧ namesRequest 16 [] = false ∧ namesRequest 0 [] = false ∧ namesRequest 14 [0] = false
    ∧ (∀ k', s.link.kept = some k' → ¬ (k'.code = 16 ∧ k'.tag = 1 ∧ k'.body = ([] : List Byte))) ∧ checkGood [] = false := by
  refine ⟨rfl, rfl, rfl, by decide, rfl, rfl, rfl, rfl, by decide, by decide, by decide, ?_, by decide⟩
  intro k' h
  cases h
  simp

theorem witness_TransmitterTakesInOrder :
    (∃ (s : State) (x : Sending), s.link.sending = some x)
    ∧ (∃ (s : State) (r : Reply), s.link.sending = none ∧ s.link.owed = some r)
    ∧ (∃ (s : State) (p : Setpoint), s.link.sending = none ∧ s.link.owed = none ∧ s.link.setpoint = some p)
    ∧ (∃ (s : State) (r : NumberedReport) (rs : List NumberedReport), s.link.sending = none ∧ s.link.owed = none
        ∧ s.link.setpoint = none ∧ s.link.reports = r :: rs)
    ∧ (∃ s : State, s.link.sending = none ∧ s.link.owed = none ∧ s.link.setpoint = none ∧ s.link.reports = [])
    ∧ (List.replicate 15 (⟨0, .rxOverrun⟩ : NumberedReport)).length < 16
    ∧ 16 ≤ (List.replicate 16 (⟨0, .rxOverrun⟩ : NumberedReport)).length :=
  ⟨⟨{ link := { sending := some ⟨true, []⟩ } }, _, rfl⟩, ⟨{ link := { owed := some ⟨1, 14, .data [0]⟩ } }, _, rfl, rfl⟩,
    ⟨{ link := { setpoint := some ⟨0, false, .offline⟩ } }, _, rfl, rfl, rfl⟩,
    ⟨{ link := { reports := [⟨0, .rxOverrun⟩] } }, _, _, rfl, rfl, rfl, rfl⟩, ⟨State.reset, rfl, rfl, rfl, rfl⟩, by decide, by decide⟩

theorem witness_PermitChangeMovesTrain :
    State.reset.permit = false ∧ (∀ st, (train st).permit = true ∧ (train st).seq.state = st ∧ (train st).isTrain = true)
    ∧ (∃ s : State, s.permit = true ∧ s.seq.state = .leaving ∧ s.isTrain = true ∧ s.share.command ≠ 0)
    ∧ ((store .leaving).permit = true ∧ (store .leaving).seq.state ≠ .running
        ∧ ((store .leaving).seq.state = .leaving → (store .leaving).isTrain = false)) :=
  ⟨rfl, fun _ => ⟨rfl, rfl, rfl⟩, ⟨{ train .leaving with share := { command := 120 } }, rfl, rfl, rfl, by decide⟩, rfl, by decide,
    fun _ => by decide⟩

/-- The edge at exactly L/2 of each of the two spans (L = 15 minutes). -/
theorem witness_BoundaryPulseOnClock :
    (store .active).isStore = true ∧ (train .standby).isStore = false ∧ (train .standby).clock.current = none
    ∧ (train .standby).clock.pending = none ∧ (∃ s : State, s.isStore = false ∧ s.clock.current = none ∧ s.clock.pending = some 7)
    ∧ (∃ s : State, s = timed 7 (train .standby) ∧ s.clock.current = some 7 ∧ s.clock.free = false ∧ s.clock.lastPulse = some 1000
        ∧ 2 * (max s.now 450999 - 1000) < s.inForce.intervalMs ∧ s.inForce.intervalMs ≤ 2 * (max s.now 451000 - 1000))
    ∧ (∃ s : State, s = { train .standby with clock := ⟨some 7, none, some 0, some 1000, true⟩ } ∧ s.clock.current = some 7 ∧ s.clock.free = true ∧ s.clock.lastAdvance = some 1000 ∧ s.clock.pending = none
        ∧ 2 * (max s.now 450999 - 1000) < s.inForce.intervalMs ∧ s.inForce.intervalMs ≤ 2 * (max s.now 451000 - 1000)) := by
  refine ⟨by decide, by decide, rfl, rfl, ⟨{ train .standby with clock := { pending := some 7 } }, by decide, rfl, rfl⟩, ⟨_, rfl, ?_⟩,
    ⟨_, rfl, ?_⟩⟩ <;> decide

theorem witness_IntervalChangeClosesRecord :
    let s := { timed 7 (train .standby) with account := { openRec := some { interval := 7, target := 5 } } }
    s.isTrain = true ∧ s.clock.current = some 7 ∧ s.clock.free = false
    ∧ (∃ p, s.clock.lastPulse = some p ∧ s.inForce.intervalMs ≤ 2 * (max s.now 451000 - p))
    ∧ 8 = s.clock.pending.getD (if 4294967294 ≤ 7 then 0 else 7 + 1) ∧ s.account.openRec = some { interval := 7, target := 5 }
    ∧ s.account.log.length ≤ 48 :=
  ⟨by decide, rfl, rfl, ⟨1000, rfl, by decide⟩, by decide, rfl, by decide⟩

/-- The other ways to an interval change, each with an open interval, a held output and room for its report: the first timed pulse, a
pulse in free run with a waiting number and at exactly L/2, the start of free run, an advance at exactly 2 × L, and a LEAVE. -/
theorem witness_IntervalChangeClosesRecord_every_way :
    let acc : Account := { openRec := some { interval := 7, target := 5 }, ownPoint := some ⟨200, 900⟩, peerPoints := [⟨5, 250, .C, 800⟩] }
    let s := { train .standby with account := acc }
    let free (a : Nat) (n : Option Nat) : State := { s with clock := ⟨some 7, n, some 1000, some a, true⟩ }
    (s.isStore = false ∧ s.clock.current = none ∧ ({ s with clock := { pending := some 9 } } : State).clock.pending = some 9)
    ∧ ((timed 7 s).clock.lastPulse = some 1000 ∧ s.inForce.intervalMs ≤ 2 * (max s.now 451000 - 1000))
    ∧ ((free 1000 (some 9)).clock.pending ≠ none ∧ (free 1000 none).clock.lastAdvance = some 1000
      ∧ s.inForce.intervalMs ≤ 2 * (max s.now 451000 - 1000) ∧ 8 = (none : Option Nat).getD (if 4294967294 ≤ 7 then 0 else 7 + 1))
    ∧ ((timed 7 s).clock.free = false ∧ (free 1801000 none).clock.free = true ∧ 0 < s.inForce.intervalMs
      ∧ 1000 + 2 * s.inForce.intervalMs ≤ 1801000 ∧ 1801000 < 1000 + (2 + 1) * s.inForce.intervalMs)
    ∧ (OwnEnergyIs s 1000 (-20000) ∧ OwnEnergyIs (train .standby) 1000 0 ∧ s.link.reports.length + 3 ≤ 16 ∧ s.account.log.length < 48)
    ∧ (IsNew s 1 .leave ∧ s.seq.state = .standby ∧ s.account.openRec = some { interval := 7, target := 5 }) :=
  ⟨by decide, by decide, by decide, by decide,
    ⟨⟨(fun h => nomatch h), fun q h => by cases h; decide⟩, ⟨fun _ => rfl, (fun q h => nomatch h)⟩, by decide, by decide⟩,
    isNew_of_idle rfl rfl _ _, rfl, rfl⟩

/-- On an interval with those held outputs: the record of the first timed pulse, CLOCK FREE SEEN at the start of free run, the energies at a LEAVE. -/
theorem test_every_way_to_an_interval_change :
    let acc : Account := { openRec := some { interval := 7, target := 5 }, ownPoint := some ⟨200, 900⟩, peerPoints := [⟨5, 250, .C, 800⟩] }
    let s := { train .standby with account := acc }
    let u := after { s with clock := { pending := some 9 } } (.boundaryPulse 2000)
    let v := after (timed 7 s) .freeRunDeadline
    let w := after s (.leave 1000 1)
    (u.account.log.map fun r => (r.interval, r.own, r.plant, r.clockFreeSeen)) = [(7, kWh (-220000), kWh (-520000), false)]
    ∧ (v.account.log.map DeliveryRecord.clockFreeSeen, v.account.openRec.map OpenRecord.clockFreeSeen) = ([true], some true)
    ∧ (w.account.ownAcc, w.account.plantAcc, w.account.ownPoint, w.account.peerPoints) = (-20000, -70000, none, []) := by decide

theorem witness_AgreementDecidesHeld :
    (∃ s : State, s = { timed 7 (train .standby) with
          bus := { rx := [⟨.status ⟨5, some .running, .train (peerFields .C 0 400 120)⟩, .sameCavern, 1000⟩] } }
      ∧ s.bus.rx = ⟨.status ⟨5, some .running, .train (peerFields .C 0 400 120)⟩, .sameCavern, 1000⟩ :: []
      ∧ s.isTrain = true ∧ s.seq.state ≠ .offline ∧ s.clock.current = some 7)
    ∧ (∀ settle persistence agree held, ∃ s : State, s.share.timer = some 1000 ∧ s.isTrain = true
        ∧ deriveTarget s.book s.clock.current = s.book.target ∧ s.book.settle = settle ∧ s.book.persistence = persistence
        ∧ s.book.agree = agree ∧ s.book.held = held) :=
  ⟨⟨_, rfl, by decide⟩, fun settle persistence agree held =>
    ⟨{ train .standby with
        share := { timer := some 1000 }, book := { settle := settle, persistence := persistence, agree := agree, held := held } },
      rfl, rfl, rfl, rfl, rfl, rfl, rfl⟩⟩

/-- An expiry at which the target changes, with no peer (AGREE) and with one of another target (n = 2, a = 1), at every settle and
persistence count and with HELD set or clear. -/
theorem witness_AgreementDecidesHeld_target_changes :
    let other : Entry := { peer 5 .C 0 400 120 with fields := .train { peerFields .C 0 400 120 with interval := 7, target := some 0 } }
    (∀ settle persistence held view, ∃ s : State, s.share.timer = some 1000 ∧ s.isTrain = true ∧ s.seq.state ≠ .offline
      ∧ s.clock.current = some 7 ∧ deriveTarget s.book s.clock.current = some (-300) ∧ s.book.target ≠ some (-300)
      ∧ s.book.settle = settle ∧ s.book.persistence = persistence ∧ s.book.held = held ∧ s.view = view)
    ∧ (∀ u : State, u.view = [other] → (u.view.filter fun e => match e.fields with
          | .train x => decide (e.status ≠ .lost ∧ x.interval ≠ 4294967295)
          | .store _ => false).length + 1 = 2
        ∧ (u.view.filter fun e => match e.fields with
          | .train x => decide (e.status ≠ .lost ∧ x.interval ≠ 4294967295 ∧ x.interval = 7 ∧ x.target = some (-300))
          | .store _ => false).length + 1 = 1)
    ∧ (1 : Nat) < 2 * 1 ∧ 2 * 1 ≤ (2 : Nat) := by
  refine ⟨fun settle persistence held view => ⟨{ timed 7 (train .standby) with
      share := { timer := some 1000 }, view := view
      book := { noms := [⟨7, 1, -300⟩], target := some 0, settle := settle, persistence := persistence, held := held } },
    rfl, rfl, (fun h => by cases h), rfl, rfl, (show some (0 : Int) ≠ some (-300) by decide), rfl, rfl, rfl, rfl⟩, fun u h => ?_, by decide, by decide⟩
  rw [h]
  decide

/-- The edges of a span of free run: the advance at exactly 2 × L, and the last instant before the next. -/
theorem witness_FreeRunAdvances :
    let s := { train .standby with clock := ⟨some 7, none, some 1000, some 1801000, true⟩ }
    s.isStore = false ∧ s.clock.current = some 7 ∧ s.clock.lastPulse = some 1000 ∧ (timed 7 (train .standby)).clock.free = false
    ∧ s.clock.free = true ∧ s.clock.lastAdvance = some 1801000 ∧ 0 < s.inForce.intervalMs
    ∧ 1000 + 2 * s.inForce.intervalMs ≤ 1801000 ∧ 1801000 < 1000 + (2 + 1) * s.inForce.intervalMs
    ∧ 1000 + 1 * s.inForce.intervalMs ≤ 1800999 ∧ 1800999 < 1000 + (1 + 1) * s.inForce.intervalMs := by decide

theorem witness_ArrivalsAreTaggedAndQueued :
    State.reset.seq.state = .offline ∧ decodeFrame [] = .checkBad
    ∧ decodeFrame (Frame.encode (.alert ⟨9, .trip, {}⟩)) = .frame (.alert ⟨9, .trip, {}⟩)
    ∧ (train .standby).seq.state ≠ .offline ∧ (9 : Nat) ≠ (train .standby).inForce.address
    ∧ (List.replicate 7 (⟨.alert ⟨9, .trip, {}⟩, .other, 0⟩ : RxFrame)).length < 8
    ∧ findEntry (train .standby).view 9 = none
    ∧ findEntry [storeEntry 1 2 3] 14 = some (storeEntry 1 2 3) ∧ findEntry [peer 9 .C 0 0 0] 9 = some (peer 9 .C 0 0 0)
    ∧ decodeFrame (Frame.encode (.status ⟨9, some .running, .train (peerFields .C 0 400 120)⟩))
        = .frame (.status ⟨9, some .running, .train (peerFields .C 0 400 120)⟩)
    ∧ decodeFrame (Frame.encode (.status ⟨14, some .active, .store ⟨false, false, 19, 1, 2, 3, 4⟩⟩))
        = .frame (.status ⟨14, some .active, .store ⟨false, false, 19, 1, 2, 3, 4⟩⟩) := by decide +kernel

/-- A full queue with the mark clear and set, and each kind of frame at the head with and without a rest. -/
theorem witness_OverrunIsReportedOnce :
    (∀ mark, ∃ s : State, s.seq.state ≠ .offline ∧ (9 : Nat) ≠ s.inForce.address ∧ s.bus.rx.length = 8 ∧ s.bus.overrun = mark)
    ∧ (∀ f tag rest, ∃ s : State, s.bus.rx = ⟨f, tag, 0⟩ :: rest ∧ s.seq.state ≠ .offline)
    ∧ AlertReason.trip ≠ .conflict ∧ IsNew (train .running) 1 .restart :=
  ⟨fun mark => ⟨{ train .standby with bus := { rx := List.replicate 8 ⟨.alert ⟨9, .trip, {}⟩, .other, 0⟩, overrun := mark } }, (fun h => by cases h),
      (by decide : (9 : Nat) ≠ (train .standby).inForce.address), by simp, rfl⟩,
    fun f tag rest => ⟨{ train .standby with bus := { rx := ⟨f, tag, 0⟩ :: rest } }, rfl, (fun h => by cases h)⟩, by decide,
    isNew_of_idle rfl rfl _ _⟩

theorem witness_OwnAddressIsConflict :
    decodeFrame (Frame.encode (.alert ⟨2, .trip, {}⟩)) = .frame (.alert ⟨2, .trip, {}⟩)
    ∧ Frame.address (.alert ⟨2, .trip, {}⟩) = (train .joining).inForce.address ∧ (train .conflict).seq.state = .conflict
    ∧ (train .joining).seq.state ≠ .offline ∧ (train .joining).seq.state ≠ .conflict := by decide +kernel

theorem viewLaw_of_queue (f : StatusFrame) (h1 : f.address < 16) (h2 : f.address ≠ 2) (view : List Entry) (hv : view = [] ∨ view = [peer 5 .C 200 400 120]) :
    ViewLaw { train .standby with view := view, bus := { rx := [⟨.status f, .other, 0⟩] } } := by
  rcases hv with rfl | rfl <;> refine ⟨by simp, ?_, ?_, ?_⟩ <;>
    simp [train, station, peer, InForce.address, deriveInForce, trainItems, Frame.address, h1, h2]

/-- A new entry, and one that was LOST, with a state named and not named. -/
theorem witness_StatusFrameUpdatesEntry :
    (∃ f : StatusFrame, f = ⟨5, none, .train (peerFields .C 2501 400 120)⟩ ∧ ViewLaw { train .standby with view := [], bus := { rx := [⟨.status f, .other, 0⟩] } } ∧ findEntry [] f.address = none ∧ f.state = none)
    ∧ (∃ f : StatusFrame, f = ⟨5, some .running, .train (peerFields .C 2501 400 120)⟩
      ∧ ViewLaw { train .standby with view := [peer 5 .C 200 400 120], bus := { rx := [⟨.status f, .other, 0⟩] } }
      ∧ f.state = some .running ∧ ∃ e, findEntry [{ peer 5 .C 200 400 120 with status := .lost }] f.address = some e ∧ e.status = .lost) :=
  ⟨⟨_, rfl, viewLaw_of_queue _ (by decide) (by decide) _ (Or.inl rfl), rfl, rfl⟩,
    _, rfl, viewLaw_of_queue _ (by decide) (by decide) _ (Or.inr rfl), rfl, _, rfl, rfl⟩

/-- A train's points: the sender's only point, none of the sender, and a store's frame over a train entry and over none; a store. -/
theorem witness_StatusFrameUpdatesEntry_account :
    let p : PeerPoint := ⟨5, 200, .C, 400⟩
    let f : StatusFrame := ⟨5, some .active, .store ⟨false, false, 19, 1, 2, 3, 4⟩⟩
    let s := { train .standby with view := [peer 5 .C 200 400 120], bus := { rx := [⟨.status f, .other, 0⟩] },
                                   account := { openRec := some { interval := 7, target := 5 }, peerPoints := [p] } }
    ViewLaw s ∧ s.isTrain = true ∧ OnlyPoint s.account.peerPoints p ∧ p.address = f.address
    ∧ (∀ q ∈ [(⟨6, 200, .C, 400⟩ : PeerPoint)], q.address ≠ f.address)
    ∧ (∃ e x, findEntry s.view f.address = some e ∧ e.fields = .train x)
    ∧ (∀ e x, findEntry [storeEntry 1 2 3] 14 = some e → e.fields ≠ .train x)
    ∧ (store .active).isTrain = false := by
  have hv := viewLaw_of_queue ⟨5, some .active, .store ⟨false, false, 19, 1, 2, 3, 4⟩⟩ (by decide) (by decide) _ (Or.inr rfl)
  refine ⟨hv, rfl, ⟨by simp, by simp⟩, rfl, by decide, ⟨_, _, rfl, rfl⟩, ?_, rfl⟩
  intro e x h
  cases h
  exact fun h => nomatch h

/-- A frame that arrived at 700 credits 200 kW from 400 under the held kind and holds its own output; a store's frame ends the point. -/
theorem test_account_at_status_frames :
    let s (fields : Fields) : State := { train .standby with
      view := [peer 5 .C 200 400 120]
      bus := { rx := [⟨.status ⟨5, some .running, fields⟩, .sameCavern, 700⟩] }
      account := { openRec := some { interval := 7, target := 5 }, peerPoints := [⟨5, 200, .C, 400⟩] } }
    let u := after (s (.train (peerFields .X 90 400 120))) (.applyStatusFrame 1000)
    let v := after (s (.store ⟨false, false, 19, 1, 2, 3, 4⟩)) (.applyStatusFrame 1000)
    (u.account.plantAcc, u.account.ownAcc, u.account.peerPoints) = (-60000, 0, [⟨5, 90, .X, 700⟩])
    ∧ (v.account.plantAcc, v.account.peerPoints) = (-60000, []) := by decide

theorem witness_AlertsChangeTheirEntry :
    ∀ reason : AlertReason, ∃ s : State, s.bus.rx = [⟨.alert ⟨5, reason, {}⟩, .other, 0⟩]
      ∧ findEntry s.view 5 = some (peer 5 .C 200 400 120) ∧ (peer 5 .C 200 400 120).status ≠ .lost :=
  fun reason => ⟨{ train .standby with view := [peer 5 .C 200 400 120], bus := { rx := [⟨.alert ⟨5, reason, {}⟩, .other, 0⟩] } }, rfl, rfl,
    by decide⟩

theorem witness_EntriesAge :
    ViewLaw { train .standby with view := [peer 5 .C 200 400 120] }
    ∧ findEntry [peer 5 .C 200 400 120] 5 = some (peer 5 .C 200 400 120)
    ∧ (∀ f, (peer 5 .C 200 400 120).fields = .train f → 1000 = (f.vcode + 1) * 50)
    ∧ (peer 5 .C 200 400 120).status = .present
    ∧ (∀ st d, ({ peer 5 .C 200 400 120 with status := st, holdEnd := d } : Entry).status = st
        ∧ ({ peer 5 .C 200 400 120 with status := st, holdEnd := d } : Entry).holdEnd = d) :=
  ⟨viewLaw_of_peer, rfl, fun f h => by cases h; rfl, rfl, fun _ _ => ⟨rfl, rfl⟩⟩

/-- A LOST entry at the end of its hold, with the only point of its address and with none. -/
theorem witness_EntriesAge_freed :
    let p : PeerPoint := ⟨5, 200, .C, 400⟩
    let e : Entry := { peer 5 .C 200 400 120 with status := .lost, holdEnd := some 2000 }
    let s := { train .standby with view := [e], account := { openRec := some { interval := 7, target := 5 }, peerPoints := [p] } }
    findEntry s.view 5 = some e ∧ e.status = .lost ∧ e.holdEnd = some 2000 ∧ OnlyPoint s.account.peerPoints p ∧ p.address = 5
    ∧ (∀ q ∈ ([] : List PeerPoint), q.address ≠ 5)
    ∧ ((after s (.lostHoldExpiry 5)).account.plantAcc, (after s (.lostHoldExpiry 5)).account.peerPoints) = (-320000, [])
    ∧ (after s (.lostHoldExpiry 5)).seq.state ≠ .offline :=
  ⟨rfl, rfl, rfl, ⟨by simp, by simp⟩, rfl, by decide, by decide, by decide⟩

theorem witness_BusTakesAlertFirst :
    (∃ (s : State) (a : Alert), s.bus.onBus = none ∧ s.bus.pendingAlert = some a)
    ∧ (∃ (s : State) (f : StatusFrame), s.bus.onBus = none ∧ s.bus.pendingAlert = none ∧ s.bus.pendingStatus = some f)
    ∧ (∃ s : State, s.bus.onBus ≠ none) ∧ ∃ s : State, s.bus.pendingAlert = none ∧ s.bus.pendingStatus = none :=
  ⟨⟨{ bus := { pendingAlert := some ⟨2, .trip, {}⟩ } }, _, rfl, rfl⟩,
    ⟨{ bus := { pendingStatus := some (statusNow (train .standby)) } }, _, rfl, rfl, rfl⟩, ⟨{ bus := { onBus := some [] } }, by decide⟩,
    ⟨State.reset, rfl, rfl⟩⟩

/-- A train, a store out of LEAVING, and a leaving store before and at its third expiry. -/
theorem witness_StatusTimerBuildsFrame :
    (∃ s : State, s.bus.statusTimer = some 2000 ∧ s.inForce.kind = some .X ∧ Kind.X ≠ .H)
    ∧ (∃ s : State, s.bus.statusTimer = some 2000 ∧ s.isStore = true ∧ s.seq.state ≠ .leaving)
    ∧ (∃ s : State, s.bus.statusTimer = some 2000 ∧ s.isStore = true ∧ s.seq.state = .leaving ∧ s.seq.leaveCount = 1 ∧ 1 < 2)
    ∧ ∃ s : State, s.bus.statusTimer = some 2000 ∧ s.isStore = true ∧ s.seq.state = .leaving ∧ s.seq.leaveCount = 2 ∧ 2 ≤ 2 :=
  ⟨⟨{ expander .running with bus := { statusTimer := some 2000 } }, rfl, rfl, by decide⟩,
    ⟨{ store .active with bus := { statusTimer := some 2000 } }, rfl, rfl, by decide⟩,
    ⟨{ store .leaving with bus := { statusTimer := some 2000 }, seq := { state := .leaving, leaveCount := 1 } }, rfl, rfl, rfl, rfl,
      by decide⟩,
    ⟨{ store .leaving with bus := { statusTimer := some 2000 }, seq := { state := .leaving, leaveCount := 2 } }, rfl, rfl, rfl, rfl,
      by decide⟩⟩

theorem witness_ControlExpirySendsSetpoint :
    (∃ s : State, s.share.timer = some 2000 ∧ s.isTrain = true ∧ CommandLaw s ∧ s.seq.state = .standby)
    ∧ (∃ s : State, s.share.timer = some 2000 ∧ s.inForce.kind = some .C ∧ s.seq.state = .leaving
        ∧ s.share.command = s.inForce.minLoad + s.inForce.rampStep)
    ∧ ∃ s : State, s.share.timer = some 2000 ∧ s.inForce.kind = some .X ∧ s.seq.state = .running
        ∧ ∀ v, deriveTarget s.book s.clock.current = some v → v ≤ 0 :=
  ⟨⟨{ train .standby with share := { timer := some 2000 } }, rfl, rfl, Or.inl rfl, rfl⟩,
    ⟨{ train .leaving with share := { timer := some 2000, command := 130 } }, rfl, rfl, rfl, by decide⟩,
    ⟨{ timed 7 (expander .running) with share := { timer := some 2000 } }, rfl, rfl, rfl, fun v h => by cases h; decide⟩⟩

/-- An expiry in and out of RUNNING with an interval open and with none. -/
theorem witness_ControlExpirySendsSetpoint_account :
    ∀ st, st ≠ .offline → ∀ o : Option OpenRecord, ∃ s : State, s.share.timer = some 2000 ∧ s.isTrain = true ∧ s.seq.state = st
      ∧ s.account.openRec = o :=
  fun st _ o => ⟨{ train st with share := { timer := some 2000 }, account := { openRec := o } }, rfl, rfl, rfl, rfl⟩

/-- The wake counter one below w and at w − 1, with a rival of lower address and with none. -/
theorem witness_WakeCountStartsLowestTrain :
    let s := { timed 7 (measured (train .standby)) with
      heat := { cooled := true }, view := [storeEntry 5000 0 500]
      book := { noms := [⟨7, 1, -300⟩], target := some (-300) }, share := { timer := some 2000, wake := 4 } }
    s.share.timer = some 2000 ∧ s.inForce.kind = some .C ∧ Kind.C ≠ .H ∧ s.seq.state = .standby ∧ s.share.command = 0
    ∧ 0 < s.inForce.items.wakeDelay ∧ s.inForce.items.wakeDelay ≤ s.share.wake + 1
    ∧ (after s .controlPeriodExpiry).seq.state = .starting
    ∧ (after { s with share := { s.share with wake := 3 } } .controlPeriodExpiry).share.wake = 4
    ∧ (after { s with view := [{ peer 1 .C 0 400 120 with state := .standby }, storeEntry 5000 0 500] } .controlPeriodExpiry).share.wake = 5 := by
  decide

theorem witness_SharesSumToBoundedError :
    400 ≤ (([⟨2, 150, 0⟩, ⟨5, 250, 0⟩] : List Alloc).map Alloc.room).sum ∧ 0 ≤ (([] : List Alloc).map Alloc.room).sum := by decide

/-- A train in direction of each kind beside a peer that takes part: a rise, a reduction within H, and one past it. -/
theorem witness_SharesSumToBoundedError_in_direction :
    (∀ command : Nat, ∃ s : State, s.share.timer = some 2000 ∧ s.inForce.kind = some .C ∧ s.seq.state = .running ∧ ViewLaw s
        ∧ deriveTarget s.book s.clock.current = some (-300) ∧ s.share.command = command ∧ TakesPart .C (peer 5 .C 130 400 120) ⟨5, 130, 400, 120⟩
        ∧ s.view = [peer 5 .C 130 400 120])
    ∧ (∃ s : State, s.share.timer = some 2000 ∧ s.inForce.kind = some .X ∧ s.seq.state = .running ∧ ViewLaw s
        ∧ deriveTarget s.book s.clock.current = some 300)
    ∧ DesiredIs 100 [⟨2, 200, 400, 120⟩, ⟨5, 300, 400, 120⟩] 2 200 120 267
    ∧ DesiredIs (-5) [⟨2, 130, 400, 120⟩, ⟨5, 125, 400, 120⟩] 2 130 120 126
    ∧ DesiredIs (-70) [⟨2, 130, 400, 120⟩, ⟨5, 120, 400, 120⟩] 5 120 120 0
    ∧ DesiredIs (-70) [⟨2, 130, 400, 120⟩, ⟨5, 120, 400, 120⟩] 2 130 120 120 := by
  refine ⟨fun command => ⟨{ timed 7 (train .running) with
        share := { timer := some 2000, command := command }, book := { noms := [⟨7, 1, -300⟩] }, view := [peer 5 .C 130 400 120] },
      rfl, rfl, rfl, ?_, rfl, rfl, ⟨_, rfl, by decide⟩, rfl⟩,
    ⟨{ timed 7 (expander .running) with share := { timer := some 2000 }, book := { noms := [⟨7, 1, 300⟩] } },
      rfl, rfl, rfl, ?_, rfl⟩, ?_, ?_, ?_, ?_⟩
  · refine ⟨by simp, ?_, ?_, ?_⟩ <;> simp [timed, train, station, peer, InForce.address, deriveInForce, trainItems]
  · refine ⟨by simp [timed, expander, station], ?_, ?_, ?_⟩ <;> simp [timed, expander, station]
  · refine ⟨fun h => absurd h (by decide), fun _ => ⟨67, rfl, ?_⟩, fun h => absurd h (by decide), fun h => absurd h (by decide)⟩; unfold ShareIs; decide
  · refine ⟨fun h => absurd h (by decide), fun h => absurd h (by decide), fun _ _ => ⟨4, rfl, ?_⟩, fun _ h => absurd h (by decide)⟩; unfold ShareIs; decide
  · refine ⟨fun h => absurd h (by decide), fun h => absurd h (by decide), fun _ h => absurd h (by decide), fun _ _ => ⟨fun _ => rfl, fun h => absurd ?_ h⟩⟩
    exact ⟨⟨5, 120, 400, 120⟩, by decide, rfl, rfl, by decide⟩
  · refine ⟨fun h => absurd h (by decide), fun h => absurd h (by decide), fun _ h => absurd h (by decide), fun _ _ => ⟨fun h => ?_, fun _ => rfl⟩⟩
    obtain ⟨p, hp, ha, hc, hq⟩ := h
    exact absurd (hq ⟨5, 120, 400, 120⟩ (by decide) rfl) (by decide)

theorem witness_RampLimitsRise :
    (∃ s u : State, exec .controlPeriodExpiry s = .next u) ∧ (∃ s u : State, Instr.statusTimerExpiry ≠ .controlPeriodExpiry
      ∧ exec .statusTimerExpiry s = .next u) ∧ (120 : Nat) ≤ 120 ∧ (120 : Nat) < 121 ∧ 0 < 121 :=
  ⟨⟨State.reset, _, rfl⟩, ⟨State.reset, _, by decide, rfl⟩, by decide, by decide, by decide⟩

/-- A rise that happens: a compressor alone on the plant, as in `test_control_period`. -/
theorem witness_NoRiseWhenBarred :
    let s := { timed 7 (measured (train .running)) with
      heat := { cooled := false }, share := { command := 200, timer := some 1000 }, seq := { state := .running, available := true }
      view := [storeEntry 5000 0 500], book := { noms := [⟨7, 1, -300⟩], target := some (-300) } }
    exec .controlPeriodExpiry s = .next (after s .controlPeriodExpiry) ∧ s.share.command < (after s .controlPeriodExpiry).share.command :=
  ⟨rfl, by decide⟩

theorem witness_SnapToMinimumStableLoad :
    (1 ≤ 63 ∧ 63 ≤ 125 - 1 ∧ 125 ≤ 2 * 63) ∧ (1 ≤ 62 ∧ 62 ≤ 125 - 1 ∧ 2 * 62 < 125) ∧ (125 : Nat) ≤ 125 := by decide

/-- The band's edges: at the limit, one inside it, at the end of the band; a soft band of 0 included. -/
theorem witness_CavernCapsByPressureAndFlow :
    let s := measured (train .running)
    let x := measured (expander .running)
    s.inForce.kind = some .C ∧ heldPressure s = some 6000 ∧ s.inForce.workMax = some 8000 ∧ s.inForce.items.rated = some 400
    ∧ x.inForce.kind = some .X ∧ heldPressure x = some 6000 ∧ x.inForce.workMin = some 4000
    ∧ bandCapC 400 8000 300 8000 = 0 ∧ bandCapC 400 8000 300 7999 = 1 ∧ bandCapC 400 8000 300 7700 = 400
    ∧ bandCapC 400 8000 0 7999 = 400 ∧ bandCapX 400 4000 300 4000 = 0 ∧ bandCapX 400 4000 300 4150 = 200
    ∧ bandCapX 400 4000 0 4001 = 400 ∧ heldPressure (train .running) = none := by decide

/-- A linked store that supplies, a lost one and none; the quality cap at the cold threshold and one above it; the three heat flows. -/
theorem witness_CavernCapsByPressureAndFlow_heat :
    let s := { measured (train .running) with view := [peer 5 .C 130 400 120, storeEntry 300 400 200] }
    let x := { measured (expander .running) with view := [storeEntry 300 400 201] }
    (storeEntry 300 400 200 ∈ s.view ∧ (storeEntry 300 400 200).relation = .linkedStore
      ∧ (∀ e' ∈ s.view, e'.relation = .linkedStore → e' = storeEntry 300 400 200) ∧ s.inForce.items.linked ≠ none
      ∧ linkedStore s = some ⟨false, false, 19, 300, 400, 200, 3⟩
      ∧ linkedStore { s with view := [{ storeEntry 300 400 200 with status := .lost }] } = none)
    ∧ (∀ e ∈ [peer 5 .C 130 400 120], e.relation ≠ .linkedStore)
    ∧ (x.inForce.hot = some 500 ∧ x.inForce.cold = some 200 ∧ qualityCap x = 1
      ∧ qualityCap { x with view := [storeEntry 300 400 200] } = 0)
    ∧ (s.inForce.kind = some .C ∧ s.heat.cooled = false ∧ heatFlow s = 120 ∧ heatFlow { s with heat := { cooled := true } } = 0
      ∧ x.inForce.kind = some .X ∧ heatFlow x = 220)
    ∧ ({ s with share := { timer := some 2000 } } : State).share.timer = some 2000 ∧ s.link.reports.length + 3 ≤ 16 := by decide

theorem witness_SequencerTimersRunOut :
    (∃ s : State, s.seq.state = .joining ∧ s.seq.joinTimer = some 2000 ∧ ∀ m, (s.bank.monitor m).cond ≠ .latched)
    ∧ (∀ f : Option StatusFrame, ∃ s : State, s.seq.state = .joining ∧ s.seq.joinTimer = some 2000
        ∧ (∃ m, (s.bank.monitor m).cond = .latched) ∧ s.bus.pendingStatus = f)
    ∧ (∃ s : State, s.seq.state = .starting ∧ s.seq.startTimer = some 2000 ∧ s.share.command = 0)
    ∧ (∃ s : State, s.seq.state = .running ∧ s.seq.standbyTimer = some 2000 ∧ s.share.command = 0)
    ∧ (∃ s : State, s.bank.blankThermal = some 2000 ∧ s.bank.blankMargin = some 2000) :=
  ⟨⟨{ train .joining with seq := { state := .joining, joinTimer := some 2000 } }, rfl, rfl, fun m => by cases m <;> decide⟩,
    fun f => ⟨{ train .joining with
        seq := { state := .joining, joinTimer := some 2000 }, bank := { native := ⟨.latched, 0, 0, true⟩ }, bus := { pendingStatus := f } },
      rfl, rfl, ⟨.native, rfl⟩, rfl⟩,
    ⟨{ train .starting with seq := { state := .starting, startTimer := some 2000 } }, rfl, rfl, rfl⟩,
    ⟨{ train .running with seq := { state := .running, standbyTimer := some 2000 } }, rfl, rfl, rfl⟩,
    ⟨{ train .running with bank := { blankThermal := some 2000, blankMargin := some 2000 } }, rfl, rfl⟩⟩

/-- Every mode in every state after the seal, M_STALE clear, or latched with its mark clear, with a status frame pending and with none. -/
theorem witness_StaleExpiryActsByMode :
    ∀ (mode : Mode) (st : StationState) (m : MonState) (f : Option StatusFrame) (o : Option OpenRecord), st ≠ .offline →
      ∃ s : State, s.link.staleTimer = some 2000 ∧ s.seq.state = st ∧ s.bank.stale = m ∧ s.inForce.modes.stale = mode
        ∧ s.isTrain = true ∧ s.share.command ≠ 0 ∧ s.bus.pendingStatus = f ∧ s.account.openRec = o :=
  fun mode st m f o _ => ⟨{ station { trainItems .C with modeStale := mode } st with
      link := { staleTimer := some 2000 }, bank := { stale := m }, share := { command := 130 }, bus := { pendingStatus := f }
      account := { openRec := o } }, rfl, rfl, rfl, rfl, rfl, (fun h => by cases h), rfl, rfl⟩

/-- What the expiry reads: a limit below the command, which it is cut to with a SETPOINT, in RUNNING; a limit of 0, which ends a leave; and
the command at the limit, which stays with no SETPOINT. -/
theorem witness_limitRead_cuts :
    let s (st : StationState) : State := { station { trainItems .C with modeStale := .off } st with
      share := { command := 130 }, link := { holder := some ⟨.train 200 50 6000 400 200, 1000⟩, staleTimer := some 2000 } }
    let at120 := after { s .running with share := { command := 120 } } .staleTimerExpiry
    let cut := after (s .running) .staleTimerExpiry
    let left := after { s .leaving with link := { staleTimer := some 2000 } } .staleTimerExpiry
    limitRead (s .running) (s .running).link.holder [] 400 = 120 ∧ limitRead (s .leaving) none [] 400 = 0
    ∧ (at120.share.command, at120.link.setpoint) = (120, none)
    ∧ (cut.share.command, cut.link.setpoint) = (120, some ⟨120, true, .running⟩)
    ∧ (left.seq.state, left.share.command, left.link.setpoint) = (.offline, 0, some ⟨0, false, .offline⟩) := by decide

/-- A trip at the expiry rebuilds the status frame that was pending, and where none was pending none is. -/
theorem test_trip_rebuilds_the_pending_frame :
    let s := { station { trainItems .C with modeStale := .latch } .running with link := { staleTimer := some 2000 }, share := { command := 130 } }
    let u := after { s with bus := { pendingStatus := some (statusNow s) } } .staleTimerExpiry
    u.bus.pendingStatus.map StatusFrame.state = some (some .tripped) ∧ u.bus.pendingStatus ≠ some (statusNow s)
    ∧ (after s .staleTimerExpiry).bus.pendingStatus = none := by decide

theorem witness_StaleExpiryActsByMode_store :
    ∃ s : State, s.link.staleTimer = some 2000 ∧ s.seq.state = .active ∧ s.bank.stale.cond = .clear ∧ s.inForce.modes.stale = .retry
      ∧ s.isStore = true :=
  ⟨{ store .active with link := { staleTimer := some 2000 } }, rfl, rfl, rfl, rfl, rfl⟩

/-- Every record has a bank that it judges to, in every state. -/
theorem judgedAs_total (s : State) (form : MeasureForm) : ∃ bank : Monitor → MonState, ∀ m, JudgedAs s form m (bank m) := by
  refine ⟨fun m => Classical.choose (p := fun v => JudgedAs s form m v) ?_, fun m => Classical.choose_spec (p := JudgedAs s form m) _⟩
  by_cases hl : Latches s form m
  · refine ⟨⟨.latched, 0, 0, true⟩, ?_, ?_, ?_, fun _ => rfl⟩
    · rintro rfl; exact absurd hl.1.1 (by cases form <;> simp [judges])
    · intro _ h; exact absurd hl.1.1 h
    · intro _ _ h; exact absurd hl h
  · by_cases hs : m = .stale
    · exact ⟨_, fun _ => rfl, fun h => absurd hs h, fun h => absurd hs h, fun h => absurd h hl⟩
    · by_cases hj : judges s form m
      · exact ⟨_, fun h => absurd h hs, fun _ h => absurd hj h, fun _ _ _ => rfl, fun h => absurd h hl⟩
      · exact ⟨_, fun h => absurd h hs, fun _ _ => rfl, fun _ h => absurd h hj, fun h => absurd h hl⟩

/-- A record that latches M_NATIVE at its deglitch count, in every state after the seal, and one that starts a retry cut. -/
theorem witness_MonitorJudgedByTable_record :
    (∀ st, ∃ s : State, s.seq.state = st ∧ s.isTrain = true ∧ IsNew s 1 (.measure (.train 0 0 8001 0 0))
        ∧ MeasureForm.wellFormed (.train 0 0 8001 0 0) = true ∧ s.heat.zones.length = 8 ∧ Latches s (.train 0 0 8001 0 0) .native
        ∧ RetryIn s s.bank.monitor .stale)
    ∧ (∃ s : State, s.seq.state = .running ∧ s.isTrain = true ∧ BecomesActive s (.train 0 0 6000 601 0) .thermal
        ∧ s.inForce.modes.get .thermal = .retry ∧ ∀ m, ¬ Latches s (.train 0 0 6000 601 0) m)
    ∧ (∃ s : State, s.isStore = true ∧ s.seq.state = .active ∧ BecomesActive s (.store (List.replicate 8 701)) .zoneHigh
        ∧ MeasureForm.wellFormed (.store (List.replicate 8 701)) = true) := by
  refine ⟨fun st => ⟨{ train st with bank := { native := ⟨.pending, 2, 0, true⟩, stale := ⟨.active, 0, 0, true⟩ } }, rfl, rfl,
      isNew_of_idle rfl rfl _ _, rfl, rfl, ⟨⟨⟨by simp [train, station]; decide, trivial⟩, ?_, ?_⟩, ?_⟩, ?_, ?_⟩,
    ⟨{ train .running with bank := { thermal := ⟨.pending, 2, 0, true⟩ } }, rfl, rfl, ⟨⟨by decide, Or.inl rfl, rfl⟩, by decide, by decide⟩,
      rfl, ?_⟩,
    ⟨{ store .active with bank := { zoneHigh := ⟨.pending, 2, 0, true⟩ } }, rfl, rfl, ⟨⟨by decide, trivial⟩, by decide, by decide⟩, by decide⟩⟩
  · simp [Bank.monitor]
  · show (judgeMonitor 3 true ⟨.pending, 2, 0, true⟩).cond = .active; decide
  · rfl
  · rfl
  · rfl
  · rintro m ⟨⟨hj, hb, ha⟩, hm⟩
    cases m <;> first | exact absurd hm (by decide) | exact absurd ha (by decide)

/-- Two monitors that become ACTIVE at one record, with two places left for their reports: M_NATIVE is in LATCH. -/
theorem witness_MonitorJudgedByTable_warns :
    let s := { train .running with
      bank := { cap := 400, thermal := ⟨.pending, 2, 0, true⟩, margin := ⟨.pending, 2, 0, true⟩ }
      link := { reports := List.replicate 14 ⟨0, .rxOverrun⟩ } }
    NativeModeLaw s ∧ s.link.reports.length + 2 ≤ 16 ∧ BecomesActive s (.train 0 0 6000 601 0) .thermal
    ∧ BecomesActive s (.train 0 0 6000 601 0) .margin ∧ s.inForce.modes.get .thermal = .retry ∧ s.inForce.modes.get .margin = .retry
    ∧ ((after s (.measure 2000 1 (.train 0 0 6000 601 0))).link.reports.drop 14).map NumberedReport.report
        = [.monitorWarn .thermal .retry, .monitorWarn .margin .retry] :=
  ⟨rfl, by decide, ⟨⟨by decide, Or.inl rfl, rfl⟩, by decide, by decide⟩, ⟨⟨by decide, Or.inl rfl, rfl⟩, by decide, by decide⟩, rfl, rfl,
    by decide⟩

theorem witness_MonitorJudgedByTable :
    (1 : Nat) ≤ 1 ∧ ({} : MonState).cond = .clear ∧ (⟨.pending, 14, 0, true⟩ : MonState).cond = .pending ∧ (15 : Nat) ≤ 14 + 1
    ∧ (⟨.active, 0, 0, true⟩ : MonState).cond = .active ∧ (⟨.latched, 0, 0, true⟩ : MonState).cond = .latched := by decide

/-- The ends of the ranges of each frame. -/
theorem witness_FramesDecodeToThemselves :
    Frame.InRange (.status ⟨15, some .conflict, .train
      ⟨.X, 4, some 15, true, true, true, true, 31, 4294967295, some (-3000), 2500, 2500, 1000, 5000, 2500, 2500⟩⟩)
    ∧ Frame.InRange (.status ⟨0, some .active, .store ⟨true, true, 31, 5000, 5000, 800, 8⟩⟩)
    ∧ Frame.InRange (.alert ⟨15, .trip, ⟨some 4294967294, 65535, some 4294967294⟩⟩) ∧ Frame.InRange (.alert ⟨0, .conflict, {}⟩) := by
  refine ⟨⟨by decide, ?_, .conflict, rfl, by decide⟩, ⟨by decide, by unfold StoreFields.InRange; decide, .active, rfl, by decide⟩, ?_, ?_⟩
  · refine ⟨by decide, by decide, by decide, ?_, by decide, by decide, ?_, by decide, by decide, by decide, by decide, by decide, by decide⟩
    · intro a h; cases h; decide
    · intro v h; cases h; decide
  · refine ⟨by decide, ?_, by decide, ?_, by decide⟩ <;> intro i h <;> cases h <;> decide
  · refine ⟨by decide, ?_, by decide, ?_, fun _ => rfl⟩ <;> intro i h <;> cases h

theorem witness_RecordBytesAreTheirRequest :
    asRequest (.measure 5 1 (.store (List.replicate 8 65535))) = some (5, 1, .measure (.store (List.replicate 8 65535)))
    ∧ Request.WellFormed (.measure (.store (List.replicate 8 65535))) := ⟨rfl, by unfold Request.WellFormed; decide⟩

/-- The invariants' premises: a reset station with a command in its queue, which steps. -/
theorem witness_StepKeepsLaws :
    let s : State := { pending := [.seal 5 1] }
    (CommandLaw s ∧ CapacityLaw s ∧ BookLaw s ∧ ViewLaw s ∧ HoldLaw s ∧ AvailableLaw s ∧ TripOutLaw s) ∧ (LatchLaw s ∧ PermitLaw s ∧ TimerLaw s
      ∧ CooledLaw s ∧ LinkLaw s ∧ StoreLaw s ∧ WakeDelayLaw s ∧ NativeModeLaw s) ∧ ∃ u, step s = .next u := by
  refine ⟨⟨Or.inl rfl, ?_, ⟨listLaw_nil, listLaw_nil⟩, ?_, ?_, ?_, ?_⟩, ⟨?_, ?_, ?_, ?_, ?_, ?_, ?_, rfl⟩, _, rfl⟩
  · unfold CapacityLaw; decide
  · simp [ViewLaw]
  · simp [HoldLaw]
  · simp [AvailableLaw]
  · simp [TripOutLaw]
  · simp [LatchLaw, StationState.inService]
  · simp [PermitLaw]
  · simp [TimerLaw]
  · simp [CooledLaw]
  · simp [LinkLaw]
  · simp [StoreLaw, State.isStore, InForce.kind]
  · unfold WakeDelayLaw; decide

end Sys2Proof.Tests
end

section
/-! PROOFS. The overrun mark of the receive queue (R10): what an arrival at a full queue does, that applying a frame leaves the mark as the
removal of the head left it unless the read of U ends a leave, and that the resets clear it. -/

namespace Sys2Proof.Machine

/-! ## An arrival at a full queue -/

/-- A frame from another address comes to the receive queue of a sealed station (R7). -/
theorem arrival_of_frame {s : State} {bytes : List Byte} {f : Frame} (hs : s.seq.state ≠ .offline)
    (hd : decodeFrame bytes = .frame f) (ha : f.address ≠ s.inForce.address) : arrival bytes s = enqueue f s := by
  have hsealed : s.isSealed = true := by simpa [State.isSealed] using hs
  simp [arrival, hsealed, hd, receiveFrame, ha]

theorem enqueue_full_marked {s : State} (h : s.bus.rx.length = 8) (hm : s.bus.overrun = true) (f : Frame) : enqueue f s = s := by
  simp [enqueue, Config.rxCapacity, h, hm]

theorem enqueue_full_unmarked {s : State} (h : s.bus.rx.length = 8) (hm : s.bus.overrun = false) (f : Frame) :
    enqueue f s = produce .rxOverrun { s with bus := { s.bus with overrun := true } } := by
  simp [enqueue, Config.rxCapacity, h, hm]

/-! ## The end of a leave and the read of U -/

@[simp] theorem endLeave_overrun (s : State) : (endLeave s).bus.overrun = false := by
  simp [endLeave, standDown]

/-- The mark stays as it was, except that an operation that takes the station to OFFLINE clears it. -/
def KeepsMarkUntilOffline (s u : State) : Prop :=
  u.bus.overrun = s.bus.overrun ∨ (u.seq.state = .offline ∧ u.bus.overrun = false)

/-- Only the end of a leave makes a change of the command touch the mark. -/
theorem setCommand_keepsMark (c : Nat) (s : State) : KeepsMarkUntilOffline s (setCommand c s) := by
  by_cases hc : c = s.share.command
  · left; simp [setCommand, hc]
  · by_cases hl : s.seq.state = .leaving ∧ c = 0
    · obtain ⟨hleaving, rfl⟩ := hl
      right; simp [setCommand, hc, hleaving]
    · left; rw [setCommand_stays hc hl]

/-- The mode decision, the evaluation of AVAILABLE and the SETPOINT leave the bus alone: a read of U clears the mark only where its cut ends
a leave (R50, R113). -/
theorem readUpper_keepsMark (s : State) : KeepsMarkUntilOffline s (readUpper s) := by
  obtain ⟨-, hr⟩ | ⟨-, hr, -⟩ | ⟨-, -, -, hr⟩ := readUpper_cases s
  · left; rw [hr]
  · left; simp [hr]
  · have hcut := setCommand_keepsMark (upperLimit (decideMode s)) (readU (decideMode s))
    simpa [KeepsMarkUntilOffline, hr] using hcut

/-- An event whose last work is a read of U, with no change of the bus before it. -/
theorem readUpper_keepsMark_of_bus_eq {s v : State} (h : v.bus = s.bus) : KeepsMarkUntilOffline s (readUpper v) := by
  simpa [KeepsMarkUntilOffline, h] using readUpper_keepsMark v

/-! ## The application of a frame -/

theorem applyStatus_keepsMark (f : StatusFrame) (tag : Relation) (arr : Nat) (s : State) :
    KeepsMarkUntilOffline s (applyStatus f tag arr s) := by
  apply readUpper_keepsMark_of_bus_eq
  cases s.isTrain <;> simp

theorem applyAlert_keepsMark (a : Alert) (s : State) : KeepsMarkUntilOffline s (applyAlert a s) := by
  unfold applyAlert
  cases findEntry s.view a.address with
  | none => exact .inl rfl
  | some e => exact readUpper_keepsMark_of_bus_eq rfl

theorem loseEntry_keepsMark (e : Entry) (s : State) : KeepsMarkUntilOffline s (loseEntry e s) := by
  apply readUpper_keepsMark_of_bus_eq
  by_cases hlost : e.status = .lost <;> simp [hlost]

theorem applyConflict_keepsMark (a : Alert) (s : State) : KeepsMarkUntilOffline s (applyConflict a s) := by
  unfold applyConflict
  cases findEntry s.view a.address with
  | none => exact .inl rfl
  | some e => exact loseEntry_keepsMark e s

/-! ## The removal of the head -/

/-- The mark after the view took the head of the queue and applied it: as it was where frames remain and the station is not OFFLINE, clear where
the queue was emptied (R10). -/
def MarkEndsWithQueue (rest : List RxFrame) (s u : State) : Prop :=
  (rest ≠ [] → u.seq.state ≠ .offline → u.bus.overrun = s.bus.overrun) ∧ (rest = [] → u.bus.overrun = false)

theorem removeHead_overrun {s : State} {x : RxFrame} {rest : List RxFrame} (h : s.bus.rx = x :: rest) :
    (removeHead s).bus.overrun = (s.bus.overrun && !rest.isEmpty) := by
  simp [removeHead, h]

/-- A frame applied after its removal from the queue leaves the mark to the removal. -/
theorem markEndsWithQueue_of_removeHead {s u : State} {x : RxFrame} {rest : List RxFrame} (h : s.bus.rx = x :: rest)
    (hu : KeepsMarkUntilOffline (removeHead s) u) : MarkEndsWithQueue rest s u := by
  have hmark := removeHead_overrun h
  constructor
  · intro hrest hstate
    obtain hkeep | ⟨hoff, -⟩ := hu
    · simp [hkeep, hmark, hrest]
    · exact absurd hoff hstate
  · rintro rfl
    obtain hkeep | ⟨-, hclear⟩ := hu
    · simp [hkeep, hmark]
    · exact hclear

theorem applyHeadStatus_mark {s : State} {f : StatusFrame} {tag : Relation} {arr : Nat} {rest : List RxFrame}
    (h : s.bus.rx = ⟨.status f, tag, arr⟩ :: rest) : MarkEndsWithQueue rest s (applyHeadStatus s) := by
  have happly : applyHeadStatus s = applyStatus f tag arr (removeHead s) := by simp [applyHeadStatus, h]
  rw [happly]
  exact markEndsWithQueue_of_removeHead h (applyStatus_keepsMark f tag arr _)

theorem applyHeadAlert_mark {s : State} {a : Alert} {tag : Relation} {arr : Nat} {rest : List RxFrame}
    (h : s.bus.rx = ⟨.alert a, tag, arr⟩ :: rest) (ha : a.reason ≠ .conflict) : MarkEndsWithQueue rest s (applyHeadAlert s) := by
  have happly : applyHeadAlert s = applyAlert a (removeHead s) := by simp [applyHeadAlert, h, ha]
  rw [happly]
  exact markEndsWithQueue_of_removeHead h (applyAlert_keepsMark a _)

theorem applyHeadConflict_mark {s : State} {a : Alert} {tag : Relation} {arr : Nat} {rest : List RxFrame}
    (h : s.bus.rx = ⟨.alert a, tag, arr⟩ :: rest) (ha : a.reason = .conflict) : MarkEndsWithQueue rest s (applyHeadConflict s) := by
  have happly : applyHeadConflict s = applyConflict a (removeHead s) := by simp [applyHeadConflict, h, ha]
  rw [happly]
  exact markEndsWithQueue_of_removeHead h (applyConflict_keepsMark a _)

/-! ## The statement's parts -/

theorem exec_frameArrival_full_marked {s : State} {bytes : List Byte} {f : Frame} (t : Nat) (hs : s.seq.state ≠ .offline)
    (hd : decodeFrame bytes = .frame f) (ha : f.address ≠ s.inForce.address) (hfull : s.bus.rx.length = 8)
    (hm : s.bus.overrun = true) : exec (.frameArrival t bytes) s = .next (s.atInstant t) := by
  have hdrop : arrival bytes (s.atInstant t) = s.atInstant t := by
    rw [arrival_of_frame (s := s.atInstant t) hs hd ha, enqueue_full_marked (s := s.atInstant t) hfull hm]
  exact congrArg Host.Outcome.next hdrop

theorem exec_frameArrival_full_unmarked {s : State} {bytes : List Byte} {f : Frame} (t : Nat) (hs : s.seq.state ≠ .offline)
    (hd : decodeFrame bytes = .frame f) (ha : f.address ≠ s.inForce.address) (hfull : s.bus.rx.length = 8)
    (hm : s.bus.overrun = false) : exec (.frameArrival t bytes) s =
      .next (produce .rxOverrun { s.atInstant t with bus := { s.bus with overrun := true } }) := by
  have hreport : arrival bytes (s.atInstant t) = produce .rxOverrun { s.atInstant t with bus := { s.bus with overrun := true } } := by
    rw [arrival_of_frame (s := s.atInstant t) hs hd ha, enqueue_full_unmarked (s := s.atInstant t) hfull hm]; rfl
  exact congrArg Host.Outcome.next hreport

/-- A new RESTART leaves the mark clear. -/
theorem restart_gives_mark_clear {s : State} {tag : Byte} (h : IsNew s tag .restart) (t : Nat) :
    Gives (.restart t tag) s fun u => u.bus.overrun = false :=
  ⟨_, exec_new (r := .restart) rfl h rfl, rfl⟩

/-- Settles O34: an arrival by the mark, each application through the removal of the head, the resets and the end of a leave by their own
equations. -/
theorem overrunIsReportedOnce : Obligations.OverrunIsReportedOnce := by
  refine ⟨fun s t bytes f hs hd ha hfull => ⟨exec_frameArrival_full_marked t hs hd ha hfull, fun hm => ?_⟩,
    fun s t f tag arr rest h => ⟨_, rfl, applyHeadStatus_mark (s := s.atInstant t) h⟩,
    fun s t a tag arr rest h => ⟨fun ha => ⟨_, rfl, applyHeadAlert_mark (s := s.atInstant t) h ha⟩,
      fun ha => ⟨_, rfl, applyHeadConflict_mark (s := s.atInstant t) h ha⟩⟩,
    rfl, fun s t tag h => restart_gives_mark_clear h t, endLeave_overrun⟩
  exact ⟨_, exec_frameArrival_full_unmarked t hs hd ha hfull hm, rfl, rfl, rfl, produce_queued .rxOverrun _⟩

end Sys2Proof.Machine
end

section
/-! PROOFS. QUERY BOOK (R37): which list a list byte names, what the reply shows of a list, and what the laws of the book and of a store say
of the list shown. -/

namespace Sys2Proof.Machine

/-! ## The list that a byte names -/

/-- The byte names a list of the book with these entries: 1 the nominations, 2 the orders (R165). -/
theorem listOfCode_of_named {b : Book} {list : Byte} {es : List BookEntry}
    (h : (list = 1 ∧ es = b.noms) ∨ (list = 2 ∧ es = b.orders)) : ∃ l, listOfCode list.toNat = some l ∧ b.list l = es := by
  obtain ⟨rfl, rfl⟩ | ⟨rfl, rfl⟩ := h
  · exact ⟨.nominations, rfl, rfl⟩
  · exact ⟨.orders, rfl, rfl⟩

theorem listOfCode_of_unnamed {list : Byte} (h1 : list ≠ 1) (h2 : list ≠ 2) : listOfCode list.toNat = none := by
  have hn1 : list.toNat ≠ 1 := fun h => h1 (BitVec.eq_of_toNat_eq h)
  have hn2 : list.toNat ≠ 2 := fun h => h2 (BitVec.eq_of_toNat_eq h)
  unfold listOfCode
  split
  · contradiction
  · contradiction
  · rfl

/-! ## The reply -/

theorem queryBookBody_entry {s : State} {l : ListName} {i : Nat} {e : BookEntry} (h : (s.book.list l)[i]? = some e) :
    queryBookBody s l i = byteOf (s.book.list l).length :: (bytes4 e.first ++ bytes2 e.count ++ signed2 e.amount) := by
  simp [queryBookBody, h]

/-- Past the end the reply carries the number of entries and no entry. -/
theorem queryBookBody_past {s : State} {l : ListName} {i : Nat} (h : (s.book.list l).length ≤ i) :
    queryBookBody s l i = [byteOf (s.book.list l).length] := by
  simp [queryBookBody, h]

theorem queryBookBody_atInstant (t : Nat) (s : State) (l : ListName) (i : Nat) :
    queryBookBody (s.atInstant t) l i = queryBookBody s l i := by
  simp [queryBookBody]

/-- A byte that names a list is answered with it, in every state, and the query changes nothing. -/
theorem exec_queryBook_named {s : State} {tag list index : Byte} {l : ListName} (hn : IsNew s tag (.queryBook list index))
    (hl : listOfCode list.toNat = some l) (t : Nat) : exec (.queryBook t tag list index) s =
      .next (answered (s.atInstant t) tag (.queryBook list index) (.data (queryBookBody s l index.toNat))) := by
  have hh : handle (.queryBook list index) (s.atInstant t) = ⟨s.atInstant t, .data (queryBookBody s l index.toNat)⟩ := by
    simp [handle, handleQueryBook, hl, queryBookBody_atInstant]
  exact exec_new rfl hn hh

theorem exec_queryBook_unnamed {s : State} {tag list index : Byte} (hn : IsNew s tag (.queryBook list index))
    (hl : listOfCode list.toNat = none) (t : Nat) : exec (.queryBook t tag list index) s =
      .next (answered (s.atInstant t) tag (.queryBook list index) (.refuse .unknown)) := by
  have hh : handle (.queryBook list index) (s.atInstant t) = ⟨s.atInstant t, .refuse .unknown⟩ := by
    simp [handle, handleQueryBook, hl, refuse]
  exact exec_new rfl hn hh

/-! ## What the laws say of a list of the book -/

theorem listLaw_of_bookLaw {s : State} (h : BookLaw s) : ∀ l, ListLaw (s.book.list l)
  | .nominations => h.1
  | .orders => h.2

/-- Position 0 holds the entry with the earliest first interval (R31): every later entry begins after the first one ends. -/
theorem first_le_of_listLaw {es : List BookEntry} {e e' : BookEntry} (h : ListLaw es) (he : es[0]? = some e) (he' : e' ∈ es) :
    e.first ≤ e'.first := by
  obtain ⟨-, hordered⟩ := h
  cases es with
  | nil => cases he'
  | cons x xs =>
    obtain rfl : x = e := by simpa using he
    obtain rfl | hlater := List.mem_cons.mp he'
    · exact Nat.le_refl _
    · exact Nat.le_of_add_right_le (List.rel_of_pairwise_cons hordered hlater)

theorem list_eq_nil_of_storeLaw {s : State} (h : StoreLaw s) (hs : s.isStore = true) (l : ListName) : s.book.list l = [] := by
  obtain ⟨-, hnoms, horders, -⟩ := h hs
  cases l with
  | nominations => exact hnoms
  | orders => exact horders

/-- Settles O22: by the list that the byte names, then by the index against its length. -/
theorem queryBookShowsList : Obligations.QueryBookShowsList := by
  intro s t tag list index hn
  constructor
  · intro es hes
    obtain ⟨l, hl, rfl⟩ := listOfCode_of_named hes
    have hexec := exec_queryBook_named hn hl t
    exact ⟨fun e he => by rw [hexec, queryBookBody_entry he], fun hpast => by rw [hexec, queryBookBody_past hpast],
      fun hlaw e e' => first_le_of_listLaw (listLaw_of_bookLaw hlaw l), fun hlaw hs => list_eq_nil_of_storeLaw hlaw hs l⟩
  · intro h1 h2
    exact exec_queryBook_unnamed hn (listOfCode_of_unnamed h1 h2) t

end Sys2Proof.Machine
end

section
/-! PROOFS. The snap to the minimum stable load (R61). -/

namespace Sys2Proof.Machine

theorem snap_to_minLoad {m desired : Nat} (h0 : 1 ≤ desired) (hm : desired ≤ m - 1) (hhalf : m ≤ 2 * desired) :
    snap m desired = m := by
  have hbelow : ¬ (desired = 0 ∨ m ≤ desired) := by omega
  have hup : (m + 1) / 2 ≤ desired := by omega
  rw [snap, if_neg hbelow, if_pos hup]

theorem snap_to_zero {m desired : Nat} (h0 : 1 ≤ desired) (hhalf : 2 * desired < m) :
    snap m desired = 0 := by
  have hbelow : ¬ (desired = 0 ∨ m ≤ desired) := by omega
  have hdown : ¬ (m + 1) / 2 ≤ desired := by omega
  rw [snap, if_neg hbelow, if_neg hdown]

theorem snap_of_stable {m desired : Nat} (h : desired = 0 ∨ m ≤ desired) : snap m desired = desired := if_pos h

/-- Settles O46: the two sides of ⌈m/2⌉, and the values that the snap leaves. -/
theorem snapToMinimumStableLoad : Obligations.SnapToMinimumStableLoad :=
  fun _ _ => ⟨snap_to_minLoad, fun h0 _ hhalf => snap_to_zero h0 hhalf, snap_of_stable⟩

end Sys2Proof.Machine
end

section
/-! PROOFS. The rise of the command (R62): the ramp, the command that the share computation gives within it, and that no other command
of the station raises the command, since each either keeps it, cuts it or sets it to 0. -/

namespace Sys2Proof.Machine

/-! ## The ramp -/

theorem ramp_of_fall {command desired : Nat} (m r : Nat) (h : desired ≤ command) : ramp command m r desired = desired := if_pos h

theorem ramp_of_rise {command desired : Nat} (m r : Nat) (h : command < desired) (h0 : 0 < command) :
    ramp command m r desired = min desired (command + r) := by
  rw [ramp, if_neg (Nat.not_le.mpr h), if_neg (Nat.ne_of_gt h0)]

theorem ramp_from_zero {desired : Nat} (m r : Nat) (h : 0 < desired) : ramp 0 m r desired = min desired (max m r) := by
  rw [ramp, if_neg (Nat.not_le.mpr h), if_pos rfl]

/-- The value `v` is no higher than the ramp lets the command go in one control period. -/
def WithinRamp (command m r v : Nat) : Prop := v ≤ command + r ∨ (command = 0 ∧ v ≤ max m r)

theorem withinRamp_of_le {command m r v : Nat} (h : v ≤ command) : WithinRamp command m r v :=
  .inl (Nat.le_add_right_of_le h)

theorem WithinRamp.of_le {command m r v w : Nat} (hw : WithinRamp command m r w) (h : v ≤ w) : WithinRamp command m r v :=
  hw.imp (Nat.le_trans h) (And.imp_right (Nat.le_trans h))

theorem ramp_withinRamp (command m r desired : Nat) : WithinRamp command m r (ramp command m r desired) := by
  obtain hrise | hfall := Nat.lt_or_ge command desired
  · obtain rfl | h0 := Nat.eq_zero_or_pos command
    · exact .inr ⟨rfl, by rw [ramp_from_zero m r hrise]; exact Nat.min_le_right ..⟩
    · exact .inl (by rw [ramp_of_rise m r hrise h0]; exact Nat.min_le_right ..)
  · exact withinRamp_of_le (by rwa [ramp_of_fall m r hfall])

/-! ## The share computation -/

theorem stepDown_le (command r m : Nat) : stepDown command r m ≤ command := by
  unfold stepDown; split <;> omega

/-- Where a rise is barred the old command is kept, cut to U (R64). -/
theorem allow_cases (s : State) (k : Kind) (result : Nat) : allow s k result = result ∨ allow s k result ≤ s.share.command := by
  unfold allow
  split
  · exact .inl rfl
  · split
    · exact .inl rfl
    · exact .inr (Nat.min_le_right ..)

theorem newCommand_withinRamp (s : State) (k : Kind) :
    WithinRamp s.share.command s.inForce.minLoad s.inForce.rampStep (newCommand s k) := by
  by_cases hd : inDirection s k = true
  · rw [newCommand, if_pos hd]
    obtain htaken | hkept := allow_cases s k
      (cutTo s.share.lastU (ramp s.share.command s.inForce.minLoad s.inForce.rampStep
        (snap s.inForce.minLoad (desiredInDirection s k))))
    · rw [htaken]
      exact (ramp_withinRamp ..).of_le (Nat.min_le_right ..)
    · exact withinRamp_of_le hkept
  · rw [newCommand, if_neg hd]
    exact withinRamp_of_le (Nat.le_trans (Nat.min_le_right ..) (stepDown_le ..))

/-! ## The command after a control period expiry -/

/-- The command becomes the one asked for, also where its fall to 0 ends a leave. -/
@[simp] theorem setCommand_command (c : Nat) (s : State) : (setCommand c s).share.command = c := by
  obtain ⟨rfl, hsame⟩ | ⟨-, -, hset, -⟩ | ⟨-, -, rfl, hend, -⟩ := setCommand_cases c s
  · rw [hsame]
  · exact hset
  · exact hend

@[simp] theorem loadedExpiry_command (k : Kind) (s : State) : (loadedExpiry k s).share.command = newCommand s k :=
  setCommand_command ..

@[simp] theorem enterStarting_command (s : State) : (enterStarting s).share.command = 0 := rfl

theorem standbyExpiry_command_le (k : Kind) (s : State) : (standbyExpiry k s).share.command ≤ s.share.command := by
  unfold standbyExpiry
  dsimp only
  split
  · simp
  · exact Nat.le_refl _

theorem expiryStages_withinRamp (k : Kind) (s : State) :
    WithinRamp s.share.command s.inForce.minLoad s.inForce.rampStep (expiryStages k s).share.command := by
  have hcommand : (readAtExpiry (bookExpiry s)).share.command = s.share.command := by simp
  have hinForce : (readAtExpiry (bookExpiry s)).inForce = s.inForce := by simp
  rw [← hcommand, ← hinForce, expiryStages]
  generalize readAtExpiry (bookExpiry s) = v
  by_cases hl : v.seq.state.loaded = true
  · simpa [hl] using newCommand_withinRamp v k
  · by_cases hs : v.seq.state = .standby
    · simpa [hs, StationState.loaded] using withinRamp_of_le (standbyExpiry_command_le k v)
    · simpa [hl, hs] using withinRamp_of_le (Nat.le_refl v.share.command)

theorem controlExpiry_withinRamp (s : State) :
    WithinRamp s.share.command s.inForce.minLoad s.inForce.rampStep (controlExpiry s).share.command := by
  unfold controlExpiry
  split
  · split
    · exact expiryStages_withinRamp ..
    · exact withinRamp_of_le (Nat.le_refl _)
  · exact withinRamp_of_le (Nat.le_refl _)

/-! ## The read of U and the changes of state -/

theorem readUpper_command_le (s : State) : (readUpper s).share.command ≤ s.share.command := by
  obtain ⟨-, hr⟩ | ⟨-, hr, -⟩ | ⟨-, -, hcut, hr⟩ := readUpper_cases s
  · exact Nat.le_of_eq (by rw [hr])
  · simp [hr]
  · simpa [hr] using Nat.le_of_lt hcut

/-- An event whose last work is a read of U, with no change of the share unit before it. -/
theorem readUpper_command_le_of_share_eq {s v : State} (h : v.share = s.share) :
    (readUpper v).share.command ≤ s.share.command := h ▸ readUpper_command_le v

theorem readIfCapChanged_command_le (cap : Nat) (s : State) : (readIfCapChanged cap s).share.command ≤ s.share.command := by
  unfold readIfCapChanged
  split
  · exact Nat.le_refl _
  · exact readUpper_command_le s

@[simp] theorem dropCommand_command (s : State) : (dropCommand s).share.command = 0 := rfl

@[simp] theorem enterStandby_command (cause : Cause) (s : State) : (enterStandby cause s).share.command = 0 :=
  Nat.le_zero.mp (Nat.le_trans (readIfCapChanged_command_le ..) (by simp))

@[simp] theorem trip_command (ms : List Monitor) (s : State) : (trip ms s).share.command = 0 := by simp [trip]

@[simp] theorem addressConflict_command (s : State) : (addressConflict s).share.command = 0 :=
  Nat.le_zero.mp (Nat.le_trans (readIfCapChanged_command_le ..) (by simp))

/-- Latches end in a trip, or leave the command. -/
theorem handleLatches_command_le (ms : List Monitor) (s : State) : (handleLatches ms s).share.command ≤ s.share.command := by
  unfold handleLatches
  split
  · exact Nat.le_refl _
  · split
    · exact Nat.le_refl _
    · split
      · simp
      · exact Nat.le_refl _

/-! ## The monitor bank -/

/-- The end of a record's or a stale expiry's work: the latches reach the sequencer, and U is read. -/
theorem readAfterLatches_command_le (ms : List Monitor) (s : State) :
    (readUpper (formPublished (handleLatches ms s))).share.command ≤ s.share.command :=
  Nat.le_trans (readUpper_command_le _) (by simpa using handleLatches_command_le ms s)

theorem bankRecord_command_le (r : Measurement) (s : State) : (bankRecord r s).share.command ≤ s.share.command := by
  have hwork : bankRecord r s = readUpper (formPublished (handleLatches (judgeRecord r (endStale s)).2
      (retryStage (anyActiveRetry (endStale s)) (judgeRecord r (endStale s)).1))) := rfl
  rw [hwork]
  exact Nat.le_trans (readAfterLatches_command_le _ _)
    (Nat.le_of_eq <| by simp only [retryStage_keeps, judgeRecord_keeps, endStale_keeps])

theorem takeRecord_command_le (r : Measurement) (s : State) : (takeRecord r s).share.command ≤ s.share.command := by
  unfold takeRecord
  cases r with
  | train => exact Nat.le_trans (bankRecord_command_le _ _) (Nat.le_of_eq <| by simp only [accountRecord_keeps])
  | store => exact Nat.le_trans (bankRecord_command_le _ _) (Nat.le_of_eq <| by simp only [classifyRecord_keeps])

theorem staleExpiry_command_le (s : State) : (staleExpiry s).share.command ≤ s.share.command := by
  have hwork : staleExpiry s = readUpper (formPublished (handleLatches
      (judgeStale { s with link := { s.link with staleTimer := none, staleMark := true } }).2
      (judgeStale { s with link := { s.link with staleTimer := none, staleMark := true } }).1)) := rfl
  rw [hwork]
  exact Nat.le_trans (readAfterLatches_command_le _ _) (Nat.le_of_eq <| by simp only [judgeStale_keeps])

theorem staleTimerExpires_command_le (s : State) : (staleTimerExpires s).share.command ≤ s.share.command := by
  unfold staleTimerExpires
  split
  · exact Nat.le_refl _
  · exact staleExpiry_command_le _

theorem leaveTripped_command_le (s : State) : (leaveTripped s).share.command ≤ s.share.command := by
  unfold leaveTripped
  dsimp only
  split <;> simp

theorem acceptClear_command_le (s : State) : (acceptClear s).share.command ≤ s.share.command := by
  refine Nat.le_trans (readUpper_command_le _) ?_
  by_cases ht : s.seq.state = .tripped
  · simpa [ht] using leaveTripped_command_le (unlatchGone s)
  · simp [ht]

/-! ## The requests of the train controller -/

@[simp] theorem startStation_command (s : State) : (startStation s).share.command = 0 := rfl

@[simp] theorem acceptSeal_command (s : State) : (acceptSeal s).share.command = 0 := by
  unfold acceptSeal
  dsimp only
  split <;> simp

theorem replaceList_command (l : ListName) (es : List BookEntry) (mark clamped : Bool) (s : State) :
    (replaceList l es mark clamped s).state.share.command = s.share.command := by
  unfold replaceList; split <;> rfl

theorem handleInsert_command (l : ListName) (first count : Nat) (amount : Int) (s : State) :
    (handleInsert l first count amount s).state.share.command = s.share.command := by
  unfold handleInsert
  dsimp only
  split
  · rfl
  · exact replaceList_command ..

theorem handleCancel_command (list : Byte) (first count : Nat) (s : State) :
    (handleCancel list first count s).state.share.command = s.share.command := by
  unfold handleCancel
  split
  · rfl
  · dsimp only
    split
    · rfl
    · exact replaceList_command ..

theorem handleSetItem_command (item monitor : Byte) (value : Word) (s : State) :
    (handleSetItem item monitor value s).state.share.command = s.share.command := by
  unfold handleSetItem
  split
  · rfl
  · split <;> rfl

theorem handleSetTime_command (number : Nat) (s : State) : (handleSetTime number s).state.share.command = s.share.command := by
  unfold handleSetTime; repeat' split
  all_goals rfl

theorem handleQueryBook_command (list index : Byte) (s : State) :
    (handleQueryBook list index s).state.share.command = s.share.command := by
  unfold handleQueryBook; split <;> rfl

/-- An accepted SEAL starts the station with command 0 (R105); a refused one changes nothing (R150). -/
theorem handleSeal_command_le (s : State) : (handleSeal s).state.share.command ≤ s.share.command := by
  unfold handleSeal; repeat' split
  all_goals simp [refuse]

theorem handleMeasure_command_le (form : MeasureForm) (s : State) :
    (handleMeasure form s).state.share.command ≤ s.share.command := by
  unfold handleMeasure
  split
  · exact Nat.le_refl _
  · split
    · exact Nat.le_refl _
    · split
      · exact Nat.le_refl _
      · exact takeRecord_command_le ..

theorem handleClear_command_le (s : State) : (handleClear s).state.share.command ≤ s.share.command := by
  unfold handleClear
  split
  · exact Nat.le_refl _
  · split
    · exact Nat.le_refl _
    · exact acceptClear_command_le s

/-- LEAVE ends the leave at once, which sets the command to 0, or starts it with the command as it stands (R112). -/
theorem handleLeave_command_le (s : State) : (handleLeave s).state.share.command ≤ s.share.command := by
  unfold handleLeave; repeat' split
  all_goals simp [refuse, leaveAtOnce, startLeaving, startStoreLeaving]

theorem handle_command_le (r : Request) (s : State) : (handle r s).state.share.command ≤ s.share.command :=
  match r with
  | .setItem .. => Nat.le_of_eq (handleSetItem_command ..)
  | .seal => handleSeal_command_le s
  | .measure form => handleMeasure_command_le form s
  | .setTime _ => Nat.le_of_eq (handleSetTime_command ..)
  | .nominate .. => Nat.le_of_eq (handleInsert_command ..)
  | .order .. => Nat.le_of_eq (handleInsert_command ..)
  | .cancel .. => Nat.le_of_eq (handleCancel_command ..)
  | .clear => handleClear_command_le s
  | .leave => handleLeave_command_le s
  | .restart => Nat.zero_le _
  | .queryState => Nat.le_refl _
  | .queryPeer _ => Nat.le_refl _
  | .queryBook .. => Nat.le_of_eq (handleQueryBook_command ..)
  | .readLog => Nat.le_refl _
  | .releaseLog _ => Nat.le_refl _

/-- The exchange touches the link alone, beside what the request does (R148). -/
theorem exchange_command_le {act : State → Handled} (code tag : Byte) (body : List Byte) {s : State}
    (h : (act s).state.share.command ≤ s.share.command) : (exchange code tag body act s).share.command ≤ s.share.command := by
  unfold exchange
  split
  · exact Nat.le_refl _
  · split
    · exact Nat.le_refl _
    · exact h

theorem request_command_le (t : Nat) (tag : Byte) (r : Request) (s : State) :
    (request t tag r s).share.command ≤ s.share.command := exchange_command_le _ _ _ (handle_command_le r (s.atInstant t))

/-! ## The link's other events -/

theorem repeatKept_command_le (s : State) : (repeatKept s).share.command ≤ s.share.command := by
  unfold repeatKept
  split
  · exact exchange_command_le _ _ _ (Nat.le_refl _)
  · exact Nat.le_refl _

theorem goodRecord_command_le (code tag : Byte) (body : List Byte) (s : State) :
    (goodRecord code tag body s).share.command ≤ s.share.command := by
  unfold goodRecord
  split
  · exact exchange_command_le _ _ _ (handle_command_le _ s)
  · exact exchange_command_le _ _ _ (Nat.le_refl _)

theorem recordArrival_command_le (bytes : List Byte) (s : State) : (recordArrival bytes s).share.command ≤ s.share.command := by
  unfold recordArrival
  split
  · exact Nat.le_refl _
  · split
    · exact goodRecord_command_le ..
    · exact Nat.le_refl _

theorem transmit_command (s : State) : (transmit s).share.command = s.share.command := by
  unfold transmit; repeat' split
  all_goals rfl

theorem recordSent_command (s : State) : (recordSent s).share.command = s.share.command := by
  unfold recordSent; split <;> rfl

/-! ## The lines and the interval clock -/

theorem permitRemoved_command_le (s : State) : (permitRemoved s).share.command ≤ s.share.command := by
  unfold permitRemoved; repeat' split
  all_goals simp

theorem permitTo_command_le (level : Bool) (s : State) : (permitTo level s).share.command ≤ s.share.command := by
  unfold permitTo
  split
  · exact Nat.le_refl _
  · split
    · exact Nat.le_refl _
    · exact permitRemoved_command_le { s with permit := false }

theorem boundary_command (s : State) : (boundary s).share.command = s.share.command := by
  unfold boundary pulseChange; repeat' split
  all_goals simp

theorem freeRunStart_command (s : State) : (freeRunStart s).share.command = s.share.command := by
  unfold freeRunStart; repeat' split
  all_goals simp

theorem freeRunOn_command (s : State) : (freeRunOn s).share.command = s.share.command := by
  unfold freeRunOn; repeat' split
  all_goals simp

/-! ## The coordination bus and the station view -/

theorem arrival_command_le (bytes : List Byte) (s : State) : (arrival bytes s).share.command ≤ s.share.command := by
  unfold arrival receiveFrame; repeat' split
  all_goals simp

theorem applyStatus_command_le (f : StatusFrame) (tag : Relation) (arr : Nat) (s : State) :
    (applyStatus f tag arr s).share.command ≤ s.share.command := by
  apply readUpper_command_le_of_share_eq
  cases s.isTrain <;> simp

theorem applyHeadStatus_command_le (s : State) : (applyHeadStatus s).share.command ≤ s.share.command := by
  unfold applyHeadStatus
  split
  · exact applyStatus_command_le ..
  · exact Nat.le_refl _

theorem applyAlert_command_le (a : Alert) (s : State) : (applyAlert a s).share.command ≤ s.share.command := by
  unfold applyAlert
  split
  · exact Nat.le_refl _
  · exact readUpper_command_le_of_share_eq rfl

theorem applyHeadAlert_command_le (s : State) : (applyHeadAlert s).share.command ≤ s.share.command := by
  unfold applyHeadAlert
  split
  · split
    · exact Nat.le_refl _
    · exact applyAlert_command_le _ (removeHead s)
  · exact Nat.le_refl _

theorem loseEntry_command_le (e : Entry) (s : State) : (loseEntry e s).share.command ≤ s.share.command := by
  apply readUpper_command_le_of_share_eq
  by_cases hlost : e.status = .lost <;> simp [hlost]

theorem applyConflict_command_le (a : Alert) (s : State) : (applyConflict a s).share.command ≤ s.share.command := by
  unfold applyConflict
  split
  · exact Nat.le_refl _
  · exact loseEntry_command_le ..

theorem applyHeadConflict_command_le (s : State) : (applyHeadConflict s).share.command ≤ s.share.command := by
  unfold applyHeadConflict
  split
  · split
    · exact applyConflict_command_le _ (removeHead s)
    · exact Nat.le_refl _
  · exact Nat.le_refl _

theorem takeFrame_command (s : State) : (takeFrame s).share.command = s.share.command := by
  unfold takeFrame; split <;> rfl

/-! ## The expiries of the other timers -/

theorem statusWork_command_le (s : State) : (statusWork s).share.command ≤ s.share.command := by
  unfold statusWork endStoreLeave
  dsimp only
  repeat' split
  all_goals simp

theorem statusExpiry_command_le (s : State) : (statusExpiry s).share.command ≤ s.share.command := by
  unfold statusExpiry
  split
  · exact Nat.le_refl _
  · exact statusWork_command_le _

theorem lateExpiry_command_le (address : Nat) (s : State) : (lateExpiry address s).share.command ≤ s.share.command := by
  unfold lateExpiry
  split
  · exact Nat.le_refl _
  · split
    · exact readUpper_command_le_of_share_eq rfl
    · exact Nat.le_refl _

theorem lostExpiry_command_le (address : Nat) (s : State) : (lostExpiry address s).share.command ≤ s.share.command := by
  unfold lostExpiry
  split
  · exact Nat.le_refl _
  · split
    · exact Nat.le_refl _
    · exact loseEntry_command_le ..

theorem freeEntry_command_le (address : Nat) (s : State) : (freeEntry address s).share.command ≤ s.share.command :=
  readUpper_command_le_of_share_eq (by simp)

theorem holdExpiry_command_le (address : Nat) (s : State) : (holdExpiry address s).share.command ≤ s.share.command := by
  unfold holdExpiry
  split
  · exact Nat.le_refl _
  · split
    · exact freeEntry_command_le ..
    · exact Nat.le_refl _

theorem endWindow_command_le (s : State) : (endWindow s).share.command ≤ s.share.command := by
  unfold endWindow; repeat' split
  all_goals simp

theorem joinExpiry_command_le (s : State) : (joinExpiry s).share.command ≤ s.share.command := by
  unfold joinExpiry
  split
  · exact Nat.le_refl _
  · split
    · exact endWindow_command_le _
    · exact Nat.le_refl _

theorem startExpiry_command (s : State) : (startExpiry s).share.command = s.share.command := by
  unfold startExpiry; repeat' split
  all_goals simp

theorem standbyExpires_command_le (s : State) : (standbyExpires s).share.command ≤ s.share.command := by
  unfold standbyExpires; repeat' split
  all_goals simp

theorem blankingExpiry_command (m : Monitor) (s : State) : (blankingExpiry m s).share.command = s.share.command := by
  unfold blankingExpiry; split <;> rfl

/-! ## Every command but the control period expiry -/

theorem exec_command_le (c : Instr) (s u : State) (hc : c ≠ .controlPeriodExpiry) (h : exec c s = .next u) :
    u.share.command ≤ s.share.command := by
  cases hr : asRequest c with
  | some r =>
    obtain ⟨t, tag, r⟩ := r
    rw [exec_of_asRequest hr] at h
    cases h
    exact request_command_le t tag r s
  | none =>
    cases c with
    | repeatRequest t => cases h; exact repeatKept_command_le (s.atInstant t)
    | unknownRequest t code tag body => cases h; exact goodRecord_command_le code tag body (s.atInstant t)
    | linkRecordDiscarded t bytes => cases h; exact recordArrival_command_le bytes (s.atInstant t)
    | linkTransmit t => cases h; exact Nat.le_of_eq (transmit_command (s.atInstant t))
    | linkRecordSent t => cases h; exact Nat.le_of_eq (recordSent_command (s.atInstant t))
    | powerOnReset t => cases h; exact Nat.zero_le _
    | permitChange t level => cases h; exact permitTo_command_le level (s.atInstant t)
    | boundaryPulse t => cases h; exact Nat.le_of_eq (boundary_command (s.atInstant t))
    | frameArrival t bytes => cases h; exact arrival_command_le bytes (s.atInstant t)
    | applyStatusFrame t => cases h; exact applyHeadStatus_command_le (s.atInstant t)
    | applyAlert t => cases h; exact applyHeadAlert_command_le (s.atInstant t)
    | applyAlertConflict t => cases h; exact applyHeadConflict_command_le (s.atInstant t)
    | busTakeFrame t => cases h; exact Nat.le_of_eq (takeFrame_command (s.atInstant t))
    | statusTimerExpiry => cases h; exact statusExpiry_command_le s
    | lateDeadline address => cases h; exact lateExpiry_command_le address s
    | lostDeadline address => cases h; exact lostExpiry_command_le address s
    | lostHoldExpiry address => cases h; exact holdExpiry_command_le address s
    | freeRunDeadline => cases h; exact Nat.le_of_eq (freeRunStart_command s)
    | freeRunAdvance => cases h; exact Nat.le_of_eq (freeRunOn_command s)
    | controlPeriodExpiry => exact absurd rfl hc
    | joinTimerExpiry => cases h; exact joinExpiry_command_le s
    | startTimerExpiry => cases h; exact Nat.le_of_eq (startExpiry_command s)
    | standbyTimerExpiry => cases h; exact standbyExpires_command_le s
    | blankingTimerExpiry monitor => cases h; exact Nat.le_of_eq (blankingExpiry_command monitor s)
    | staleTimerExpiry => cases h; exact staleTimerExpires_command_le s
    | frameTransmissionEnd t => cases h; exact Nat.le_refl _
    | _ => cases hr

theorem exec_controlPeriodExpiry_withinRamp (s u : State) (h : exec .controlPeriodExpiry s = .next u) :
    WithinRamp s.share.command s.inForce.minLoad s.inForce.rampStep u.share.command := by
  cases h
  exact controlExpiry_withinRamp s

/-- Settles O44: an expiry stays within the ramp by the share computation, every other command by its own operations. -/
theorem rampLimitsRise : Obligations.RampLimitsRise := by
  refine ⟨exec_controlPeriodExpiry_withinRamp, exec_command_le,
    fun command m r desired => ⟨ramp_of_fall m r, ramp_of_rise m r, ?_⟩, fun _ => rfl⟩
  rintro rfl
  exact ramp_from_zero m r

end Sys2Proof.Machine
end

section
/-! PROOFS. The requests of the delivery log: READ LOG (R145) shows the oldest record in the layout of 10.5 and changes nothing, and
RELEASE LOG (R146) takes records from the head of the log. -/

namespace Sys2Proof.Machine

/-! ## The layout of a delivery record -/

theorem two_mul_bit (b : Bool) (n : Nat) : 2 * (if b then n else 0) = if b then 2 * n else 0 := by
  cases b <;> rfl

/-- The flags of a delivery record by their bit values (10.5). -/
theorem flagBits_five (a b c d e : Bool) : flagBits [a, b, c, d, e] =
    (if a then 1 else 0) + (if b then 2 else 0) + (if c then 4 else 0) + (if d then 8 else 0) + (if e then 16 else 0) := by
  simp only [flagBits, Nat.mul_add, two_mul_bit, Nat.add_assoc, Nat.reduceMul, Nat.mul_zero, Nat.add_zero]

/-- A record that notes no cut carries two empty intervals and nothing to run. -/
theorem encode_noCutReport : ({} : CutReport).encode = [255, 255, 255, 255, 0, 0, 255, 255, 255, 255] := by decide

/-! ## READ LOG -/

theorem readLogBody_nil {s : State} (h : s.account.log = []) : readLogBody s = [0] := by
  simp [readLogBody, h]

theorem readLogBody_cons {s : State} {r : DeliveryRecord} {rs : List DeliveryRecord} (h : s.account.log = r :: rs) :
    readLogBody s = byteOf (rs.length + 1) :: r.encode := by
  simp [readLogBody, h]

/-- READ LOG is answered in every state, and changes nothing. -/
theorem exec_readLog {s : State} {tag : Byte} (hn : IsNew s tag .readLog) (t : Nat) :
    exec (.readLog t tag) s = .next (answered (s.atInstant t) tag .readLog (.data (readLogBody s))) :=
  exec_new (r := .readLog) rfl hn rfl

theorem log_eq_nil_of_storeLaw {s : State} (h : StoreLaw s) (hs : s.isStore = true) : s.account.log = [] := by
  obtain ⟨-, -, -, -, haccount, -⟩ := h hs
  rw [haccount]

/-- Settles O23: the oldest record by its layout, with and without a noted cut; an empty log, and so every store's, by its count. -/
theorem readLogShowsOldest : Obligations.ReadLogShowsOldest := by
  intro s t tag hn
  have hempty : s.account.log = [] →
      exec (.readLog t tag) s = .next (answered (s.atInstant t) tag .readLog (.data [0])) :=
    fun hlog => by rw [exec_readLog hn, readLogBody_nil hlog]
  refine ⟨fun r rs hlog => ?_, hempty, fun hlaw hs => hempty (log_eq_nil_of_storeLaw hlaw hs)⟩
  rw [exec_readLog hn, readLogBody_cons hlog, DeliveryRecord.encode, flagBits_five]
  cases r.cut with
  | none => rw [← encode_noCutReport]; rfl
  | some c =>
    obtain ⟨reason, report⟩ := c
    cases reason <;> rfl

/-! ## RELEASE LOG -/

/-- The station after its log lost the first `k` records, or all where it holds fewer. -/
def releaseOldest (k : Nat) (s : State) : State :=
  { s with account := { s.account with log := s.account.log.drop k } }

/-- RELEASE LOG is accepted in every state. -/
theorem exec_releaseLog {s : State} {tag : Byte} {k : Half} (hn : IsNew s tag (.releaseLog k)) (t : Nat) :
    exec (.releaseLog t tag k) s = .next (answered (releaseOldest k.toNat (s.atInstant t)) tag (.releaseLog k)
      (.accept (decide (s.account.log.length < k.toNat)))) :=
  exec_new (r := .releaseLog k) rfl hn rfl

/-- No more records leave the log than it holds. -/
theorem releaseOldest_min (k : Nat) (s : State) :
    releaseOldest k s = { s with account := { s.account with log := s.account.log.drop (min k s.account.log.length) } } := by
  rw [releaseOldest, List.drop_eq_drop_min]

theorem releaseOldest_zero (s : State) : releaseOldest 0 s = s := rfl

theorem releaseOldest_of_log_nil {s : State} (h : s.account.log = []) (k : Nat) : releaseOldest k s = s := by
  have hdrop : s.account.log.drop k = s.account.log := by rw [h, List.drop_nil]
  rw [releaseOldest, hdrop]

/-- A new RESTART keeps the log as it stands (R119). -/
theorem restart_gives_log_kept {s : State} {tag : Byte} (h : IsNew s tag .restart) (t : Nat) :
    Gives (.restart t tag) s fun u => u.account.log = s.account.log :=
  ⟨_, exec_new (r := .restart) rfl h rfl, rfl⟩

/-- Settles O24: the log without its first k records, which is the log itself where k is 0 or no record is held. -/
theorem releaseLogRemovesOldest : Obligations.ReleaseLogRemovesOldest := by
  intro s t tag k hn
  have hexec := exec_releaseLog hn t
  refine ⟨?_, ?_, fun hlaw hs => ?_, fun _ t' _ hn' => restart_gives_log_kept hn' t'⟩
  · rw [hexec, releaseOldest_min]; rfl
  · rintro rfl
    simpa [releaseOldest_zero] using hexec
  · have hlog := log_eq_nil_of_storeLaw hlaw hs
    rw [hexec, releaseOldest_of_log_nil (s := s.atInstant t) hlog, hlog]; rfl

end Sys2Proof.Machine
end

section
/-! PROOFS. The step and the resets (R119, R163), the transmitter (R149, R160) and the medium (R4, R5): each is an equation of the
model's own operation. -/

namespace Sys2Proof.Machine

/-! ## The step and the resets -/

/-- Settles O1: the two cases of the queue. -/
theorem stepTakesFrontOfQueue : Obligations.StepTakesFrontOfQueue := by
  refine ⟨fun c rest s => rfl, fun s hempty => ?_⟩
  rw [step, hempty]

/-- Settles O3: the reset state is plain data, so each of its values stands in it. -/
theorem powerOnResetGivesResetState : Obligations.PowerOnResetGivesResetState := by
  refine ⟨fun t s => rfl, rfl, rfl, rfl, rfl, rfl, rfl, rfl, rfl, rfl, rfl, rfl, rfl, rfl, rfl, rfl, rfl, rfl, fun m => ?_,
    rfl, rfl, rfl, rfl, rfl, rfl, rfl, rfl⟩
  cases m <;> rfl

/-- Settles O19: a new RESTART is handled by the reset that keeps the log and what is being sent. -/
theorem restartKeepsOnlyLog : Obligations.RestartKeepsOnlyLog :=
  fun _ _ _ hn => exec_new (r := .restart) rfl hn rfl

/-- Settles O53: everything is stopped, empty or clear, and the station is in OFFLINE. -/
theorem resetSatisfiesLaws : Obligations.ResetSatisfiesLaws := by
  refine ⟨.inl rfl, ?_, ?_, ?_, ?_, ?_, ?_, ?_, ?_, ?_, ?_, ?_, ?_, ?_, rfl⟩
  · unfold CapacityLaw; decide
  · simp [BookLaw, ListLaw, State.reset]
  · simp [ViewLaw, State.reset]
  · simp [HoldLaw, State.reset]
  · simp [AvailableLaw, State.reset]
  · simp [TripOutLaw, State.reset]
  · exact fun h => nomatch h
  · simp [PermitLaw, State.reset]
  · unfold TimerLaw; decide
  · simp [LinkLaw, State.reset]
  · exact fun h => nomatch h
  · exact fun h => nomatch h
  · unfold WakeDelayLaw; decide

/-! ## The transmitter -/

/-- A report produced into a queue with room takes the last place, and its number rises (R160). -/
theorem produce_room {s : State} (h : s.link.reports.length < 16) (r : Report) : produce r s = { s with link := { s.link with
    reports := s.link.reports ++ [⟨s.link.reportNo, r⟩], reportNo := (s.link.reportNo + 1) % 65536 } } := by
  simp [produce, Config.reportCapacity, h]

/-- Settles O27: the transmitter's choice by what waits, in the order of R149, and a produced report by the room in the queue. -/
theorem transmitterTakesInOrder : Obligations.TransmitterTakesInOrder := by
  refine ⟨fun s r => ⟨fun h => produce_room h r, fun h => produce_full h r⟩, fun s t => ⟨?_, ?_, ?_, ?_, ?_, ?_⟩⟩
  · intro x hx
    simp [exec, execLinkTransmit, transmit, hx]
  · intro r hs ho
    simp [exec, execLinkTransmit, transmit, hs, ho]
  · intro p hs ho hp
    simp [exec, execLinkTransmit, transmit, hs, ho, hp]
  · intro r rs hs ho hp hr
    simp [exec, execLinkTransmit, transmit, hs, ho, hp, hr]
  · intro hs ho hp hr
    simp [exec, execLinkTransmit, transmit, hs, ho, hp, hr]
  · intro x hx
    simp [exec, execLinkRecordSent, recordSent, hx]

/-! ## The medium -/

/-- Settles O39: the medium's choice by whether it is idle and by what is pending (R4, R5). -/
theorem busTakesAlertFirst : Obligations.BusTakesAlertFirst := by
  refine fun s t => ⟨?_, ?_, ?_, rfl⟩
  · intro a hidle ha
    simp [exec, execBusTakeFrame, takeFrame, hidle, ha, Frame.encode]
  · intro f hidle ha hf
    simp [exec, execBusTakeFrame, takeFrame, hidle, ha, hf, Frame.encode]
  · rintro (hbusy | ⟨ha, hf⟩)
    · obtain ⟨x, hx⟩ := Option.ne_none_iff_exists'.mp hbusy
      simp [exec, execBusTakeFrame, takeFrame, hx]
    · cases hidle : s.bus.onBus <;> simp [exec, execBusTakeFrame, takeFrame, hidle, ha, hf]

end Sys2Proof.Machine
end

section
/-! PROOFS. What each operation of the station may change, part by part: the frame of the shared operations, of the requests and of every
command (R50, R113, R148 and the rules that `mayChange` cites). -/

namespace Sys2Proof.Machine

/-! ## Two states that differ in some parts alone -/

theorem Part.same_refl (p : Part) (s : State) : p.same s s := by
  cases p <;> simp [Part.same]

theorem Part.same_trans {p : Part} {s u v : State} (h : p.same s u) (h' : p.same u v) : p.same s v := by
  cases p <;> simp_all [Part.same]

/-- Every part outside the list is the same in both states. -/
def SameBut (ps : List Part) (s u : State) : Prop := ∀ p, p ∉ ps → p.same s u

theorem SameBut.refl (ps : List Part) (s : State) : SameBut ps s s := fun p _ => p.same_refl s

theorem SameBut.trans {ps : List Part} {s u v : State} (h : SameBut ps s u) (h' : SameBut ps u v) : SameBut ps s v :=
  fun p hp => Part.same_trans (h p hp) (h' p hp)

theorem SameBut.mono {ps qs : List Part} {s u : State} (h : SameBut ps s u) (hsub : ps ⊆ qs) : SameBut qs s u :=
  fun p hp => h p fun hmem => hp (hsub hmem)

/-- Two changes one after the other, each within a longer list. -/
theorem SameBut.comp {ps qs rs : List Part} {s u v : State} (h : SameBut ps s u) (h' : SameBut qs u v)
    (hsub : ps ++ qs ⊆ rs) : SameBut rs s v :=
  (h.mono fun _ hp => hsub (List.mem_append_left _ hp)).trans (h'.mono fun _ hp => hsub (List.mem_append_right _ hp))

theorem SameBut.state {ps : List Part} {s u : State} (h : SameBut ps s u) (hp : Part.state ∉ ps) :
    u.seq.state = s.seq.state := h .state hp

theorem SameBut.inForce {ps : List Part} {s u : State} (h : SameBut ps s u) (hp : Part.inForce ∉ ps) :
    u.inForce = s.inForce := h .inForce hp

/-! ## The shared operations -/

theorem atInstant_sameBut (t : Nat) (s : State) : SameBut [] s (s.atInstant t) := fun p _ => by
  cases p <;> simp [Part.same]

theorem produce_sameBut (r : Report) (s : State) : SameBut [.reports] s (produce r s) := fun p hp => by
  cases p <;> simp_all [Part.same]

theorem produceEither_sameBut (x y : Option Report) (s : State) : SameBut [.reports, .free] s (produceEither x y s) :=
  fun p hp => by cases p <;> simp_all [Part.same]

theorem produceOpt_sameBut (r : Option Report) (s : State) : SameBut [.reports] s (produceOpt r s) := by
  cases r with
  | none => exact .refl _ s
  | some r => exact produce_sameBut r s

theorem sendSetpoint_sameBut (s : State) : SameBut [.setpoint] s (sendSetpoint s) := fun p hp => by
  cases p <;> simp_all [Part.same, -sendSetpoint_setpoint]

theorem setpointIfFell_sameBut (old : Nat) (s : State) : SameBut [.setpoint] s (setpointIfFell old s) := by
  unfold setpointIfFell
  split
  · exact sendSetpoint_sameBut s
  · exact .refl _ s

theorem countFault_sameBut (s : State) : SameBut [.faults] s (countFault s) := fun p hp => by
  cases p <;> simp_all [Part.same]

theorem enterState_sameBut (x : StationState) (cause : Cause) (s : State) :
    SameBut [.state, .reports] s (enterState x cause s) := fun p hp => by
  cases p <;> simp_all [Part.same]

/-! ## The schedule book and the delivery account -/

theorem judge_sameBut (s : State) : SameBut [.agreement, .reports] s (judge s) := fun p hp => by
  cases p <;> simp_all [Part.same]

theorem bookExpiry_sameBut (s : State) : SameBut [.target, .agreement, .openRecord, .reports] s (bookExpiry s) :=
  fun p hp => by cases p <;> simp_all [Part.same]

theorem bookAtSeal_sameBut (s : State) : SameBut [.agreement, .openRecord, .reports] s (bookAtSeal s) := fun p hp => by
  cases p <;> simp_all [Part.same]

theorem accountRecord_sameBut (output : Nat) (s : State) : SameBut [.energies, .ownPoint] s (accountRecord output s) :=
  fun p hp => by cases p <;> simp_all [Part.same]

theorem accountFrame_sameBut (address : Nat) (kind : Kind) (output arr : Nat) (s : State) :
    SameBut [.energies, .peerPoints] s (accountFrame address kind output arr s) := fun p hp => by
  cases p <;> simp_all [Part.same]

theorem accountDrop_sameBut (address upto : Nat) (s : State) : SameBut [.energies, .peerPoints] s (accountDrop address upto s) :=
  fun p hp => by cases p <;> simp_all [Part.same]

theorem accountLeave_sameBut (s : State) : SameBut [.energies, .ownPoint, .peerPoints] s (accountLeave s) := fun p hp => by
  cases p <;> simp_all [Part.same]

theorem noteCut_sameBut (reason : CutReason) (cut : CutReport) (s : State) :
    SameBut [.openRecord] s (noteCut reason cut s) := fun p hp => by
  cases p <;> simp_all [Part.same]

theorem noteTripped_sameBut (s : State) : SameBut [.openRecord] s (noteTripped s) := fun p hp => by
  cases p <;> simp_all [Part.same]

theorem notePeriod_sameBut (s : State) : SameBut [.openRecord] s (notePeriod s) := fun p hp => by
  cases p <;> simp_all [Part.same]

theorem accountAtSeal_sameBut (s : State) : SameBut [.openRecord, .energies] s (accountAtSeal s) := fun p hp => by
  cases p <;> simp_all [Part.same]

theorem intervalChange_sameBut (n : Nat) (byFreeRun : Bool) (s : State) :
    SameBut changeParts s (intervalChange n byFreeRun s) := fun p hp => by
  cases p <;> simp_all [Part.same, changeParts]

/-! ## The heat store unit, AVAILABLE and the frames -/

theorem classifyRecord_sameBut (zones : List Nat) (s : State) : SameBut [.zones] s (classifyRecord zones s) :=
  fun p hp => by cases p <;> simp_all [Part.same]

theorem formPublished_sameBut (s : State) : SameBut [.published] s (formPublished s) := fun p hp => by
  cases p <;> simp_all [Part.same]

theorem holdPublished_sameBut (s : State) : SameBut [.heldAllowances] s (holdPublished s) := fun p hp => by
  cases p <;> simp_all [Part.same]

theorem evalAvailable_sameBut (s : State) : SameBut [.available] s (evalAvailable s) := fun p hp => by
  cases p <;> simp_all [Part.same]

theorem readU_sameBut (s : State) : SameBut [.available, .lastU] s (readU s) := fun p hp => by
  cases p <;> simp_all [Part.same]

theorem decideMode_sameBut (s : State) : SameBut [.cooled, .reports] s (decideMode s) := fun p hp => by
  cases p <;> simp_all [Part.same]

theorem readAtExpiry_sameBut (s : State) : SameBut [.cooled, .reports, .available, .lastU] s (readAtExpiry s) :=
  (decideMode_sameBut s).comp (readU_sameBut _) (by decide)

theorem buildStatus_sameBut (s : State) : SameBut [.pendingStatus, .available, .lastU] s (buildStatus s) := fun p hp => by
  cases p <;> simp_all [Part.same]

theorem askAlert_sameBut (reason : AlertReason) (cut : CutReport) (s : State) :
    SameBut [.pendingAlert, .pendingStatus, .available, .lastU] s (askAlert reason cut s) := fun p hp => by
  cases p <;> simp_all [Part.same]

/-! ## The sequencer -/

theorem standDown_sameBut (s : State) : SameBut leaveEndParts s (standDown s) := fun p hp => by
  cases p <;> simp_all [Part.same, leaveEndParts, stateParts]

theorem endLeave_sameBut (s : State) : SameBut leaveEndParts s (endLeave s) := fun p hp => by
  cases p <;> simp_all [Part.same, leaveEndParts, stateParts]

theorem stopSequence_sameBut (s : State) : SameBut [.joinTimer, .startTimer, .standbyTimer, .tripHeld, .leaveCount, .tripOut] s
    (stopSequence s) := fun p hp => by
  cases p <;> simp_all [Part.same]

theorem dropCommand_sameBut (s : State) : SameBut [.command, .wake] s (dropCommand s) := fun p hp => by
  cases p <;> simp_all [Part.same]

theorem releaseCap_sameBut (b : Bool) (s : State) : SameBut [.cap] s (releaseCap b s) := fun p hp => by
  cases p <;> simp_all [Part.same]

theorem unloadBank_sameBut (s : State) : SameBut [.thermal, .margin, .blanking, .cap] s (unloadBank s) := fun p hp => by
  cases p <;> simp_all [Part.same]

theorem unloadIfLoaded_sameBut (left : StationState) (s : State) :
    SameBut [.thermal, .margin, .blanking, .cap] s (unloadIfLoaded left s) := by
  unfold unloadIfLoaded
  split
  · exact unloadBank_sameBut s
  · exact .refl _ s

/-- A change of the command that ends no leave changes the command and what follows it (R66, R110). -/
theorem setCommand_sameBut {c : Nat} {s : State} (hl : ¬ (s.seq.state = .leaving ∧ c = 0)) :
    SameBut [.command, .lastLoaded, .standbyTimer] s (setCommand c s) := by
  by_cases hc : c = s.share.command
  · rw [setCommand, if_pos hc]
    exact .refl _ s
  · rw [setCommand_stays hc hl]
    intro p hp
    cases p <;> simp_all [Part.same]

end Sys2Proof.Machine
end

section
/-! PROOFS. What the read of U, the changes of state and the work of the requests and events may change, part by part; the end of a leave in LEAVING
changes its own parts beside (R50, R113). -/

namespace Sys2Proof.Machine

/-! ## The read of U -/

/-- A fall of the command to 0 in LEAVING ends the leave (R66, R113). -/
theorem setCommand_ends {s : State} (hl : s.seq.state = .leaving) (h0 : s.share.command ≠ 0) :
    setCommand 0 s = endLeave { s with share := { s.share with command := 0 } } := by
  simp [setCommand, h0.symm, hl, standbyOnCommand]

/-- A read of U changes the parts of a read, or its cut to 0 ends a train's leave (R50, R113). -/
theorem readUpper_frame (s : State) : SameBut readParts s (readUpper s)
    ∨ (s.seq.state = .leaving ∧ s.isTrain = true
      ∧ ∃ v, SameBut readParts s v ∧ v.share.command = 0 ∧ readUpper s = sendSetpoint (endLeave v)) := by
  have hread : SameBut readParts s (readU (decideMode s)) :=
    (decideMode_sameBut s).comp (readU_sameBut _) (by decide)
  obtain ⟨-, hr⟩ | ⟨-, hr, -⟩ | ⟨htrain, hloaded, hcut, hr⟩ := readUpper_cases s
  · left; rw [hr]; exact .refl _ s
  · left; rw [hr]; exact hread
  · rw [hr]
    by_cases hl : s.seq.state = .leaving ∧ upperLimit (decideMode s) = 0
    · right
      have hcmd : (readU (decideMode s)).share.command ≠ 0 := by simp; omega
      have hleaving : (readU (decideMode s)).seq.state = .leaving := by simpa using hl.1
      refine ⟨hl.1, (Bool.and_eq_true_iff.mp htrain).1, _, ?_, rfl, by rw [hl.2, setCommand_ends hleaving hcmd]⟩
      refine hread.trans fun p hp => ?_
      cases p <;> simp_all [Part.same, readParts]
    · left
      have hset := setCommand_sameBut (c := upperLimit (decideMode s)) (s := readU (decideMode s)) (by simpa using hl)
      exact (hread.comp hset (by decide)).comp (sendSetpoint_sameBut _) (List.append_subset.mpr ⟨fun _ h => h, by decide⟩)

/-- Outside LEAVING, and on a store, a read of U changes the parts of a read. -/
theorem readUpper_sameBut {s : State} (h : s.seq.state = .leaving → s.isTrain = false) : SameBut readParts s (readUpper s) := by
  obtain hframe | ⟨hl, ht, -⟩ := readUpper_frame s
  · exact hframe
  · rw [h hl] at ht; cases ht

/-- Where no command is held a read of U is one of the mode, U and AVAILABLE alone (R50, R51, R98). -/
theorem readUpper_idle {s : State} (h : s.seq.state.loaded = false) :
    readUpper s = s ∨ readUpper s = readU (decideMode s) := by
  obtain ⟨-, hr⟩ | ⟨-, hr, -⟩ | ⟨-, hloaded, -⟩ := readUpper_cases s
  · exact .inl hr
  · exact .inr hr
  · rw [h] at hloaded; cases hloaded

theorem readIfCapChanged_sameBut (cap : Nat) {s : State} (h : s.seq.state.loaded = false) :
    SameBut [.cooled, .reports, .available, .lastU] s (readIfCapChanged cap s) := by
  unfold readIfCapChanged
  split
  · exact .refl _ s
  · obtain hr | hr := readUpper_idle h <;> rw [hr]
    · exact .refl _ s
    · exact readAtExpiry_sameBut s

/-! ## The changes of state -/

/-- The work that every change out of service begins with (R47, R114, R126). -/
theorem dropOut_sameBut (s : State) :
    SameBut fallParts s (unloadIfLoaded s.seq.state (dropCommand (stopSequence s))) :=
  (((stopSequence_sameBut s).comp (dropCommand_sameBut _) (rs := fallParts) (by decide))).trans
    ((unloadIfLoaded_sameBut _ _).mono (by decide))

theorem enterStandby_sameBut (cause : Cause) (s : State) : SameBut fallParts s (enterStandby cause s) := by
  refine SameBut.trans (dropOut_sameBut s) ?_
  refine SameBut.trans ((enterState_sameBut .standby cause _).mono (by decide)) ?_
  refine SameBut.trans ((evalAvailable_sameBut _).mono (by decide)) ?_
  refine SameBut.trans ((setpointIfFell_sameBut s.share.command _).mono (by decide)) ?_
  exact (readIfCapChanged_sameBut _ (by simp [enterState, StationState.loaded])).mono (by decide)

theorem enterActive_sameBut (cause : Cause) (s : State) : SameBut (.published :: stateParts) s (enterActive cause s) := by
  refine SameBut.trans ((stopSequence_sameBut s).mono (by decide)) ?_
  refine SameBut.trans ((enterState_sameBut .active cause _).mono (by decide)) ?_
  exact (evalAvailable_sameBut _).comp (formPublished_sameBut _) (by decide)

/-- A state of the sequencer set with TRIP OUT, as at a trip and a conflict. -/
theorem setTripOut_sameBut (x : StationState) (s : State) :
    SameBut [.state, .tripOut] s { s with seq := { s.seq with state := x, tripOut := true } } := fun p hp => by
  cases p <;> simp_all [Part.same]

theorem trip_sameBut (ms : List Monitor) (s : State) : SameBut tripParts s (trip ms s) := by
  refine SameBut.trans ((dropOut_sameBut s).mono (by decide)) ?_
  refine SameBut.trans ((setTripOut_sameBut .tripped _).mono (by decide)) ?_
  refine SameBut.trans ((evalAvailable_sameBut _).comp (formPublished_sameBut _) (by decide)) ?_
  refine SameBut.trans ((noteCut_sameBut .trip (cutReport s) _).comp (noteTripped_sameBut _) (by decide)) ?_
  refine SameBut.trans ((setpointIfFell_sameBut s.share.command _).comp (askAlert_sameBut .trip (cutReport s) _) (by decide)) ?_
  exact (produce_sameBut _ _).comp (produce_sameBut _ _) (by decide)

/-- The bus at a conflict: ALERT CONFLICT pending, the status frame stopped (R19). -/
theorem conflictBus_sameBut (a : Alert) (s : State) : SameBut [.pendingAlert, .statusTimer, .pendingStatus] s
    { s with bus := { s.bus with pendingAlert := some a, statusTimer := none, pendingStatus := none } } := fun p hp => by
  cases p <;> simp_all [Part.same]

theorem addressConflict_sameBut (s : State) : SameBut (.statusTimer :: tripParts) s (addressConflict s) := by
  refine SameBut.trans ((dropOut_sameBut s).mono (by decide)) ?_
  refine SameBut.trans ((setTripOut_sameBut .conflict _).mono (by decide)) ?_
  refine SameBut.trans ((evalAvailable_sameBut _).comp (formPublished_sameBut _) (by decide)) ?_
  refine SameBut.trans ((noteTripped_sameBut _).mono (by decide)) ?_
  refine SameBut.trans ((conflictBus_sameBut ⟨s.inForce.address, .conflict, {}⟩ _).mono (by decide)) ?_
  refine SameBut.trans ((setpointIfFell_sameBut s.share.command _).mono (by decide)) ?_
  refine SameBut.trans ((produce_sameBut .addressConflict _).comp
    (produce_sameBut (.stateChange s.seq.state .conflict .conflict) _) (by decide)) ?_
  exact (readIfCapChanged_sameBut _ (by simp [StationState.loaded])).mono (by decide)

theorem setTripHeld_sameBut (s : State) :
    SameBut [.tripHeld] s { s with seq := { s.seq with tripHeld := true } } := fun p hp => by
  cases p <;> simp_all [Part.same]

/-- Latches are held, end in a trip, or change nothing (R106, R114, R133). -/
theorem handleLatches_sameBut (ms : List Monitor) (s : State) : SameBut tripParts s (handleLatches ms s) := by
  unfold handleLatches
  split
  · exact .refl _ s
  · split
    · exact (setTripHeld_sameBut s).mono (by decide)
    · split
      · exact trip_sameBut ms s
      · exact .refl _ s

/-! ## The monitor bank -/

/-- The part that holds a monitor. -/
def monitorPart : Monitor → Part
  | .native => .native
  | .thermal => .thermal
  | .margin => .margin
  | .stale => .stale
  | .zoneHigh => .zoneHigh

theorem setMonitor_sameBut (m : Monitor) (v : MonState) (s : State) :
    SameBut [monitorPart m] s { s with bank := s.bank.setMonitor m v } := fun p hp => by
  cases m <;> cases p <;> simp_all [Part.same, Bank.setMonitor, monitorPart]

theorem onActive_sameBut (m : Monitor) (s : State) : SameBut [monitorPart m, .reports] s (onActive m s).1 := by
  unfold onActive
  split
  · exact (setMonitor_sameBut m _ s).mono (by simp)
  · exact (produce_sameBut _ s).mono (by simp)
  · exact (produce_sameBut _ s).mono (by simp)
  · exact .refl _ s

theorem judgeAt_sameBut (m : Monitor) (d : Nat) (b : Bool) (s : State) :
    SameBut [monitorPart m, .reports] s (judgeAt m d b s).1 := by
  have hset := (setMonitor_sameBut m (judgeMonitor d b (s.bank.monitor m)) s).mono
    (show [monitorPart m] ⊆ [monitorPart m, .reports] by simp)
  obtain h | h | h := judgeAt_cases m d b s
  · rw [h]; exact .refl _ s
  · rw [h]; exact hset
  · rw [h]; exact hset.trans (onActive_sameBut m _)

theorem judgeThermal_sameBut (t : Nat) (s : State) : SameBut [.thermal, .reports] s (judgeThermal t s).1 := by
  unfold judgeThermal
  split
  · exact judgeAt_sameBut .thermal _ _ s
  · exact .refl _ s

theorem judgeMargin_sameBut (v : Nat) (s : State) : SameBut [.margin, .reports] s (judgeMargin v s).1 := by
  unfold judgeMargin
  split
  · exact judgeAt_sameBut .margin _ _ s
  · exact .refl _ s

/-- The parts that the judgements of a record may change. -/
def judgedParts : List Part := [.native, .thermal, .margin, .zoneHigh, .reports]

theorem judgeRecord_sameBut (r : Measurement) (s : State) : SameBut judgedParts s (judgeRecord r s).1 := by
  cases r with
  | train o f p t v =>
    exact SameBut.trans ((judgeAt_sameBut .native _ _ s).mono (by decide))
      ((judgeThermal_sameBut t _).comp (judgeMargin_sameBut v _) (by decide))
  | store zones => exact (judgeAt_sameBut .zoneHigh _ _ s).mono (by decide)

theorem endStale_sameBut (s : State) : SameBut [.stale, .cap] s (endStale s) := fun p hp => by
  cases p <;> simp_all [Part.same]

theorem retryStage_sameBut (b : Bool) (s : State) : SameBut [.cap] s (retryStage b s) := fun p hp => by
  cases p <;> simp_all [Part.same]

theorem judgeStale_sameBut (s : State) : SameBut [.stale, .heldAllowances, .cap, .reports] s (judgeStale s).1 := fun p hp => by
  cases p <;> simp_all [Part.same]

theorem unlatchGone_sameBut (s : State) : SameBut [.native, .thermal, .margin, .stale, .zoneHigh] s (unlatchGone s) :=
  fun p hp => by cases p <;> simp_all [Part.same]

/-! ## The work of an event, before its read of U -/

/-- The work of a record at the bank before its read of U (R123, R131). -/
def bankWork (r : Measurement) (s : State) : State :=
  formPublished (handleLatches (judgeRecord r (endStale s)).2
    (retryStage (anyActiveRetry (endStale s)) (judgeRecord r (endStale s)).1))

theorem bankRecord_eq (r : Measurement) (s : State) : bankRecord r s = readUpper (bankWork r s) := rfl

theorem bankWork_sameBut (r : Measurement) (s : State) :
    SameBut ([.native, .stale, .zoneHigh] ++ tripParts) s (bankWork r s) := by
  refine SameBut.trans ((endStale_sameBut s).mono (by decide)) ?_
  refine SameBut.trans ((judgeRecord_sameBut r _).mono (by decide)) ?_
  refine SameBut.trans ((retryStage_sameBut (anyActiveRetry (endStale s)) _).mono (by decide)) ?_
  exact (handleLatches_sameBut _ _).comp (formPublished_sameBut _) (by decide)

/-- The holder and the stale timer at a measurement record (R156, R157). -/
def holdRecord (r : Measurement) (s : State) : State :=
  { s with link := { s.link with
      holder := some ⟨r, s.now⟩
      staleTimer := some (s.now + s.inForce.items.staleLimit * s.inForce.p)
      staleMark := false } }

theorem holdRecord_sameBut (r : Measurement) (s : State) : SameBut [.holder, .staleTimer] s (holdRecord r s) := fun p hp => by
  cases p <;> simp_all [Part.same, holdRecord]

/-- The work of a measurement record before its read of U: the holder, the account or the zones, and the bank (R123). -/
def recordWork (r : Measurement) (s : State) : State :=
  match r with
  | .train output _ _ _ _ => bankWork r (accountRecord output (holdRecord r s))
  | .store zones => bankWork r (classifyRecord zones (holdRecord r s))

theorem takeRecord_eq (r : Measurement) (s : State) : takeRecord r s = readUpper (recordWork r s) := by
  cases r <;> rfl

/-- The parts that a measurement record may change before its read of U. -/
def recordParts : List Part := [.holder, .staleTimer, .ownPoint, .energies, .native, .stale, .zoneHigh, .zones] ++ tripParts

theorem recordWork_sameBut (r : Measurement) (s : State) : SameBut recordParts s (recordWork r s) := by
  have hhold := (holdRecord_sameBut r s).mono (show _ ⊆ recordParts by decide)
  cases r with
  | train o f p t v =>
    exact (hhold.trans ((accountRecord_sameBut o _).mono (by decide))).trans ((bankWork_sameBut _ _).mono (by decide))
  | store zones =>
    exact (hhold.trans ((classifyRecord_sameBut zones _).mono (by decide))).trans ((bankWork_sameBut _ _).mono (by decide))

/-- The holder's stale timer as it runs out (R157). -/
def markStale (s : State) : State := { s with link := { s.link with staleTimer := none, staleMark := true } }

theorem markStale_sameBut (s : State) : SameBut [.staleTimer] s (markStale s) := fun p hp => by
  cases p <;> simp_all [Part.same, markStale]

/-- The work of a stale expiry before its read of U (R130). -/
def staleWork (s : State) : State := formPublished (handleLatches (judgeStale (markStale s)).2 (judgeStale (markStale s)).1)

theorem staleExpiry_eq (s : State) : staleExpiry s = readUpper (staleWork s) := rfl

/-- The parts that a stale expiry may change before its read of U. -/
def staleParts : List Part := [.staleTimer, .stale, .heldAllowances] ++ tripParts

theorem staleWork_sameBut (s : State) : SameBut staleParts s (staleWork s) := by
  refine SameBut.trans ((markStale_sameBut s).mono (by decide)) ?_
  refine SameBut.trans ((judgeStale_sameBut _).mono (by decide)) ?_
  exact (handleLatches_sameBut _ _).comp (formPublished_sameBut _) (by decide)

theorem leaveTripped_sameBut (s : State) : SameBut (.published :: fallParts) s (leaveTripped s) := by
  refine SameBut.trans ((produce_sameBut .tripCleared s).mono (by decide)) ?_
  by_cases hs : s.isStore = true
  · rw [leaveTripped, if_pos hs]
    exact (enterActive_sameBut .clear _).mono (by decide)
  · rw [leaveTripped, if_neg hs]
    exact (enterStandby_sameBut .clear _).mono (by decide)

/-- The work of an accepted CLEAR before its read of U (R116, R134). -/
def clearWork (s : State) : State :=
  formPublished (evalAvailable (if s.seq.state = .tripped then leaveTripped (unlatchGone s) else unlatchGone s))

theorem acceptClear_eq (s : State) : acceptClear s = readUpper (clearWork s) := rfl

/-- The parts that an accepted CLEAR may change before its read of U. -/
def clearParts : List Part := [.native, .stale, .zoneHigh, .published] ++ fallParts

theorem clearWork_sameBut (s : State) : SameBut clearParts s (clearWork s) := by
  refine SameBut.trans ((unlatchGone_sameBut s).mono (by decide)) ?_
  refine SameBut.trans ?_ ((evalAvailable_sameBut _).comp (formPublished_sameBut _) (by decide))
  split
  · exact (leaveTripped_sameBut _).mono (by decide)
  · exact .refl _ _

/-! ## SEAL -/

/-- What an accepted SEAL starts (R105, R154). -/
theorem startStation_sameBut (s : State) : SameBut sealParts s (startStation s) := fun p hp => by
  cases p <;> simp_all [Part.same, sealParts, stateParts]

theorem sealStore_sameBut (s : State) : SameBut sealParts s (sealStore s) := fun p hp => by
  cases p <;> simp_all [Part.same, sealParts, stateParts, sealStore]

theorem sealTrain_sameBut (s : State) : SameBut sealParts s (sealTrain s) :=
  ((bookAtSeal_sameBut s).comp (accountAtSeal_sameBut _) (rs := sealParts) (by decide)).trans
    ((decideMode_sameBut _).mono (by decide))

theorem acceptSeal_sameBut (s : State) : SameBut sealParts s (acceptSeal s) := by
  refine SameBut.trans (startStation_sameBut s) ?_
  refine SameBut.trans ((enterState_sameBut .joining .sealed _).mono (by decide)) ?_
  refine SameBut.trans ?_ ((buildStatus_sameBut _).mono (by decide))
  split
  · exact sealStore_sameBut _
  · exact sealTrain_sameBut _

end Sys2Proof.Machine
end

section
/-! PROOFS. The frame of every command (R148, R150, log 1, log 3): the requests through the exchange, the events of the link, the lines, the bus and the
timers, each against the list of `mayChange`. -/

namespace Sys2Proof.Machine

/-! ## A change that may end a leave -/

/-- The parts listed changed alone, or a leave ended, which changes its own parts beside. -/
def Changes (ps : List Part) (s u : State) : Prop :=
  SameBut ps s u ∨ (s.seq.state = .leaving ∧ u.seq.state = .offline ∧ SameBut (ps ++ leaveEndParts) s u)

theorem SameBut.changes {ps : List Part} {s u : State} (h : SameBut ps s u) : Changes ps s u := .inl h

theorem Changes.same {ps : List Part} {s u : State} (h : Changes ps s u) {p : Part} (hp : p ∉ ps)
    (hend : s.seq.state = .leaving → u.seq.state = .offline → p ∉ leaveEndParts) : p.same s u := by
  obtain h | ⟨hl, ho, h⟩ := h
  · exact h p hp
  · exact h p (by simpa [hp] using hend hl ho)

theorem Changes.mono {ps qs : List Part} {s u : State} (h : Changes ps s u) (hsub : ps ⊆ qs) : Changes qs s u := by
  obtain h | ⟨hl, ho, h⟩ := h
  · exact .inl (h.mono hsub)
  · exact .inr ⟨hl, ho, h.mono (List.append_subset.mpr
      ⟨fun _ hp => List.mem_append_left _ (hsub hp), fun _ hp => List.mem_append_right _ hp⟩)⟩

/-- Work before a change that leaves the state alone, as the read of U does. -/
theorem SameBut.then_changes {ps : List Part} {s v u : State} (h : SameBut ps s v) (hs : v.seq.state = .leaving → s.seq.state = .leaving)
    (h' : Changes ps v u) : Changes ps s u := by
  obtain h' | ⟨hl, ho, h'⟩ := h'
  · exact .inl (h.trans h')
  · exact .inr ⟨hs hl, ho, (h.mono fun _ hp => List.mem_append_left _ hp).trans h'⟩

/-- Work after the end of a leave that leaves the state alone, as the exchange of a request does. -/
theorem Changes.then_sameBut {ps : List Part} {s v u : State} (h : Changes ps s v) (h' : SameBut ps v u)
    (hp : u.seq.state = v.seq.state) : Changes ps s u := by
  obtain h | ⟨hl, ho, h⟩ := h
  · exact .inl (h.trans h')
  · exact .inr ⟨hl, hp.trans ho, h.trans (h'.mono fun _ hp => List.mem_append_left _ hp)⟩

theorem readUpper_changes (s : State) : Changes readParts s (readUpper s) := by
  obtain h | ⟨hl, -, v, hv, -, hr⟩ := readUpper_frame s
  · exact .inl h
  · refine .inr ⟨hl, by simp [hr], ?_⟩
    rw [hr]
    exact (hv.mono (by decide)).trans ((endLeave_sameBut v).comp (sendSetpoint_sameBut _) (by decide))

/-- An event whose last work is a read of U. -/
theorem SameBut.read {ps qs : List Part} {s v : State} (h : SameBut ps s v) (hs : v.seq.state = .leaving → s.seq.state = .leaving)
    (hsub : ps ++ readParts ⊆ qs) : Changes qs s (readUpper v) :=
  (h.mono fun _ hp => hsub (List.mem_append_left _ hp)).then_changes hs
    ((readUpper_changes v).mono fun _ hp => hsub (List.mem_append_right _ hp))

/-! ## The states that a change out of service leads to -/

@[simp] theorem enterState_state (x : StationState) (cause : Cause) (s : State) : (enterState x cause s).seq.state = x := rfl

@[simp] theorem readIfCapChanged_state (cap : Nat) {s : State} (h : s.seq.state.loaded = false) :
    (readIfCapChanged cap s).seq.state = s.seq.state := (readIfCapChanged_sameBut cap h).state (by decide)

@[simp] theorem enterStandby_state (cause : Cause) (s : State) : (enterStandby cause s).seq.state = .standby := by
  unfold enterStandby
  dsimp only
  rw [readIfCapChanged_state] <;> simp [StationState.loaded]

@[simp] theorem enterActive_state (cause : Cause) (s : State) : (enterActive cause s).seq.state = .active := by
  simp [enterActive]

@[simp] theorem trip_state (ms : List Monitor) (s : State) : (trip ms s).seq.state = .tripped := by
  simp [trip]

@[simp] theorem addressConflict_state (s : State) : (addressConflict s).seq.state = .conflict := by
  unfold addressConflict
  dsimp only
  rw [readIfCapChanged_state] <;> simp [StationState.loaded]

/-- Latches leave the state, or trip the station. -/
theorem handleLatches_state (ms : List Monitor) (s : State) :
    (handleLatches ms s).seq.state = s.seq.state ∨ (handleLatches ms s).seq.state = .tripped := by
  unfold handleLatches
  split
  · exact .inl rfl
  · split
    · exact .inl rfl
    · split
      · exact .inr (trip_state ms s)
      · exact .inl rfl

theorem bankWork_state (r : Measurement) (s : State) :
    (bankWork r s).seq.state = s.seq.state ∨ (bankWork r s).seq.state = .tripped := by
  simpa [bankWork] using handleLatches_state (judgeRecord r (endStale s)).2
    (retryStage (anyActiveRetry (endStale s)) (judgeRecord r (endStale s)).1)

theorem recordWork_state (r : Measurement) (s : State) :
    (recordWork r s).seq.state = s.seq.state ∨ (recordWork r s).seq.state = .tripped := by
  cases r with
  | train o f p t v => simpa [recordWork, holdRecord] using bankWork_state (.train o f p t v) (accountRecord o (holdRecord _ s))
  | store zones => simpa [recordWork, holdRecord] using bankWork_state (.store zones) (classifyRecord zones (holdRecord _ s))

theorem staleWork_state (s : State) : (staleWork s).seq.state = s.seq.state ∨ (staleWork s).seq.state = .tripped := by
  simpa [staleWork, markStale] using handleLatches_state (judgeStale (markStale s)).2 (judgeStale (markStale s)).1

@[simp] theorem unlatchGone_seq (s : State) : (unlatchGone s).seq = s.seq := rfl

theorem leaveTripped_state (s : State) : (leaveTripped s).seq.state = if s.isStore then .active else .standby := by
  by_cases hs : s.isStore = true <;> simp [leaveTripped, hs]

theorem clearWork_state (s : State) : (clearWork s).seq.state =
    if s.seq.state = .tripped then (if s.isStore then .active else .standby) else s.seq.state := by
  have hstore : (unlatchGone s).isStore = s.isStore := rfl
  by_cases ht : s.seq.state = .tripped <;> simp [clearWork, ht, leaveTripped_state, hstore]

/-! ## What each request may change -/

theorem takeRecord_changes (r : Measurement) (s : State) : Changes (recordParts ++ readParts) s (takeRecord r s) := by
  rw [takeRecord_eq]
  refine (recordWork_sameBut r s).read (fun hl => ?_) (fun _ hp => hp)
  obtain h | h := recordWork_state r s
  · rw [← h, hl]
  · rw [h] at hl; cases hl

theorem staleExpiry_changes (s : State) : Changes (staleParts ++ readParts) s (staleExpiry s) := by
  rw [staleExpiry_eq]
  refine (staleWork_sameBut s).read (fun hl => ?_) (fun _ hp => hp)
  obtain h | h := staleWork_state s
  · rw [← h, hl]
  · rw [h] at hl; cases hl

theorem acceptClear_changes (s : State) : Changes (clearParts ++ readParts) s (acceptClear s) := by
  rw [acceptClear_eq]
  refine (clearWork_sameBut s).read (fun hl => ?_) (fun _ hp => hp)
  rw [clearWork_state] at hl
  split at hl
  · split at hl <;> cases hl
  · exact hl

theorem leaveAtOnce_sameBut (s : State) : SameBut leaveEndParts s (leaveAtOnce s) :=
  (endLeave_sameBut s).comp (sendSetpoint_sameBut _) (by decide)

theorem startLeaving_sameBut (s : State) : SameBut [.standbyTimer, .state, .reports, .available] s (startLeaving s) :=
  fun p hp => by cases p <;> simp_all [Part.same, startLeaving]

theorem startStoreLeaving_sameBut (s : State) :
    SameBut [.leaveCount, .state, .reports, .available, .published] s (startStoreLeaving s) := fun p hp => by
  cases p <;> simp_all [Part.same, startStoreLeaving]

/-- The part that holds a list of the book. -/
def listPart : ListName → Part
  | .nominations => .noms
  | .orders => .orders

theorem replaceList_sameBut (l : ListName) (es : List BookEntry) (clamped : Bool) (s : State) (mark : Bool) :
    SameBut [listPart l, .orderMark] s (replaceList l es mark clamped s).state := by
  unfold replaceList
  split
  · exact .refl _ s
  · intro p hp
    cases l <;> cases p <;> simp_all [Part.same, Book.setList, listPart]

/-- A list replaced with no mark, as that of the nominations always is. -/
theorem replaceList_unmarked_sameBut (l : ListName) (es : List BookEntry) (clamped : Bool) (s : State) :
    SameBut [listPart l] s (replaceList l es false clamped s).state := by
  unfold replaceList
  split
  · exact .refl _ s
  · intro p hp
    cases l <;> cases p <;> simp_all [Part.same, Book.setList, listPart]

theorem handleInsert_noms_sameBut (first count : Nat) (amount : Int) (s : State) :
    SameBut [.noms] s (handleInsert .nominations first count amount s).state := by
  unfold handleInsert
  dsimp only
  split
  · exact .refl _ s
  · exact replaceList_unmarked_sameBut .nominations _ _ s

theorem handleInsert_orders_sameBut (first count : Nat) (amount : Int) (s : State) :
    SameBut [.orders, .orderMark] s (handleInsert .orders first count amount s).state := by
  unfold handleInsert
  dsimp only
  split
  · exact .refl _ s
  · exact replaceList_sameBut .orders _ _ s _

theorem handleCancel_sameBut (list : Byte) (first count : Nat) (s : State) :
    SameBut [.noms, .orders, .orderMark] s (handleCancel list first count s).state := by
  unfold handleCancel
  split
  · exact .refl _ s
  · next l _ =>
    dsimp only
    split
    · exact .refl _ s
    · exact (replaceList_sameBut l _ _ s _).mono (by cases l <;> decide)

theorem handleSetItem_sameBut (item monitor : Byte) (value : Word) (s : State) :
    SameBut [.items] s (handleSetItem item monitor value s).state := by
  unfold handleSetItem; repeat' split
  all_goals intro p hp; cases p <;> simp_all [Part.same, refuse]

theorem handleSeal_sameBut (s : State) : SameBut sealParts s (handleSeal s).state := by
  unfold handleSeal; repeat' split
  · exact .refl _ s
  · exact .refl _ s
  · exact .refl _ s
  · exact acceptSeal_sameBut s

theorem handleMeasure_changes (form : MeasureForm) (s : State) :
    Changes (recordParts ++ readParts) s (handleMeasure form s).state := by
  unfold handleMeasure; repeat' split
  · exact .inl (.refl _ s)
  · exact .inl (.refl _ s)
  · exact .inl (.refl _ s)
  · exact takeRecord_changes _ s

theorem handleSetTime_sameBut (number : Nat) (s : State) : SameBut [.clock] s (handleSetTime number s).state := by
  unfold handleSetTime; repeat' split
  all_goals intro p hp; cases p <;> simp_all [Part.same, refuse]

theorem handleClear_changes (s : State) : Changes (clearParts ++ readParts) s (handleClear s).state := by
  unfold handleClear; repeat' split
  · exact .inl (.refl _ s)
  · exact .inl (.refl _ s)
  · exact acceptClear_changes s

theorem handleLeave_sameBut (s : State) : SameBut leaveEndParts s (handleLeave s).state := by
  have hstart := (startLeaving_sameBut s).mono (show _ ⊆ leaveEndParts by decide)
  have hstore := (startStoreLeaving_sameBut s).mono (show _ ⊆ leaveEndParts by decide)
  unfold handleLeave
  split
  · exact .refl _ s
  · exact .refl _ s
  · exact leaveAtOnce_sameBut s
  · exact leaveAtOnce_sameBut s
  · split
    · exact leaveAtOnce_sameBut s
    · exact hstart
  · exact .refl _ s
  · exact hstore
  · exact .refl _ s
  · exact .refl _ s

/-- The parts that a RESTART may change: all but the log, what is being sent, and what no reset reaches (R119, log 18). -/
def restartParts : List Part := (resetParts ++ requestParts).filter fun p => p != .log && p != .onBus && p != .sending

theorem restarted_sameBut (s : State) : SameBut restartParts s (restarted s) := by
  have hkept : ∀ p, p ∉ restartParts → p ∈ [Part.log, .onBus, .sending, .permit, .free] := by
    intro p; cases p <;> decide
  intro p hp
  obtain rfl | rfl | rfl | rfl | rfl : p = .log ∨ p = .onBus ∨ p = .sending ∨ p = .permit ∨ p = .free := by simpa using hkept p hp
  all_goals rfl

/-- The parts of the station that a request may change at its block. -/
def handleParts : Request → List Part
  | .setItem .. => [.items]
  | .seal => sealParts
  | .measure _ => recordParts ++ readParts
  | .setTime _ => [.clock]
  | .nominate .. => [.noms]
  | .order .. => [.orders, .orderMark]
  | .cancel .. => [.noms, .orders, .orderMark]
  | .clear => clearParts ++ readParts
  | .leave => leaveEndParts
  | .restart => restartParts
  | .queryState => [.reports, .free]
  | .queryPeer _ => []
  | .queryBook .. => []
  | .readLog => []
  | .releaseLog _ => [.log]

theorem handle_changes (r : Request) (s : State) : Changes (handleParts r) s (handle r s).state := by
  match r with
  | .setItem item monitor value => exact (handleSetItem_sameBut item monitor value s).changes
  | .seal => exact (handleSeal_sameBut s).changes
  | .measure form => exact handleMeasure_changes form s
  | .setTime n => exact (handleSetTime_sameBut n.toNat s).changes
  | .nominate first count power => exact (handleInsert_noms_sameBut _ _ _ s).changes
  | .order first count delta => exact (handleInsert_orders_sameBut _ _ _ s).changes
  | .cancel list first count => exact (handleCancel_sameBut list _ _ s).changes
  | .clear => exact handleClear_changes s
  | .leave => exact (handleLeave_sameBut s).changes
  | .restart => exact (restarted_sameBut s).changes
  | .queryState =>
    refine SameBut.changes fun p hp => ?_
    cases p <;> simp_all [Part.same, handleParts, handle, handleQueryState]
  | .queryPeer a => exact .inl (.refl _ s)
  | .queryBook list index =>
    left
    have hsame : (handleQueryBook list index s).state = s := by unfold handleQueryBook; split <;> rfl
    change SameBut [] s (handleQueryBook list index s).state
    rw [hsame]; exact .refl _ s
  | .readLog => exact .inl (.refl _ s)
  | .releaseLog k =>
    refine SameBut.changes fun p hp => ?_
    cases p <;> simp_all [Part.same, handleParts, handle, handleReleaseLog]

/-! ## The exchange -/

theorem resend_sameBut (s : State) : SameBut [.exchange] s (resend s) := fun p hp => by
  cases p <;> simp_all [Part.same, resend]

theorem oweReply_sameBut (code tag : Byte) (body : List Byte) (h : Handled) :
    SameBut [.exchange] h.state (oweReply code tag body h) := fun p hp => by
  cases p <;> simp_all [Part.same, oweReply]

theorem exchange_changes {ps : List Part} {code tag : Byte} {body : List Byte} {act : State → Handled} {s : State}
    (h : Changes ps s (act s).state) : Changes (ps ++ requestParts) s (exchange code tag body act s) := by
  have hsub : requestParts ⊆ ps ++ requestParts := fun _ hp => List.mem_append_right _ hp
  unfold exchange
  split
  · exact .inl ((countFault_sameBut s).mono (List.Subset.trans (by decide) hsub))
  · split
    · exact .inl ((resend_sameBut s).mono (List.Subset.trans (by decide) hsub))
    · exact (h.mono fun _ hp => List.mem_append_left _ hp).then_sameBut
        ((oweReply_sameBut _ _ _ _).mono (List.Subset.trans (by decide) hsub)) rfl

theorem atInstant_then {ps : List Part} {t : Nat} {s u : State} (h : Changes ps (s.atInstant t) u) : Changes ps s u :=
  ((atInstant_sameBut t s).mono (List.nil_subset _)).then_changes (fun hl => hl) h

theorem request_changes (t : Nat) (tag : Byte) (r : Request) (s : State) :
    Changes (handleParts r ++ requestParts) s (request t tag r s) :=
  atInstant_then (exchange_changes (handle_changes r _))

/-- A record refused UNKNOWN, and one that is counted, changes the exchange alone (R148). -/
theorem exchange_refused_changes (code tag : Byte) (body : List Byte) (x : Refuse) (s : State) :
    Changes requestParts s (exchange code tag body (refuse x) s) :=
  (exchange_changes (ps := []) (act := refuse x) (.inl (.refl _ s))).mono (by decide)

theorem repeatKept_changes (s : State) : Changes requestParts s (repeatKept s) := by
  unfold repeatKept
  split
  · exact exchange_refused_changes _ _ _ _ s
  · exact .inl (.refl _ s)

/-- A MEASURE body whose first byte names no form is read back as no request (R155). -/
theorem decodeRequest_measure_formless {x : Byte} (h1 : x ≠ 1#8) (h2 : x ≠ 2#8) (l : List Byte) :
    decodeRequest 3#8 (x :: l) = none := by
  unfold decodeRequest
  delta decodeRequest.match_1
  dsimp
  change dite (x = 1#8) _ _ = none
  rw [dif_neg h1, dif_neg h2]

/-- The train form of a MEASURE has ten bytes after its first. -/
theorem length_of_decodes_trainForm {l : List Byte} {r : Request} (h : decodeRequest 3#8 (1#8 :: l) = some r) : l.length = 10 := by
  rcases l with _ | ⟨a, _ | ⟨b, _ | ⟨c, _ | ⟨d, _ | ⟨e, _ | ⟨f, _ | ⟨g, _ | ⟨h, _ | ⟨i, _ | ⟨j, _ | ⟨k, l⟩⟩⟩⟩⟩⟩⟩⟩⟩⟩⟩
  case cons.cons.cons.cons.cons.cons.cons.cons.cons.cons.nil => rfl
  all_goals cases h

/-- The store form has sixteen. -/
theorem length_of_decodes_storeForm {l : List Byte} {r : Request} (h : decodeRequest 3#8 (2#8 :: l) = some r) : l.length = 16 := by
  rcases l with _ | ⟨a, _ | ⟨b, _ | ⟨c, _ | ⟨d, _ | ⟨e, _ | ⟨f, _ | ⟨g, _ | ⟨h, _ | ⟨i, _ | ⟨j, _ | ⟨k, _ | ⟨m, _ | ⟨n, _ | ⟨o, _ | ⟨p,
    _ | ⟨q, _ | ⟨u, l⟩⟩⟩⟩⟩⟩⟩⟩⟩⟩⟩⟩⟩⟩⟩⟩⟩
  case cons.cons.cons.cons.cons.cons.cons.cons.cons.cons.cons.cons.cons.cons.cons.cons.nil => rfl
  all_goals cases h

theorem namesRequest_of_decodes_measure {body : List Byte} {r : Request} (h : decodeRequest 3#8 body = some r) :
    namesRequest 3#8 body = true := by
  rcases body with _ | ⟨x, l⟩
  · cases h
  by_cases h1 : x = 1#8
  · subst h1
    simp [namesRequest, requestLengths, measureBodyOk, length_of_decodes_trainForm h]
  by_cases h2 : x = 2#8
  · subst h2
    simp [namesRequest, requestLengths, measureBodyOk, length_of_decodes_storeForm h]
  · rw [decodeRequest_measure_formless h1 h2] at h; cases h

theorem decodeRequest_past_codes {code : Byte} (h : 16 ≤ code.toNat) (body : List Byte) : decodeRequest code body = none := by
  obtain ⟨n, hn⟩ := Nat.exists_eq_add_of_le' h
  unfold decodeRequest
  rw [hn]
  rfl

/-- A body that is read back as a request has the length and form that its code calls for. -/
theorem namesRequest_of_decodes {code : Byte} {body : List Byte} {r : Request} (h : decodeRequest code body = some r) :
    namesRequest code body = true := by
  by_cases hc : 16 ≤ code.toNat
  · rw [decodeRequest_past_codes hc] at h; cases h
  obtain ⟨n, hn, rfl⟩ : ∃ n, n < 16 ∧ code = BitVec.ofNat 8 n := ⟨code.toNat, by omega, by simp⟩
  by_cases h3 : n = 3
  · subst h3
    exact namesRequest_of_decodes_measure h
  obtain rfl | rfl | rfl | rfl | rfl | rfl | rfl | rfl | rfl | rfl | rfl | rfl | rfl | rfl | rfl : n = 0 ∨ n = 1 ∨ n = 2 ∨ n = 4
    ∨ n = 5 ∨ n = 6 ∨ n = 7 ∨ n = 8 ∨ n = 9 ∨ n = 10 ∨ n = 11 ∨ n = 12 ∨ n = 13 ∨ n = 14 ∨ n = 15 := by omega
  all_goals rcases body with _ | ⟨a, _ | ⟨b, _ | ⟨c, _ | ⟨d, _ | ⟨e, _ | ⟨f, _ | ⟨g, _ | ⟨i, _ | ⟨j, l⟩⟩⟩⟩⟩⟩⟩⟩⟩
  all_goals first | rfl | cases h

theorem goodRecord_unknown_changes {code tag : Byte} {body : List Byte} (h : namesRequest code body = false) (s : State) :
    Changes requestParts s (goodRecord code tag body s) := by
  unfold goodRecord
  split
  · next r hr => rw [namesRequest_of_decodes hr] at h; cases h
  · exact exchange_refused_changes _ _ _ _ s

/-- A damaged record is counted; one with a good check may be any request. -/
theorem recordArrival_changes (t : Nat) (bytes : List Byte) (s : State) :
    Changes (mayChange (.linkRecordDiscarded t bytes)) s (recordArrival bytes s) := by
  by_cases hgood : checkGood bytes = true
  · have hall : ∀ p, p ∈ Part.permit :: .free :: .pendingAlert :: resetParts := by
      intro p; cases p <;> decide
    refine .inl fun p hp => absurd ?_ hp
    simpa [mayChange, hgood] using hall p
  · rw [recordArrival, if_pos (by simpa using hgood)]
    exact .inl ((countFault_sameBut s).mono (by simp [mayChange, hgood]))

end Sys2Proof.Machine
end

section
/-! PROOFS. The frame of the link's, the lines', the bus's and the timers' events, and with it that every command changes only the parts that its rules
name (R50, R113, log 1, log 3). -/

namespace Sys2Proof.Machine

/-! ## The link, the lines and the clock -/

theorem transmit_sameBut (s : State) : SameBut [.sending, .setpoint, .reports] s (transmit s) := by
  unfold transmit
  repeat' split
  all_goals intro p hp; cases p <;> simp_all [Part.same]

theorem recordSent_sameBut (s : State) : SameBut [.sending, .exchange] s (recordSent s) := by
  unfold recordSent
  split
  · exact .refl _ s
  · intro p hp; cases p <;> simp_all [Part.same]

theorem poweredOn_sameBut (s : State) : SameBut resetParts s (poweredOn s) := by
  have hkept : ∀ p, p ∉ resetParts → p ∈ [Part.permit, .free] := by
    intro p; cases p <;> decide
  intro p hp
  obtain rfl | rfl : p = .permit ∨ p = .free := by simpa using hkept p hp
  all_goals rfl

/-- The level of the PERMIT line and nothing else. -/
theorem setPermit_sameBut (level : Bool) (s : State) : SameBut [.permit] s { s with permit := level } := fun p hp => by
  cases p <;> simp_all [Part.same]

/-- The command set to 0 with nothing told, as before the end of a leave. -/
theorem zeroCommand_sameBut (s : State) : SameBut [.command] s { s with share := { s.share with command := 0 } } := fun p hp => by
  cases p <;> simp_all [Part.same]

theorem permitRemoved_changes (s : State) : Changes fallParts s (permitRemoved s) := by
  have hidle : Changes fallParts s (evalAvailable s) := .inl ((evalAvailable_sameBut s).mono (by decide))
  unfold permitRemoved
  split
  · exact .inl (enterStandby_sameBut .permit s)
  · exact .inl (enterStandby_sameBut .permit s)
  · next hl =>
    split
    · refine .inr ⟨hl, by simp, ?_⟩
      refine SameBut.trans ((zeroCommand_sameBut s).mono (by decide)) ?_
      exact (endLeave_sameBut _).comp (setpointIfFell_sameBut _ _) (by decide)
    · exact hidle
  all_goals exact hidle

theorem permitTo_changes (level : Bool) (s : State) : Changes (.permit :: fallParts) s (permitTo level s) := by
  unfold permitTo
  split
  · exact .inl (.refl _ s)
  · split
    · exact .inl ((setPermit_sameBut true s).comp (evalAvailable_sameBut _) (by decide))
    · exact ((setPermit_sameBut false s).mono (by decide)).then_changes (fun hl => hl)
        ((permitRemoved_changes _).mono (by decide))

/-- The interval clock and nothing else. -/
theorem setClock_sameBut (c : Clock) (s : State) : SameBut [.clock] s { s with clock := c } := fun p hp => by
  cases p <;> simp_all [Part.same]

theorem pulseChange_sameBut (n : Nat) (s : State) : SameBut changeParts s (pulseChange n s) :=
  (setClock_sameBut _ s).comp (intervalChange_sameBut n false _) (by decide)

theorem boundary_sameBut (s : State) : SameBut changeParts s (boundary s) := by
  unfold boundary
  repeat' split
  · exact .refl _ s
  · exact .refl _ s
  · exact pulseChange_sameBut _ s
  · exact (setClock_sameBut _ s).mono (by decide)
  · exact pulseChange_sameBut _ s
  · exact .refl _ s
  · exact pulseChange_sameBut _ s

theorem advance_sameBut (i : Nat) (s : State) : SameBut changeParts s (advance i s) := fun p hp => by
  cases p <;> simp_all [Part.same, changeParts]

theorem atInstant_sameThen {ps : List Part} {t : Nat} {s u : State} (h : SameBut ps (s.atInstant t) u) : SameBut ps s u :=
  ((atInstant_sameBut t s).mono (List.nil_subset _)).trans h

theorem freeRunStart_sameBut (s : State) : SameBut changeParts s (freeRunStart s) := by
  unfold freeRunStart
  repeat' split
  · exact .refl _ s
  · exact atInstant_sameThen (advance_sameBut _ _)
  · exact .refl _ s

theorem freeRunOn_sameBut (s : State) : SameBut changeParts s (freeRunOn s) := by
  unfold freeRunOn
  repeat' split
  · exact atInstant_sameThen (advance_sameBut _ _)
  · exact .refl _ s
  · exact .refl _ s

/-! ## The bus -/

theorem enqueue_sameBut (f : Frame) (s : State) : SameBut [.receiveQueue, .reports] s (enqueue f s) := by
  unfold enqueue
  repeat' split
  all_goals intro p hp; cases p <;> simp_all [Part.same]

/-- The parts that the arrival of a frame may change: those of a conflict, and the receive queue. -/
def arrivalParts : List Part := [.receiveQueue, .statusTimer] ++ tripParts

theorem arrival_sameBut (bytes : List Byte) (s : State) : SameBut arrivalParts s (arrival bytes s) := by
  unfold arrival receiveFrame
  repeat' split
  · exact .refl _ s
  · exact .refl _ s
  · exact .refl _ s
  · exact (addressConflict_sameBut s).mono (by decide)
  · exact (enqueue_sameBut _ s).mono (by decide)
  · exact .refl _ s

theorem removeHead_sameBut (s : State) : SameBut [.receiveQueue] s (removeHead s) := fun p hp => by
  cases p <;> simp_all [Part.same]

/-- The peer table and nothing else. -/
theorem setView_sameBut (es : List Entry) (s : State) : SameBut [.view] s { s with view := es } := fun p hp => by
  cases p <;> simp_all [Part.same]

/-- The parts that an applied status frame may change before its read of U. -/
def statusFrameParts : List Part := [.view, .reports, .energies, .peerPoints, .agreement]

theorem handOn_sameBut (f : StatusFrame) (old : Option Entry) (arr : Nat) (s : State) :
    SameBut [.energies, .peerPoints, .agreement, .reports] s (handOn f old arr s) := by
  unfold handOn
  split
  · exact (accountFrame_sameBut _ _ _ _ s).comp (judge_sameBut _) (by decide)
  · exact (accountDrop_sameBut _ _ s).mono (by decide)
  · exact .refl _ s

/-- The work of an applied status frame before its read of U (R11, R12, R138). -/
def statusFrameWork (f : StatusFrame) (tag : Relation) (arr : Nat) (s : State) : State :=
  let s₁ := produceOpt (applyReport f.address (findEntry s.view f.address))
    { s with view := putEntry (entryFrom f tag arr (findEntry s.view f.address)) s.view }
  if s.isTrain then handOn f (findEntry s.view f.address) arr s₁ else s₁

theorem applyStatus_eq (f : StatusFrame) (tag : Relation) (arr : Nat) (s : State) :
    applyStatus f tag arr s = readUpper (statusFrameWork f tag arr s) := rfl

theorem statusFrameWork_sameBut (f : StatusFrame) (tag : Relation) (arr : Nat) (s : State) :
    SameBut statusFrameParts s (statusFrameWork f tag arr s) := by
  have hview := setView_sameBut (putEntry (entryFrom f tag arr (findEntry s.view f.address)) s.view) s
  have hreport := (hview.comp (produceOpt_sameBut (applyReport f.address (findEntry s.view f.address)) _) (rs := statusFrameParts)
    (by decide))
  unfold statusFrameWork
  dsimp only
  split
  · exact hreport.trans ((handOn_sameBut _ _ _ _).mono (by decide))
  · exact hreport

theorem applyStatus_changes (f : StatusFrame) (tag : Relation) (arr : Nat) (s : State) :
    Changes (statusFrameParts ++ readParts) s (applyStatus f tag arr s) :=
  have h := statusFrameWork_sameBut f tag arr s
  h.read (fun hl => (h.state (by decide)).symm.trans hl) fun _ hp => hp

theorem applyHeadStatus_changes (s : State) :
    Changes ([.receiveQueue, .view, .peerPoints, .energies, .agreement] ++ readParts) s (applyHeadStatus s) := by
  unfold applyHeadStatus
  split
  · exact ((removeHead_sameBut s).mono (by decide)).then_changes (fun hl => hl) ((applyStatus_changes _ _ _ _).mono (by decide))
  · exact .inl (.refl _ s)

/-- A change of the view, and then a read of U. -/
theorem setView_read_changes (es : List Entry) (s : State) :
    Changes (.view :: readParts) s (readUpper { s with view := es }) :=
  (setView_sameBut es s).read (fun hl => hl) fun _ hp => hp

theorem applyAlert_changes (a : Alert) (s : State) : Changes (.view :: readParts) s (applyAlert a s) := by
  unfold applyAlert
  split
  · exact .inl (.refl _ s)
  · exact setView_read_changes _ s

theorem applyHeadAlert_changes (s : State) : Changes ([.receiveQueue, .view] ++ readParts) s (applyHeadAlert s) := by
  unfold applyHeadAlert
  repeat' split
  · exact .inl (.refl _ s)
  · exact ((removeHead_sameBut s).mono (by decide)).then_changes (fun hl => hl) ((applyAlert_changes _ _).mono (by decide))
  · exact .inl (.refl _ s)

/-- The work of a loss before its read of U (R15, R18). -/
def loseWork (e : Entry) (s : State) : State :=
  let s₁ := { s with view := updateEntry s.view e.address fun x => { x with status := .lost, holdEnd := holdFromNow s } }
  if e.status = .lost then s₁ else produce (.peerLost e.address) s₁

theorem loseEntry_eq (e : Entry) (s : State) : loseEntry e s = readUpper (loseWork e s) := rfl

theorem loseWork_sameBut (e : Entry) (s : State) : SameBut [.view, .reports] s (loseWork e s) := by
  unfold loseWork
  dsimp only
  split
  · exact (setView_sameBut _ s).mono (by decide)
  · exact (setView_sameBut _ s).comp (produce_sameBut _ _) (by decide)

theorem loseEntry_changes (e : Entry) (s : State) : Changes (.view :: readParts) s (loseEntry e s) :=
  have h := loseWork_sameBut e s
  h.read (fun hl => (h.state (by decide)).symm.trans hl) (by decide)

theorem applyHeadConflict_changes (s : State) : Changes ([.receiveQueue, .view] ++ readParts) s (applyHeadConflict s) := by
  unfold applyHeadConflict applyConflict
  repeat' split
  · exact .inl ((removeHead_sameBut s).mono (by decide))
  · exact ((removeHead_sameBut s).mono (by decide)).then_changes (fun hl => hl) ((loseEntry_changes _ _).mono (by decide))
  · exact .inl (.refl _ s)
  · exact .inl (.refl _ s)

theorem takeFrame_sameBut (s : State) : SameBut [.onBus, .pendingAlert, .pendingStatus] s (takeFrame s) := by
  unfold takeFrame
  split <;> intro p hp <;> cases p <;> simp_all [Part.same]

theorem endTransmission_sameBut (s : State) : SameBut [.onBus] s (endTransmission s) := fun p hp => by
  cases p <;> simp_all [Part.same, endTransmission]

/-! ## The timers -/

/-- The status timer and the leave count, and nothing else. -/
theorem setStatusTimer_sameBut (d : Option Nat) (s : State) :
    SameBut [.statusTimer] s { s with bus := { s.bus with statusTimer := d } } := fun p hp => by
  cases p <;> simp_all [Part.same]

theorem setLeaveCount_sameBut (n : Nat) (s : State) :
    SameBut [.leaveCount] s { s with seq := { s.seq with leaveCount := n } } := fun p hp => by
  cases p <;> simp_all [Part.same]

theorem statusWork_changes (s : State) : Changes [.pendingStatus, .available, .lastU, .leaveCount] s (statusWork s) := by
  have hbuild (u : State) : SameBut [.pendingStatus, .available, .lastU, .leaveCount] u (buildStatus u) :=
    (buildStatus_sameBut u).mono (by decide)
  have hcount := setLeaveCount_sameBut (s.seq.leaveCount + 1) s
  unfold statusWork
  split
  · next h =>
    dsimp only
    split
    · refine .inr ⟨by simpa using (Bool.and_eq_true_iff.mp h).2, by simp [endStoreLeave], ?_⟩
      exact hcount.comp (endLeave_sameBut _) (by decide)
    · exact .inl ((hcount.mono (by decide)).trans (hbuild _))
  · exact .inl (hbuild s)

theorem statusExpiry_changes (s : State) :
    Changes [.statusTimer, .pendingStatus, .available, .lastU, .leaveCount] s (statusExpiry s) := by
  have hwork (u : State) := (statusWork_changes u).mono (qs := [.statusTimer, .pendingStatus, .available, .lastU, .leaveCount]) (by decide)
  unfold statusExpiry
  split
  · exact .inl (.refl _ s)
  · next d _ =>
    have htimer := (setStatusTimer_sameBut (some (d + s.inForce.p)) (s.atInstant d)).mono
      (show _ ⊆ [Part.statusTimer, .pendingStatus, .available, .lastU, .leaveCount] by decide)
    exact atInstant_then (htimer.then_changes (fun hl => hl) (hwork _))

theorem lateExpiry_changes (a : Nat) (s : State) : Changes (.view :: readParts) s (lateExpiry a s) := by
  unfold lateExpiry
  repeat' split
  · exact .inl (.refl _ s)
  · exact atInstant_then (setView_read_changes _ _)
  · exact .inl (.refl _ s)

theorem lostExpiry_changes (a : Nat) (s : State) : Changes (.view :: readParts) s (lostExpiry a s) := by
  unfold lostExpiry
  repeat' split
  · exact .inl (.refl _ s)
  · exact .inl (.refl _ s)
  · exact atInstant_then (loseEntry_changes _ _)

/-- The work of a freed entry before its read of U (R16, R139). -/
def freeWork (a : Nat) (s : State) : State :=
  accountDrop a s.now (produce (.peerDropped a) { s with view := s.view.filter fun e => e.address != a })

theorem freeEntry_eq (a : Nat) (s : State) : freeEntry a s = readUpper (freeWork a s) := rfl

theorem freeWork_sameBut (a : Nat) (s : State) : SameBut [.view, .reports, .energies, .peerPoints] s (freeWork a s) :=
  ((setView_sameBut _ s).comp (produce_sameBut (.peerDropped a) _) (by decide)).comp (accountDrop_sameBut a s.now _)
    (rs := [.view, .reports, .energies, .peerPoints]) (List.append_subset.mpr ⟨fun _ h => h, by decide⟩) |>.mono (by decide)

theorem holdExpiry_changes (a : Nat) (s : State) : Changes ([.view, .peerPoints, .energies] ++ readParts) s (holdExpiry a s) := by
  unfold holdExpiry
  repeat' split
  · exact .inl (.refl _ s)
  · next d _ _ =>
    have h := freeWork_sameBut a (s.atInstant d)
    exact atInstant_then (h.read (fun hl => (h.state (by decide)).symm.trans hl) (by decide))
  · exact .inl (.refl _ s)

/-- The share timer and nothing else. -/
theorem setShareTimer_sameBut (d : Option Nat) (s : State) :
    SameBut [.shareTimer] s { s with share := { s.share with timer := d } } := fun p hp => by
  cases p <;> simp_all [Part.same]

theorem setWake_sameBut (w : Nat) (s : State) : SameBut [.wake] s { s with share := { s.share with wake := w } } := fun p hp => by
  cases p <;> simp_all [Part.same]

/-- The wake counter, the command at 0 and the start timer, as a start sets them (R109). -/
theorem setStart_sameBut (d : Option Nat) (s : State) : SameBut [.wake, .command, .startTimer] s
    { s with share := { s.share with wake := 0, command := 0 }, seq := { s.seq with startTimer := d } } := fun p hp => by
  cases p <;> simp_all [Part.same]

theorem enterStarting_sameBut (s : State) :
    SameBut [.wake, .command, .startTimer, .state, .reports, .available] s (enterStarting s) :=
  SameBut.trans ((setStart_sameBut (some (s.now + seconds s.inForce.items.startTime)) s).mono (by decide))
    ((enterState_sameBut .starting .wake _).comp (evalAvailable_sameBut _) (by decide))

theorem standbyExpiry_sameBut (k : Kind) (s : State) :
    SameBut [.wake, .command, .startTimer, .state, .reports, .available] s (standbyExpiry k s) := by
  have hwake := (setWake_sameBut (nextWake s k) s).mono
    (show _ ⊆ [Part.wake, .command, .startTimer, .state, .reports, .available] by decide)
  unfold standbyExpiry
  dsimp only
  split
  · exact hwake.trans (enterStarting_sameBut _)
  · exact hwake

/-- The share computation ends a leave where it brings the command of a leaving train to 0 (R66, R113). -/
theorem loadedExpiry_changes (k : Kind) (s : State) :
    Changes [.command, .lastLoaded, .standbyTimer, .openRecord] s (loadedExpiry k s) := by
  have hperiod := notePeriod_sameBut s
  unfold loadedExpiry
  generalize hc : newCommand s k = c
  by_cases hl : s.seq.state = .leaving ∧ c = 0
  · obtain ⟨hl, rfl⟩ := hl
    by_cases h0 : s.share.command = 0
    · have hsame : setCommand 0 (notePeriod s) = notePeriod s := by simp [setCommand, h0]
      rw [hsame]
      exact .inl (hperiod.mono (by decide))
    · rw [setCommand_ends (s := notePeriod s) (by simpa using hl) (by simpa using h0)]
      refine .inr ⟨hl, by simp, ?_⟩
      refine SameBut.trans (hperiod.mono (by decide)) ?_
      exact (zeroCommand_sameBut _).comp (endLeave_sameBut _) (by decide)
  · exact .inl (hperiod.comp (setCommand_sameBut (by simpa using hl)) (by decide))

/-- The parts that a control period expiry may change. -/
def controlParts : List Part := [.shareTimer, .target, .agreement, .openRecord, .wake, .startTimer, .state] ++ readParts

/-- The third to fifth stages of a control period expiry: the new command of a loaded train, or the wake count of a waiting one (R48). -/
def expiryWork (k : Kind) (s : State) : State :=
  if s.seq.state.loaded then loadedExpiry k s
  else if s.seq.state = .standby then standbyExpiry k s
  else s

theorem expiryStages_eq (k : Kind) (s : State) :
    expiryStages k s = sendSetpoint (expiryWork k (readAtExpiry (bookExpiry s))) := rfl

theorem expiryWork_changes (k : Kind) (s : State) : Changes controlParts s (expiryWork k s) := by
  unfold expiryWork
  split
  · exact (loadedExpiry_changes k s).mono (by decide)
  · split
    · exact .inl ((standbyExpiry_sameBut k s).mono (by decide))
    · exact .inl (.refl _ s)

theorem expiryStages_changes (k : Kind) (s : State) : Changes controlParts s (expiryStages k s) := by
  have hread : SameBut controlParts s (readAtExpiry (bookExpiry s)) :=
    (bookExpiry_sameBut s).comp (readAtExpiry_sameBut _) (by decide)
  have hstate : (readAtExpiry (bookExpiry s)).seq.state = s.seq.state := by simp
  rw [expiryStages_eq]
  generalize readAtExpiry (bookExpiry s) = v at hread hstate ⊢
  have hwork := hread.then_changes (fun hl => hstate.symm.trans hl) (expiryWork_changes k v)
  have hsend := (sendSetpoint_sameBut (expiryWork k v)).mono (show _ ⊆ controlParts by decide)
  exact hwork.then_sameBut hsend (by simp)

theorem controlExpiry_changes (s : State) : Changes controlParts s (controlExpiry s) := by
  unfold controlExpiry
  repeat' split
  · next d k _ _ _ =>
    have htimer := (setShareTimer_sameBut (some (d + s.inForce.p)) (s.atInstant d)).mono (show _ ⊆ controlParts by decide)
    exact atInstant_then (htimer.then_changes (fun hl => hl) (expiryStages_changes k _))
  · exact .inl (.refl _ s)
  · exact .inl (.refl _ s)

theorem endWindow_sameBut (s : State) : SameBut tripParts s (endWindow s) := by
  unfold endWindow
  repeat' split
  · exact (enterActive_sameBut _ s).mono (by decide)
  · exact (enterStandby_sameBut _ s).mono (by decide)
  · exact trip_sameBut _ s

theorem joinExpiry_sameBut (s : State) : SameBut tripParts s (joinExpiry s) := by
  unfold joinExpiry
  repeat' split
  · exact .refl _ s
  · exact atInstant_sameThen (endWindow_sameBut _)
  · exact .refl _ s

theorem enterRunning_sameBut (s : State) :
    SameBut [.state, .startTimer, .standbyTimer, .blanking, .available, .reports] s (enterRunning s) := fun p hp => by
  cases p <;> simp_all [Part.same]

theorem startExpiry_sameBut (s : State) :
    SameBut [.state, .startTimer, .standbyTimer, .blanking, .available, .reports] s (startExpiry s) := by
  unfold startExpiry
  repeat' split
  · exact .refl _ s
  · exact atInstant_sameThen (enterRunning_sameBut _)
  · exact .refl _ s

theorem standbyExpires_sameBut (s : State) : SameBut fallParts s (standbyExpires s) := by
  unfold standbyExpires
  repeat' split
  · exact .refl _ s
  · exact atInstant_sameThen (enterStandby_sameBut _ _)
  · exact .refl _ s

theorem blankingExpiry_sameBut (m : Monitor) (s : State) : SameBut [.blanking] s (blankingExpiry m s) := by
  unfold blankingExpiry
  split <;> intro p hp <;> cases p <;> simp_all [Part.same]

theorem staleTimerExpires_changes (s : State) : Changes (staleParts ++ readParts) s (staleTimerExpires s) := by
  unfold staleTimerExpires
  split
  · exact .inl (.refl _ s)
  · exact atInstant_then (staleExpiry_changes _)

end Sys2Proof.Machine
end

section
/-! PROOFS. Every command ends in a next state, leaves the queue alone, never runs time backward, and changes no part but its own (R50, R148, log 1,
log 3). -/

namespace Sys2Proof.Machine

/-! ## The event of a command -/

/-- The station after a command: the request of its row, or its event at its instant. -/
def outcome (c : Instr) (s : State) : State :=
  match c with
  | .setItem t tag item monitor value => request t tag (.setItem item monitor value) s
  | .seal t tag => request t tag .seal s
  | .measure t tag form => request t tag (.measure form) s
  | .setTime t tag number => request t tag (.setTime number) s
  | .nominate t tag first count power => request t tag (.nominate first count power) s
  | .order t tag first count delta => request t tag (.order first count delta) s
  | .cancel t tag list first count => request t tag (.cancel list first count) s
  | .clear t tag => request t tag .clear s
  | .leave t tag => request t tag .leave s
  | .restart t tag => request t tag .restart s
  | .queryState t tag => request t tag .queryState s
  | .queryPeer t tag address => request t tag (.queryPeer address) s
  | .queryBook t tag list index => request t tag (.queryBook list index) s
  | .readLog t tag => request t tag .readLog s
  | .releaseLog t tag k => request t tag (.releaseLog k) s
  | .repeatRequest t => repeatKept (s.atInstant t)
  | .unknownRequest t code tag body => goodRecord code tag body (s.atInstant t)
  | .linkRecordDiscarded t bytes => recordArrival bytes (s.atInstant t)
  | .linkTransmit t => transmit (s.atInstant t)
  | .linkRecordSent t => recordSent (s.atInstant t)
  | .powerOnReset t => poweredOn (s.atInstant t)
  | .permitChange t level => permitTo level (s.atInstant t)
  | .boundaryPulse t => boundary (s.atInstant t)
  | .frameArrival t bytes => arrival bytes (s.atInstant t)
  | .applyStatusFrame t => applyHeadStatus (s.atInstant t)
  | .applyAlert t => applyHeadAlert (s.atInstant t)
  | .applyAlertConflict t => applyHeadConflict (s.atInstant t)
  | .busTakeFrame t => takeFrame (s.atInstant t)
  | .statusTimerExpiry => statusExpiry s
  | .lateDeadline address => lateExpiry address s
  | .lostDeadline address => lostExpiry address s
  | .lostHoldExpiry address => holdExpiry address s
  | .freeRunDeadline => freeRunStart s
  | .freeRunAdvance => freeRunOn s
  | .controlPeriodExpiry => controlExpiry s
  | .joinTimerExpiry => joinExpiry s
  | .startTimerExpiry => startExpiry s
  | .standbyTimerExpiry => standbyExpires s
  | .blankingTimerExpiry monitor => blankingExpiry monitor s
  | .staleTimerExpiry => staleTimerExpires s
  | .frameTransmissionEnd t => endTransmission (s.atInstant t)

/-- Every command has a next state, its outcome. -/
theorem exec_eq (c : Instr) (s : State) : exec c s = .next (outcome c s) := by
  cases c <;> rfl

/-! ## The queue and the instant -/

/-- The queue is the same, and the instant no earlier. -/
def Onward (s u : State) : Prop := u.pending = s.pending ∧ s.now ≤ u.now

theorem Onward.refl (s : State) : Onward s s := ⟨rfl, Nat.le_refl _⟩

@[simp] theorem now_le_atInstant (t : Nat) (s : State) : s.now ≤ (s.atInstant t).now := Nat.le_max_left _ _

theorem atInstant_onward {t : Nat} {s u : State} (h : Onward (s.atInstant t) u) : Onward s u :=
  ⟨h.1, Nat.le_trans (Nat.le_max_left _ _) h.2⟩

theorem handle_onward (r : Request) (s : State) : Onward s (handle r s).state := by
  cases r <;>
    simp only [handle, handleSetItem, handleSeal, handleMeasure, handleSetTime, handleInsert, handleCancel, replaceList, handleClear,
      handleLeave, handleRestart, handleQueryState, handleQueryPeer, handleQueryBook, handleReadLog, handleReleaseLog, refuse,
      leaveAtOnce, startLeaving, startStoreLeaving, restarted] <;>
    (repeat' split) <;> simp [Onward]

theorem exchange_onward (code tag : Byte) (body : List Byte) {act : State → Handled} {s : State} (h : Onward s (act s).state) :
    Onward s (exchange code tag body act s) := by
  unfold exchange
  repeat' split
  · simp [Onward]
  · exact .refl s
  · exact h

theorem request_onward (t : Nat) (tag : Byte) (r : Request) (s : State) : Onward s (request t tag r s) :=
  atInstant_onward (exchange_onward _ _ _ (handle_onward r _))

theorem goodRecord_onward (code tag : Byte) (body : List Byte) (s : State) : Onward s (goodRecord code tag body s) := by
  unfold goodRecord
  split
  · exact exchange_onward _ _ _ (handle_onward _ s)
  · exact exchange_onward _ _ _ (.refl s)

theorem recordArrival_onward (bytes : List Byte) (s : State) : Onward s (recordArrival bytes s) := by
  unfold recordArrival
  repeat' split
  · simp [Onward]
  · exact goodRecord_onward _ _ _ s
  · simp [Onward]

theorem repeatKept_onward (s : State) : Onward s (repeatKept s) := by
  unfold repeatKept
  split
  · exact exchange_onward _ _ _ (.refl s)
  · exact .refl s

theorem statusExpiry_onward (s : State) : Onward s (statusExpiry s) := by
  unfold statusExpiry
  split
  · exact .refl s
  · next d _ =>
    refine atInstant_onward (t := d) ?_
    simp only [statusWork, endStoreLeave]
    repeat' split
    all_goals simp [Onward]

theorem permitTo_onward (level : Bool) (s : State) : Onward s (permitTo level s) := by
  simp only [permitTo, permitRemoved]
  repeat' split
  all_goals simp [Onward]

/-- Every command ends in a next state with the queue as it was, no earlier (log 1). -/
theorem outcome_onward (c : Instr) (s : State) : Onward s (outcome c s) := by
  cases c <;> dsimp only [outcome]
  case repeatRequest t => exact atInstant_onward (repeatKept_onward _)
  case unknownRequest t code tag body => exact atInstant_onward (goodRecord_onward code tag body _)
  case linkRecordDiscarded t bytes => exact atInstant_onward (recordArrival_onward bytes _)
  case permitChange t level => exact atInstant_onward (permitTo_onward level _)
  case statusTimerExpiry => exact statusExpiry_onward s
  case linkTransmit t => unfold transmit; (repeat' split) <;> simp [Onward]
  case linkRecordSent t => unfold recordSent; split <;> simp [Onward]
  case powerOnReset t => simp [Onward, poweredOn]
  case boundaryPulse t => unfold boundary pulseChange; (repeat' split) <;> simp [Onward]
  case frameArrival t bytes => unfold arrival receiveFrame; (repeat' split) <;> simp [Onward]
  case applyStatusFrame t => unfold applyHeadStatus; split <;> simp [Onward]
  case applyAlert t => unfold applyHeadAlert; (repeat' split) <;> simp [Onward]
  case applyAlertConflict t => unfold applyHeadConflict; (repeat' split) <;> simp [Onward]
  case busTakeFrame t => unfold takeFrame; split <;> simp [Onward]
  case frameTransmissionEnd t => simp [Onward, endTransmission]
  case lateDeadline a => unfold lateExpiry; (repeat' split) <;> simp [Onward]
  case lostDeadline a => unfold lostExpiry; (repeat' split) <;> simp [Onward]
  case lostHoldExpiry a => unfold holdExpiry; (repeat' split) <;> simp [Onward]
  case freeRunDeadline => unfold freeRunStart; (repeat' split) <;> simp [Onward]
  case freeRunAdvance => unfold freeRunOn; (repeat' split) <;> simp [Onward]
  case controlPeriodExpiry => unfold controlExpiry; (repeat' split) <;> simp [Onward]
  case joinTimerExpiry => unfold joinExpiry; (repeat' split) <;> simp [Onward]
  case startTimerExpiry => unfold startExpiry; (repeat' split) <;> simp [Onward]
  case standbyTimerExpiry => unfold standbyExpires; (repeat' split) <;> simp [Onward]
  case blankingTimerExpiry m => unfold blankingExpiry; split <;> simp [Onward]
  case staleTimerExpiry => unfold staleTimerExpires; split <;> simp [Onward]
  all_goals exact request_onward _ _ _ s

/-! ## The parts -/

/-- What a request may change, with its exchange, is on the list of its row. -/
theorem handleParts_mayChange {c : Instr} {t : Nat} {tag : Byte} {r : Request} (h : asRequest c = some (t, tag, r)) :
    handleParts r ++ requestParts ⊆ mayChange c := by
  cases c <;> cases h
  case restart => change restartParts ++ requestParts ⊆ restartParts; decide
  all_goals exact fun _ hp => hp

/-- Every command changes the parts of its row, or ends a leave. -/
theorem outcome_changes (c : Instr) (hc : c.wellFormed = true) (s : State) : Changes (mayChange c) s (outcome c s) := by
  cases c
  case repeatRequest t => exact atInstant_then (repeatKept_changes _)
  case unknownRequest t code tag body =>
      exact atInstant_then (goodRecord_unknown_changes (by simpa [Instr.wellFormed] using hc) _)
  case linkRecordDiscarded t bytes => exact atInstant_then (recordArrival_changes t bytes _)
  case linkTransmit t => exact atInstant_then (.inl (transmit_sameBut _))
  case linkRecordSent t => exact atInstant_then (.inl (recordSent_sameBut _))
  case powerOnReset t => exact atInstant_then (.inl (poweredOn_sameBut _))
  case permitChange t level => exact atInstant_then (permitTo_changes level _)
  case boundaryPulse t => exact atInstant_then (.inl (boundary_sameBut _))
  case frameArrival t bytes => exact atInstant_then (.inl (arrival_sameBut bytes _))
  case applyStatusFrame t => exact atInstant_then (applyHeadStatus_changes _)
  case applyAlert t => exact atInstant_then (applyHeadAlert_changes _)
  case applyAlertConflict t => exact atInstant_then (applyHeadConflict_changes _)
  case busTakeFrame t => exact atInstant_then (.inl (takeFrame_sameBut _))
  case statusTimerExpiry => exact statusExpiry_changes s
  case lateDeadline a => exact lateExpiry_changes a s
  case lostDeadline a => exact lostExpiry_changes a s
  case lostHoldExpiry a => exact holdExpiry_changes a s
  case freeRunDeadline => exact .inl (freeRunStart_sameBut s)
  case freeRunAdvance => exact .inl (freeRunOn_sameBut s)
  case controlPeriodExpiry => exact controlExpiry_changes s
  case joinTimerExpiry => exact .inl (joinExpiry_sameBut s)
  case startTimerExpiry => exact .inl (startExpiry_sameBut s)
  case standbyTimerExpiry => exact .inl (standbyExpires_sameBut s)
  case blankingTimerExpiry m => exact .inl (blankingExpiry_sameBut m s)
  case staleTimerExpiry => exact staleTimerExpires_changes s
  case frameTransmissionEnd t => exact atInstant_then (.inl (endTransmission_sameBut _))
  all_goals exact (request_changes _ _ _ s).mono (handleParts_mayChange rfl)

/-- Settles O2: the queue and the instant command by command, and the frame of every command. -/
theorem eachCommandChangesOnlyItsParts : Obligations.EachCommandChangesOnlyItsParts := by
  refine ⟨fun c s => ⟨_, exec_eq c s, outcome_onward c s⟩, fun c s u p hc hu hp hend => ?_⟩
  obtain rfl : outcome c s = u := by simpa [exec_eq] using hu
  exact (outcome_changes c hc s).same hp hend

end Sys2Proof.Machine
end

section
/-! PROOFS. How an invariant of the station is shown: a law that depends on few parts is kept by every event whose frame misses them, and what is left to
show is one small goal for each event that touches them. A law may be weakened while an event works and restored by its read of U (R50). -/

namespace Sys2Proof.Machine

/-! ## A law and its parts -/

/-- The law depends on these parts alone. -/
def Only (ds : List Part) (P : State → Prop) : Prop := ∀ s u, (∀ p ∈ ds, p.same s u) → P s → P u

/-- A change that misses the law's parts keeps it. -/
theorem Only.keeps {ds ps : List Part} {P : State → Prop} (hP : Only ds P) {s u : State} (h : SameBut ps s u)
    (hd : ∀ p ∈ ds, p ∉ ps) (hs : P s) : P u :=
  hP s u (fun p hp => h p (hd p hp)) hs

theorem Only.mono {ds es : List Part} {P : State → Prop} (hP : Only ds P) (hsub : ds ⊆ es) : Only es P :=
  fun s u h => hP s u fun p hp => h p (hsub hp)

theorem Only.and {ds : List Part} {P Q : State → Prop} (hP : Only ds P) (hQ : Only ds Q) : Only ds fun s => P s ∧ Q s :=
  fun s u h hs => ⟨hP s u h hs.1, hQ s u h hs.2⟩

theorem keptByStep_and {P Q : State → Prop} (hP : KeptByStep P) (hQ : KeptByStep Q) : KeptByStep fun s => P s ∧ Q s :=
  fun s u h hu => ⟨hP s u h.1 hu, hQ s u h.2 hu⟩

/-! ## The frames of the handlers of the book and of the account -/

theorem handleInsert_sameBut (l : ListName) (first count : Nat) (amount : Int) (s : State) :
    SameBut [.noms, .orders, .orderMark] s (handleInsert l first count amount s).state := by
  cases l
  · exact (handleInsert_noms_sameBut _ _ _ s).mono (by decide)
  · exact (handleInsert_orders_sameBut _ _ _ s).mono (by decide)

theorem handleQueryState_sameBut (s : State) : SameBut [.reports, .free] s (handleQueryState s).state := fun p hp => by
  cases p <;> simp_all [Part.same, handleQueryState]

theorem handleReleaseLog_sameBut (k : Nat) (s : State) : SameBut [.log] s (handleReleaseLog k s).state := fun p hp => by
  cases p <;> simp_all [Part.same, handleReleaseLog]

/-- The items of the configuration store and nothing else. -/
theorem setItems_sameBut (i : Items) (s : State) : SameBut [.items] s { s with items := i } := fun p hp => by
  cases p <;> simp_all [Part.same]

/-- A change whose leave may have ended, over its parts and those of the end. -/
theorem Changes.sameBut {ps : List Part} {s u : State} (h : Changes ps s u) : SameBut (ps ++ leaveEndParts) s u := by
  obtain h | ⟨-, -, h⟩ := h
  · exact h.mono fun _ hp => List.mem_append_left _ hp
  · exact h

theorem permitDown_sameBut (s : State) :
    SameBut (.permit :: fallParts ++ leaveEndParts) s (permitRemoved { s with permit := false }) :=
  (setPermit_sameBut false s).comp (permitRemoved_changes _).sameBut (by decide)

/-! ## The goals of a law -/

/-- The frame misses the parts, or the goal is shown. -/
def MissedOr (ds ps : List Part) (goal : Prop) : Prop := (∀ p ∈ ds, p ∉ ps) ∨ goal

theorem Only.keepsOr {ds ps : List Part} {P : State → Prop} (hP : Only ds P) {s u : State} (h : SameBut ps s u)
    (hgoal : MissedOr ds ps (P s → P u)) (hs : P s) : P u :=
  hgoal.elim (fun hd => hP.keeps h hd hs) fun hkeeps => hkeeps hs

/-- What is to be shown of a law `P` on the parts `ds`, with the weaker law `W` on the parts `ws` that holds between the work of an event
and its read of U. Every goal but the read of U is closed by the
frame of its event where that misses the parts. -/
structure KeptByEvents (ds ws : List Part) (P W : State → Prop) : Prop where
  only : Only ds P
  onlyWeak : Only ws W
  weaken : ∀ s, P s → W s
  read : ∀ s, W s → P (readUpper s)
  setItem : ∀ (s : State) (item monitor : Nat) (v : Int) (items : Items) (clamped : Bool),
    setItemValue s.items item monitor v = .taken items clamped → MissedOr ds [.items] (P s → P { s with items := items }) := by
      exact fun _ _ _ _ _ _ _ => .inl (by decide)
  sealing : ∀ s : State, s.seq.state = .offline → MissedOr ds sealParts (P s → P (acceptSeal s)) := by
      exact fun _ _ => .inl (by decide)
  record : ∀ (form : MeasureForm) (s : State), s.isSealed = true → formFits form s = true →
    MissedOr ws recordParts (P s → W (recordWork (Measurement.ofForm form) s)) := by exact fun _ _ _ _ => .inl (by decide)
  setTime : ∀ (s : State) (c : Clock), s.isStore = false → MissedOr ds [.clock] (P s → P { s with clock := c }) := by
      exact fun _ _ _ => .inl (by decide)
  insert : ∀ (l : ListName) (first count : Nat) (amount : Int) (s : State),
    MissedOr ds [.noms, .orders, .orderMark] (P s → P (handleInsert l first count amount s).state) := by
      exact fun _ _ _ _ _ => .inl (by decide)
  cancel : ∀ (list : Byte) (first count : Nat) (s : State),
    MissedOr ds [.noms, .orders, .orderMark] (P s → P (handleCancel list first count s).state) := by
      exact fun _ _ _ _ => .inl (by decide)
  clear : ∀ s : State, s.isSealed = true → ¬ (s.seq.state = .tripped ∧ latchedPresent s = true) →
    MissedOr ws clearParts (P s → W (clearWork s)) := by exact fun _ _ _ => .inl (by decide)
  leaveNow : ∀ s : State, MissedOr ds leaveEndParts (P s → P (leaveAtOnce s)) := by exact fun _ => .inl (by decide)
  leaveRunning : ∀ s : State, s.seq.state = .running → s.share.command ≠ 0 →
    MissedOr ds [.standbyTimer, .state, .reports, .available] (P s → P (startLeaving s)) := by exact fun _ _ _ => .inl (by decide)
  leaveStore : ∀ s : State, s.seq.state = .active →
    MissedOr ds [.leaveCount, .state, .reports, .available, .published] (P s → P (startStoreLeaving s)) := by
      exact fun _ _ => .inl (by decide)
  restart : ∀ s : State, s.link.owed = none → MissedOr ds restartParts (P s → P (restarted s)) := by
      exact fun _ _ => .inl (by decide)
  queryState : ∀ s : State, MissedOr ds [.reports, .free] (P s → P (handleQueryState s).state) := by
      exact fun _ => .inl (by decide)
  releaseLog : ∀ (k : Nat) (s : State), MissedOr ds [.log] (P s → P (handleReleaseLog k s).state) := by
      exact fun _ _ => .inl (by decide)
  fault : ∀ s : State, MissedOr ds [.faults] (P s → P (countFault s)) := by exact fun _ => .inl (by decide)
  resent : ∀ s : State, s.link.owed = none → MissedOr ds [.exchange] (P s → P (resend s)) := by exact fun _ _ => .inl (by decide)
  reply : ∀ (code tag : Byte) (body : List Byte) (h : Handled),
    MissedOr ds [.exchange] (P h.state → P (oweReply code tag body h)) := by exact fun _ _ _ _ => .inl (by decide)
  transmitted : ∀ s : State, MissedOr ds [.sending, .setpoint, .reports] (P s → P (transmit s)) := by exact fun _ => .inl (by decide)
  sent : ∀ s : State, MissedOr ds [.sending, .exchange] (P s → P (recordSent s)) := by exact fun _ => .inl (by decide)
  powerOn : ∀ s : State, MissedOr ds resetParts (P s → P (poweredOn s)) := by exact fun _ => .inl (by decide)
  permitUp : ∀ s : State, MissedOr ds [.permit, .available] (P s → P (evalAvailable { s with permit := true })) := by
      exact fun _ => .inl (by decide)
  permitDown : ∀ s : State,
    MissedOr ds (.permit :: fallParts ++ leaveEndParts) (P s → P (permitRemoved { s with permit := false })) := by
      exact fun _ => .inl (by decide)
  pulse : ∀ s : State, MissedOr ds changeParts (P s → P (boundary s)) := by exact fun _ => .inl (by decide)
  advanced : ∀ (i : Nat) (s : State), s.isStore = false → MissedOr ds changeParts (P s → P (advance i s)) := by
      exact fun _ _ _ => .inl (by decide)
  arrived : ∀ (bytes : List Byte) (s : State), MissedOr ds arrivalParts (P s → P (arrival bytes s)) := by
      exact fun _ _ => .inl (by decide)
  head : ∀ s : State, MissedOr ds [.receiveQueue] (P s → P (removeHead s)) := by exact fun _ => .inl (by decide)
  statusFrame : ∀ (f : StatusFrame) (tag : Relation) (arr : Nat) (rest : List RxFrame) (s : State),
    s.bus.rx = ⟨.status f, tag, arr⟩ :: rest →
    MissedOr ws (.receiveQueue :: statusFrameParts) (P s → W (statusFrameWork f tag arr (removeHead s))) := by
      exact fun _ _ _ _ _ _ => .inl (by decide)
  alerted : ∀ (a : Alert) (s : State), MissedOr ws [.view] (P s → W { s with view := updateEntry s.view a.address fun e =>
      { e with state := alertedState a.reason, fields := e.fields.alerted } }) := by exact fun _ _ => .inl (by decide)
  lost : ∀ (e : Entry) (s : State), MissedOr ws [.view, .reports] (P s → W (loseWork e s)) := by exact fun _ _ => .inl (by decide)
  taken : ∀ s : State, MissedOr ds [.onBus, .pendingAlert, .pendingStatus] (P s → P (takeFrame s)) := by
      exact fun _ => .inl (by decide)
  statusTimed : ∀ (d : Nat) (s : State), s.bus.statusTimer.isSome = true →
    MissedOr ds [.statusTimer] (P s → P { s with bus := { s.bus with statusTimer := some d } }) := by
      exact fun _ _ _ => .inl (by decide)
  statusDue : ∀ s : State, s.bus.statusTimer.isSome = true →
    MissedOr ds ([.pendingStatus, .available, .lastU, .leaveCount] ++ leaveEndParts) (P s → P (statusWork s)) := by
      exact fun _ _ => .inl (by decide)
  late : ∀ (a : Nat) (e : Entry) (s : State), findEntry s.view a = some e → e.status = .present →
    MissedOr ws [.view] (P s → W { s with view := updateEntry s.view a fun x => { x with status := .late } }) := by
      exact fun _ _ _ _ _ => .inl (by decide)
  freed : ∀ (a : Nat) (s : State), MissedOr ws [.view, .reports, .energies, .peerPoints] (P s → W (freeWork a s)) := by
      exact fun _ _ => .inl (by decide)
  controlTimed : ∀ (d : Nat) (s : State), s.share.timer.isSome = true →
    MissedOr ds [.shareTimer] (P s → P { s with share := { s.share with timer := some d } }) := by
      exact fun _ _ _ => .inl (by decide)
  control : ∀ (k : Kind) (s : State), s.share.timer.isSome = true → s.inForce.kind = some k → s.isTrain = true →
    MissedOr ds (controlParts ++ leaveEndParts) (P s → P (expiryStages k s)) := by exact fun _ _ _ _ _ => .inl (by decide)
  window : ∀ s : State, s.seq.state = .joining → MissedOr ds tripParts (P s → P (endWindow s)) := by
      exact fun _ _ => .inl (by decide)
  started : ∀ s : State, s.seq.state = .starting →
    MissedOr ds [.state, .startTimer, .standbyTimer, .blanking, .available, .reports] (P s → P (enterRunning s)) := by
      exact fun _ _ => .inl (by decide)
  stoodBy : ∀ s : State, s.seq.state = .running → MissedOr ds fallParts (P s → P (enterStandby .standbyTimer s)) := by
      exact fun _ _ => .inl (by decide)
  blanked : ∀ (m : Monitor) (s : State), MissedOr ds [.blanking] (P s → P (blankingExpiry m s)) := by
      exact fun _ _ => .inl (by decide)
  stale : ∀ s : State, s.link.staleTimer.isSome = true → MissedOr ws staleParts (P s → W (staleWork s)) := by
      exact fun _ _ => .inl (by decide)
  ended : ∀ s : State, MissedOr ds [.onBus] (P s → P (endTransmission s)) := by exact fun _ => .inl (by decide)

section
variable {ds ws : List Part} {P W : State → Prop} (h : KeptByEvents ds ws P W)
include h

theorem KeptByEvents.weakOr {ps : List Part} {s u : State} (hf : SameBut ps s u) (hgoal : MissedOr ws ps (P s → W u)) (hs : P s) : W u :=
  hgoal.elim (fun hd => h.onlyWeak.keeps hf hd (h.weaken s hs)) fun hkeeps => hkeeps hs

/-! ## From the goals to the step -/

theorem KeptByEvents.atInstant (t : Nat) {s : State} (hs : P s) : P (s.atInstant t) :=
  h.only.keeps (atInstant_sameBut t s) (by simp) hs

/-- What a handler does keeps the law. -/
theorem KeptByEvents.handled (r : Request) {s : State} (howed : s.link.owed = none) (hs : P s) : P (handle r s).state := by
  match r with
  | .setItem item monitor value =>
    simp only [handle, handleSetItem]
    split
    · exact hs
    · next items clamped htaken =>
      split
      · exact hs
      · exact h.only.keepsOr (setItems_sameBut items s) (h.setItem s _ _ _ items clamped htaken) hs
  | .seal =>
    simp only [handle, handleSeal]
    repeat' split
    · exact hs
    · exact hs
    · exact hs
    · next hsealed _ _ => exact h.only.keepsOr (acceptSeal_sameBut s) (h.sealing s (by simpa [State.isSealed] using hsealed)) hs
  | .measure form =>
    simp only [handle, handleMeasure]
    repeat' split
    · exact hs
    · exact hs
    · exact hs
    · next hsealed hfits =>
      rw [takeRecord_eq]
      exact h.read _ (h.weakOr (recordWork_sameBut _ s) (h.record form s (by simpa using hsealed) (by simpa using hfits)) hs)
  | .setTime n =>
    simp only [handle, handleSetTime]
    repeat' split
    · exact hs
    · exact hs
    · next hstore => exact h.only.keepsOr (setClock_sameBut _ s) (h.setTime s _ (by simpa using hstore)) hs
  | .nominate first count power => exact h.only.keepsOr (handleInsert_sameBut _ _ _ _ s) (h.insert _ _ _ _ s) hs
  | .order first count delta => exact h.only.keepsOr (handleInsert_sameBut _ _ _ _ s) (h.insert _ _ _ _ s) hs
  | .cancel list first count => exact h.only.keepsOr (handleCancel_sameBut _ _ _ s) (h.cancel _ _ _ s) hs
  | .clear =>
    simp only [handle, handleClear]
    repeat' split
    · exact hs
    · exact hs
    · next hsealed hpresent =>
      rw [acceptClear_eq]
      exact h.read _ (h.weakOr (clearWork_sameBut s) (h.clear s (by simpa using hsealed) hpresent) hs)
  | .leave =>
    simp only [handle, handleLeave]
    split
    · exact hs
    · exact hs
    · exact h.only.keepsOr (leaveAtOnce_sameBut s) (h.leaveNow s) hs
    · exact h.only.keepsOr (leaveAtOnce_sameBut s) (h.leaveNow s) hs
    · next hrunning =>
      split
      · exact h.only.keepsOr (leaveAtOnce_sameBut s) (h.leaveNow s) hs
      · next hcommand => exact h.only.keepsOr (startLeaving_sameBut s) (h.leaveRunning s hrunning hcommand) hs
    · exact hs
    · next hactive => exact h.only.keepsOr (startStoreLeaving_sameBut s) (h.leaveStore s hactive) hs
    · exact hs
    · exact hs
  | .restart => exact h.only.keepsOr (restarted_sameBut s) (h.restart s howed) hs
  | .queryState => exact h.only.keepsOr (handleQueryState_sameBut s) (h.queryState s) hs
  | .queryPeer a => exact hs
  | .queryBook list index =>
    simp only [handle, handleQueryBook]
    split <;> exact hs
  | .readLog => exact hs
  | .releaseLog k => exact h.only.keepsOr (handleReleaseLog_sameBut _ s) (h.releaseLog _ s) hs

theorem KeptByEvents.exchanged {code tag : Byte} {body : List Byte} {act : State → Handled} {s : State}
    (hact : s.link.owed = none → P (act s).state) (hs : P s) : P (exchange code tag body act s) := by
  unfold exchange
  split
  · exact h.only.keepsOr (countFault_sameBut s) (h.fault s) hs
  · next howed =>
    split
    · exact h.only.keepsOr (resend_sameBut s) (h.resent s (by simpa using howed)) hs
    · exact h.only.keepsOr (oweReply_sameBut _ _ _ _) (h.reply _ _ _ _) (hact (by simpa using howed))

theorem KeptByEvents.requested (t : Nat) (tag : Byte) (r : Request) {s : State} (hs : P s) : P (request t tag r s) :=
  have ht := h.atInstant t hs
  h.exchanged (fun howed => h.handled r howed ht) ht

theorem KeptByEvents.goodRecord (code tag : Byte) (body : List Byte) {s : State} (hs : P s) : P (goodRecord code tag body s) := by
  unfold Machine.goodRecord
  split
  · exact h.exchanged (fun howed => h.handled _ howed hs) hs
  · exact h.exchanged (fun _ => hs) hs

theorem KeptByEvents.recordArrival (bytes : List Byte) {s : State} (hs : P s) : P (recordArrival bytes s) := by
  unfold Machine.recordArrival
  repeat' split
  · exact h.only.keepsOr (countFault_sameBut s) (h.fault s) hs
  · exact h.goodRecord _ _ _ hs
  · exact h.only.keepsOr (countFault_sameBut s) (h.fault s) hs

theorem KeptByEvents.repeatKept {s : State} (hs : P s) : P (repeatKept s) := by
  unfold Machine.repeatKept
  split
  · exact h.exchanged (fun _ => hs) hs
  · exact hs

theorem KeptByEvents.permitTo (level : Bool) {s : State} (hs : P s) : P (permitTo level s) := by
  unfold Machine.permitTo
  repeat' split
  · exact hs
  · exact h.only.keepsOr ((setPermit_sameBut true s).comp (evalAvailable_sameBut _) (List.Subset.refl _)) (h.permitUp s) hs
  · exact h.only.keepsOr (permitDown_sameBut s) (h.permitDown s) hs

theorem KeptByEvents.freeRunStart {s : State} (hs : P s) : P (freeRunStart s) := by
  unfold Machine.freeRunStart
  repeat' split
  · exact hs
  · next i d _ _ hfree =>
    have hstore : s.clock.free = false ∧ s.isStore = false := by simpa using hfree
    exact h.only.keepsOr (advance_sameBut i _) (h.advanced i _ hstore.2) (h.atInstant d hs)
  · exact hs

theorem KeptByEvents.freeRunOn {s : State} (hs : P s) : P (freeRunOn s) := by
  unfold Machine.freeRunOn
  repeat' split
  · next i d _ _ hfree =>
    have hstore : s.clock.free = true ∧ s.isStore = false := by simpa using hfree
    exact h.only.keepsOr (advance_sameBut i _) (h.advanced i _ hstore.2) (h.atInstant d hs)
  · exact hs
  · exact hs

theorem KeptByEvents.headed {s : State} (hs : P s) : P (removeHead s) := h.only.keepsOr (removeHead_sameBut s) (h.head s) hs

theorem KeptByEvents.applyHeadStatus {s : State} (hs : P s) : P (applyHeadStatus s) := by
  unfold Machine.applyHeadStatus
  split
  · next f tag arr rest hrx =>
    have hframe := (removeHead_sameBut s).comp (statusFrameWork_sameBut f tag arr _) (List.Subset.refl _)
    exact h.read _ (h.weakOr hframe (h.statusFrame f tag arr rest s hrx) hs)
  · exact hs

theorem KeptByEvents.applyHeadAlert {s : State} (hs : P s) : P (applyHeadAlert s) := by
  unfold Machine.applyHeadAlert applyAlert
  repeat' split
  · exact hs
  · exact h.headed hs
  · exact h.read _ (h.weakOr (setView_sameBut _ _) (h.alerted _ _) (h.headed hs))
  · exact hs

theorem KeptByEvents.applyHeadConflict {s : State} (hs : P s) : P (applyHeadConflict s) := by
  unfold Machine.applyHeadConflict applyConflict
  repeat' split
  · exact h.headed hs
  · exact h.read _ (h.weakOr (loseWork_sameBut _ _) (h.lost _ _) (h.headed hs))
  · exact hs
  · exact hs

theorem KeptByEvents.statusExpiry {s : State} (hs : P s) : P (statusExpiry s) := by
  unfold Machine.statusExpiry
  split
  · exact hs
  · next d htimer =>
    have htimed := h.only.keepsOr (setStatusTimer_sameBut (some (d + s.inForce.p)) (s.atInstant d)) (h.statusTimed _ _ (by simp [htimer]))
      (h.atInstant d hs)
    exact h.only.keepsOr (statusWork_changes _).sameBut (h.statusDue _ rfl) htimed

theorem KeptByEvents.lateExpiry (a : Nat) {s : State} (hs : P s) : P (lateExpiry a s) := by
  unfold Machine.lateExpiry
  repeat' split
  · exact hs
  · next e hfind hpresent =>
    exact h.read _ (h.weakOr (setView_sameBut _ _) (h.late a e (s.atInstant e.lateDue) hfind hpresent) (h.atInstant _ hs))
  · exact hs

theorem KeptByEvents.lostExpiry (a : Nat) {s : State} (hs : P s) : P (lostExpiry a s) := by
  unfold Machine.lostExpiry
  repeat' split
  · exact hs
  · exact hs
  · exact h.read _ (h.weakOr (loseWork_sameBut _ _) (h.lost _ _) (h.atInstant _ hs))

theorem KeptByEvents.holdExpiry (a : Nat) {s : State} (hs : P s) : P (holdExpiry a s) := by
  unfold Machine.holdExpiry
  repeat' split
  · exact hs
  · exact h.read _ (h.weakOr (freeWork_sameBut a _) (h.freed a _) (h.atInstant _ hs))
  · exact hs

theorem KeptByEvents.controlExpiry {s : State} (hs : P s) : P (controlExpiry s) := by
  unfold Machine.controlExpiry
  repeat' split
  · next d k htimer hkind htrain =>
    have htimed := h.only.keepsOr (setShareTimer_sameBut (some (d + s.inForce.p)) (s.atInstant d)) (h.controlTimed _ _ (by simp [htimer]))
      (h.atInstant d hs)
    exact h.only.keepsOr (expiryStages_changes k _).sameBut (h.control k _ rfl hkind htrain) htimed
  · exact hs
  · exact hs

theorem KeptByEvents.joinExpiry {s : State} (hs : P s) : P (joinExpiry s) := by
  unfold Machine.joinExpiry
  repeat' split
  · exact hs
  · next hstate => exact h.only.keepsOr (endWindow_sameBut _) (h.window _ hstate) (h.atInstant _ hs)
  · exact hs

theorem KeptByEvents.startExpiry {s : State} (hs : P s) : P (startExpiry s) := by
  unfold Machine.startExpiry
  repeat' split
  · exact hs
  · next hstate => exact h.only.keepsOr (enterRunning_sameBut _) (h.started _ hstate) (h.atInstant _ hs)
  · exact hs

theorem KeptByEvents.standbyExpires {s : State} (hs : P s) : P (standbyExpires s) := by
  unfold Machine.standbyExpires
  repeat' split
  · exact hs
  · next hstate => exact h.only.keepsOr (enterStandby_sameBut _ _) (h.stoodBy _ hstate) (h.atInstant _ hs)
  · exact hs

theorem KeptByEvents.staleTimerExpires {s : State} (hs : P s) : P (staleTimerExpires s) := by
  unfold Machine.staleTimerExpires
  split
  · exact hs
  · next d htimer => exact h.read _ (h.weakOr (staleWork_sameBut _) (h.stale (s.atInstant d) (by simp [htimer])) (h.atInstant d hs))

/-- The law holds of the outcome of every command. -/
theorem KeptByEvents.outcome (c : Instr) {s : State} (hs : P s) : P (outcome c s) := by
  cases c
  case repeatRequest t => exact h.repeatKept (h.atInstant t hs)
  case unknownRequest t code tag body => exact h.goodRecord code tag body (h.atInstant t hs)
  case linkRecordDiscarded t bytes => exact h.recordArrival bytes (h.atInstant t hs)
  case linkTransmit t => exact h.only.keepsOr (transmit_sameBut _) (h.transmitted _) (h.atInstant t hs)
  case linkRecordSent t => exact h.only.keepsOr (recordSent_sameBut _) (h.sent _) (h.atInstant t hs)
  case powerOnReset t => exact h.only.keepsOr (poweredOn_sameBut _) (h.powerOn _) (h.atInstant t hs)
  case permitChange t level => exact h.permitTo level (h.atInstant t hs)
  case boundaryPulse t => exact h.only.keepsOr (boundary_sameBut _) (h.pulse _) (h.atInstant t hs)
  case frameArrival t bytes => exact h.only.keepsOr (arrival_sameBut bytes _) (h.arrived bytes _) (h.atInstant t hs)
  case applyStatusFrame t => exact h.applyHeadStatus (h.atInstant t hs)
  case applyAlert t => exact h.applyHeadAlert (h.atInstant t hs)
  case applyAlertConflict t => exact h.applyHeadConflict (h.atInstant t hs)
  case busTakeFrame t => exact h.only.keepsOr (takeFrame_sameBut _) (h.taken _) (h.atInstant t hs)
  case statusTimerExpiry => exact h.statusExpiry hs
  case lateDeadline a => exact h.lateExpiry a hs
  case lostDeadline a => exact h.lostExpiry a hs
  case lostHoldExpiry a => exact h.holdExpiry a hs
  case freeRunDeadline => exact h.freeRunStart hs
  case freeRunAdvance => exact h.freeRunOn hs
  case controlPeriodExpiry => exact h.controlExpiry hs
  case joinTimerExpiry => exact h.joinExpiry hs
  case startTimerExpiry => exact h.startExpiry hs
  case standbyTimerExpiry => exact h.standbyExpires hs
  case blankingTimerExpiry m => exact h.only.keepsOr (blankingExpiry_sameBut m s) (h.blanked m s) hs
  case staleTimerExpiry => exact h.staleTimerExpires hs
  case frameTransmissionEnd t => exact h.only.keepsOr (endTransmission_sameBut _) (h.ended _) (h.atInstant t hs)
  all_goals exact h.requested _ _ _ hs

/-- A law with its goals shown is kept by every step. -/
theorem KeptByEvents.keptByStep : KeptByStep P := by
  intro s u hs hu
  unfold step at hu
  split at hu
  · cases hu; exact hs
  · next c rest _ =>
    rw [exec_eq] at hu
    cases hu
    refine h.outcome c (h.only.keeps (ps := []) (u := { s with pending := rest }) (fun p _ => ?_) (by simp) hs)
    cases p <;> simp [Part.same]

end

end Sys2Proof.Machine
end

section
/-! PROOFS. What the changes of state leave behind: the entries to STANDBY, ACTIVE, TRIPPED and CONFLICT, the end of a leave, the start of a station
(R19, R47, R105 to R117, R126). -/

namespace Sys2Proof.Machine

/-! ## A fall out of service -/

/-- The station as every fall out of service leaves it before it enters its new state (R47, R114, R126). -/
def fallen (s : State) : State := unloadIfLoaded s.seq.state (dropCommand (stopSequence s))

@[simp] theorem fallen_seq (s : State) : (fallen s).seq =
    { s.seq with joinTimer := none, startTimer := none, standbyTimer := none, tripHeld := false, leaveCount := 0, tripOut := false } := by
  simp [fallen, dropCommand, stopSequence]

@[simp] theorem fallen_share (s : State) : (fallen s).share = { s.share with command := 0, wake := 0 } := by
  simp [fallen, dropCommand, stopSequence]

@[simp] theorem unloadBank_monitor (s : State) (m : Monitor) : (unloadBank s).bank.monitor m =
    if m = .thermal ∨ m = .margin then unloadMonitor (s.bank.monitor m) else s.bank.monitor m := by
  cases m <;> simp [unloadBank, Bank.monitor]

theorem fallen_monitor (s : State) (m : Monitor) : (fallen s).bank.monitor m =
    if s.seq.state.loaded = true ∧ (m = .thermal ∨ m = .margin) then unloadMonitor (s.bank.monitor m) else s.bank.monitor m := by
  unfold fallen unloadIfLoaded
  by_cases hl : s.seq.state.loaded = true
  · simp [hl, dropCommand, stopSequence]
  · simp [hl, dropCommand, stopSequence]

theorem fallen_blanking (s : State) : (fallen s).bank.blankThermal = (if s.seq.state.loaded then none else s.bank.blankThermal)
    ∧ (fallen s).bank.blankMargin = (if s.seq.state.loaded then none else s.bank.blankMargin) := by
  unfold fallen unloadIfLoaded
  by_cases hl : s.seq.state.loaded = true
  · simp [hl, unloadBank]
  · simp [hl, dropCommand, stopSequence]

/-- A latched monitor stays latched out of RUNNING and LEAVING, and no other becomes so (R127, R133). -/
theorem unloadMonitor_latched (m : MonState) : (unloadMonitor m).cond = .latched ↔ m.cond = .latched := by
  unfold unloadMonitor
  split
  · next h => simp [h]
  · next h => exact iff_of_false (by simp) h

theorem fallen_latched (s : State) (m : Monitor) :
    ((fallen s).bank.monitor m).cond = .latched ↔ (s.bank.monitor m).cond = .latched := by
  rw [fallen_monitor]
  split
  · exact unloadMonitor_latched _
  · exact Iff.rfl

/-- The parts that an entry to STANDBY changes beside the fall. -/
theorem enterStandby_ofFallen (cause : Cause) (s : State) :
    SameBut [.state, .reports, .available, .setpoint, .cooled, .lastU] (fallen s) (enterStandby cause s) := by
  refine SameBut.trans ((enterState_sameBut .standby cause _).mono (by decide)) ?_
  refine SameBut.trans ((evalAvailable_sameBut _).mono (by decide)) ?_
  refine SameBut.trans ((setpointIfFell_sameBut s.share.command _).mono (by decide)) ?_
  exact (readIfCapChanged_sameBut _ (by simp [enterState, StationState.loaded])).mono (by decide)

/-- The parts that a trip changes beside the fall. -/
theorem trip_ofFallen (ms : List Monitor) (s : State) :
    SameBut [.state, .tripOut, .available, .published, .openRecord, .setpoint, .pendingAlert, .pendingStatus, .lastU, .reports]
      (fallen s) (trip ms s) := by
  refine SameBut.trans ((setTripOut_sameBut .tripped _).mono (by decide)) ?_
  refine SameBut.trans ((evalAvailable_sameBut _).comp (formPublished_sameBut _) (by decide)) ?_
  refine SameBut.trans ((noteCut_sameBut .trip (cutReport s) _).comp (noteTripped_sameBut _) (by decide)) ?_
  refine SameBut.trans ((setpointIfFell_sameBut s.share.command _).comp (askAlert_sameBut .trip (cutReport s) _) (by decide)) ?_
  exact (produce_sameBut _ _).comp (produce_sameBut _ _) (by decide)

/-- The parts that a conflict changes beside the fall. -/
theorem addressConflict_ofFallen (s : State) :
    SameBut [.state, .tripOut, .available, .published, .openRecord, .setpoint, .pendingAlert, .statusTimer, .pendingStatus, .lastU,
      .cooled, .reports] (fallen s) (addressConflict s) := by
  refine SameBut.trans ((setTripOut_sameBut .conflict _).mono (by decide)) ?_
  refine SameBut.trans ((evalAvailable_sameBut _).comp (formPublished_sameBut _) (by decide)) ?_
  refine SameBut.trans ((noteTripped_sameBut _).mono (by decide)) ?_
  refine SameBut.trans ((conflictBus_sameBut ⟨s.inForce.address, .conflict, {}⟩ _).mono (by decide)) ?_
  refine SameBut.trans ((setpointIfFell_sameBut s.share.command _).mono (by decide)) ?_
  refine SameBut.trans ((produce_sameBut .addressConflict _).comp
    (produce_sameBut (.stateChange s.seq.state .conflict .conflict) _) (by decide)) ?_
  exact (readIfCapChanged_sameBut _ (by simp [StationState.loaded])).mono (by decide)

/-- The parts that an entry to ACTIVE changes beside the timers that it stops. -/
theorem enterActive_ofStopped (cause : Cause) (s : State) :
    SameBut [.state, .reports, .available, .published] (stopSequence s) (enterActive cause s) := by
  refine SameBut.trans ((enterState_sameBut .active cause _).mono (by decide)) ?_
  exact (evalAvailable_sameBut _).comp (formPublished_sameBut _) (by decide)

@[simp] theorem readIfCapChanged_tripOut (cap : Nat) {s : State} (h : s.seq.state.loaded = false) :
    (readIfCapChanged cap s).seq.tripOut = s.seq.tripOut := readIfCapChanged_sameBut cap h .tripOut (by decide)

@[simp] theorem readIfCapChanged_statusTimer (cap : Nat) {s : State} (h : s.seq.state.loaded = false) :
    (readIfCapChanged cap s).bus.statusTimer = s.bus.statusTimer := readIfCapChanged_sameBut cap h .statusTimer (by decide)

@[simp] theorem enterStandby_tripOut (cause : Cause) (s : State) : (enterStandby cause s).seq.tripOut = false :=
  (enterStandby_ofFallen cause s .tripOut (by decide)).trans (by simp)

@[simp] theorem enterActive_tripOut (cause : Cause) (s : State) : (enterActive cause s).seq.tripOut = false :=
  enterActive_ofStopped cause s .tripOut (by decide)

@[simp] theorem trip_tripOut (ms : List Monitor) (s : State) : (trip ms s).seq.tripOut = true := by
  simp [trip]

@[simp] theorem addressConflict_tripOut (s : State) : (addressConflict s).seq.tripOut = true := by
  unfold addressConflict
  dsimp only
  rw [readIfCapChanged_tripOut] <;> simp [StationState.loaded]

@[simp] theorem addressConflict_statusTimer (s : State) : (addressConflict s).bus.statusTimer = none := by
  unfold addressConflict
  dsimp only
  rw [readIfCapChanged_statusTimer] <;> simp [StationState.loaded]

/-! ## The end of a leave, the resets, the start of a station, the end of a start -/

@[simp] theorem endLeave_seq (s : State) : (endLeave s).seq = {} := rfl

@[simp] theorem endLeave_view (s : State) : (endLeave s).view = [] := rfl

@[simp] theorem endLeave_rx (s : State) : (endLeave s).bus.rx = [] := rfl

@[simp] theorem endLeave_statusTimer (s : State) : (endLeave s).bus.statusTimer = none := rfl

@[simp] theorem endLeave_shareTimer (s : State) : (endLeave s).share.timer = none := rfl

@[simp] theorem endLeave_bank (s : State) : (endLeave s).bank = Bank.cleared s.capAtRated := rfl

@[simp] theorem endLeave_staleTimer (s : State) : (endLeave s).link.staleTimer = none ∧ (endLeave s).link.staleMark = false := ⟨rfl, rfl⟩

@[simp] theorem endLeave_cooled (s : State) : (endLeave s).heat.cooled = false := rfl

@[simp] theorem restarted_seq (s : State) : (restarted s).seq = {} := rfl

@[simp] theorem poweredOn_seq (s : State) : (poweredOn s).seq = {} := rfl

/-- The sequencer at an accepted SEAL (R105). -/
theorem acceptSeal_seq (s : State) : (acceptSeal s).seq =
    { state := .joining, joinTimer := some (s.now + (s.items.silence + 2) * (deriveInForce s.items).p) } := by
  have hbuild (v : State) (h : v.seq.state = .joining) (ha : v.seq.available = false) : (buildStatus v).seq = v.seq := by
    have hnow : availableNow { v with share := { v.share with lastU := upperLimit v } } = false := by
      simp [availableNow, h, StationState.mayBeAvailable]
    unfold buildStatus readUAtBuild
    split
    · rw [readU, evalAvailable, hnow, ← ha]
    · rfl
  unfold acceptSeal
  dsimp only
  split <;> rw [hbuild] <;> simp [sealStore, sealTrain, enterState, startStation, stopSequence, deriveInForce]

@[simp] theorem acceptSeal_state (s : State) : (acceptSeal s).seq.state = .joining := by rw [acceptSeal_seq]

@[simp] theorem acceptSeal_inForce (s : State) : (acceptSeal s).inForce = deriveInForce s.items := by
  unfold acceptSeal
  dsimp only
  split <;> simp [sealStore, startStation]

@[simp] theorem enterRunning_state (s : State) : (enterRunning s).seq.state = .running := rfl

@[simp] theorem startLeaving_state (s : State) : (startLeaving s).seq.state = .leaving := rfl

@[simp] theorem startStoreLeaving_state (s : State) : (startStoreLeaving s).seq.state = .leaving := by
  simp [startStoreLeaving]

@[simp] theorem leaveAtOnce_state (s : State) : (leaveAtOnce s).seq.state = .offline := by simp [leaveAtOnce]

/-! ## AVAILABLE after a change of state (R51) -/

theorem availableLaw_only : Only [.state, .available, .permit, .native, .thermal, .margin, .stale, .zoneHigh, .lastU] AvailableLaw := by
  intro s u h hs
  have hmonitor (m : Monitor) : u.bank.monitor m = s.bank.monitor m := by
    cases m
    · exact h .native (by simp)
    · exact h .thermal (by simp)
    · exact h .margin (by simp)
    · exact h .stale (by simp)
    · exact h .zoneHigh (by simp)
  have hstate : u.seq.state = s.seq.state := h .state (by simp)
  have havailable : u.seq.available = s.seq.available := h .available (by simp)
  have hpermit : u.permit = s.permit := h .permit (by simp)
  have hlast : u.share.lastU = s.share.lastU := h .lastU (by simp)
  simpa [AvailableLaw, hmonitor, hstate, havailable, hpermit, hlast] using hs

theorem readIfCapChanged_availableLaw (cap : Nat) {s : State} (hl : s.seq.state.loaded = false) (h : AvailableLaw s) :
    AvailableLaw (readIfCapChanged cap s) := by
  unfold readIfCapChanged
  split
  · exact h
  · obtain hr | hr := readUpper_idle hl <;> rw [hr]
    · exact h
    · exact readU_law _

theorem buildStatus_availableLaw {s : State} (h : AvailableLaw s) : AvailableLaw (buildStatus s) := by
  have hbus (v : State) (f : Option StatusFrame) (hv : AvailableLaw v) :
      AvailableLaw { v with bus := { v.bus with pendingStatus := f } } := hv
  unfold buildStatus readUAtBuild
  split
  · exact hbus _ _ (readU_law s)
  · exact hbus _ _ h

theorem askAlert_availableLaw (reason : AlertReason) (cut : CutReport) {s : State} (h : AvailableLaw s) :
    AvailableLaw (askAlert reason cut s) := by
  unfold askAlert
  dsimp only
  split
  · exact buildStatus_availableLaw (s := { s with bus := { s.bus with pendingAlert := some ⟨s.inForce.address, reason, cut⟩ } }) h
  · exact h

theorem enterStandby_availableLaw (cause : Cause) (s : State) : AvailableLaw (enterStandby cause s) :=
  readIfCapChanged_availableLaw _ (by simp [enterState, StationState.loaded])
    (availableLaw_only.keeps (setpointIfFell_sameBut _ _) (by decide) (evalAvailable_law _))

theorem enterActive_availableLaw (cause : Cause) (s : State) : AvailableLaw (enterActive cause s) :=
  availableLaw_only.keeps (formPublished_sameBut _) (by decide) (evalAvailable_law _)

theorem trip_availableLaw (ms : List Monitor) (s : State) : AvailableLaw (trip ms s) := by
  refine availableLaw_only.keeps (produce_sameBut _ _) (by decide) ?_
  refine availableLaw_only.keeps (produce_sameBut _ _) (by decide) ?_
  refine askAlert_availableLaw _ _ ?_
  refine availableLaw_only.keeps (setpointIfFell_sameBut _ _) (by decide) ?_
  refine availableLaw_only.keeps (noteTripped_sameBut _) (by decide) ?_
  refine availableLaw_only.keeps (noteCut_sameBut _ _ _) (by decide) ?_
  exact availableLaw_only.keeps (formPublished_sameBut _) (by decide) (evalAvailable_law _)

theorem addressConflict_availableLaw (s : State) : AvailableLaw (addressConflict s) := by
  refine readIfCapChanged_availableLaw _ (by simp [StationState.loaded]) ?_
  refine availableLaw_only.keeps (produce_sameBut _ _) (by decide) ?_
  refine availableLaw_only.keeps (produce_sameBut _ _) (by decide) ?_
  refine availableLaw_only.keeps (setpointIfFell_sameBut _ _) (by decide) ?_
  refine availableLaw_only.keeps (conflictBus_sameBut _ _) (by decide) ?_
  refine availableLaw_only.keeps (noteTripped_sameBut _) (by decide) ?_
  exact availableLaw_only.keeps (formPublished_sameBut _) (by decide) (evalAvailable_law _)

/-! ## A record and a stale expiry up to their latches -/

/-- A record as the holder, the account and the heat store unit take it (R137, R156). -/
def takeIn (r : Measurement) (s : State) : State :=
  match r with
  | .train output _ _ _ _ => accountRecord output (holdRecord r s)
  | .store zones => classifyRecord zones (holdRecord r s)

/-- The bank's judgements of a record, with the retry cut, and the monitors that latched (R123 to R131). -/
def recordJudged (r : Measurement) (s : State) : State × List Monitor :=
  (retryStage (anyActiveRetry (endStale (takeIn r s))) (judgeRecord r (endStale (takeIn r s))).1,
    (judgeRecord r (endStale (takeIn r s))).2)

theorem recordWork_eq (r : Measurement) (s : State) :
    recordWork r s = formPublished (handleLatches (recordJudged r s).2 (recordJudged r s).1) := by
  cases r <;> rfl

theorem takeIn_sameBut (r : Measurement) (s : State) :
    SameBut [.holder, .staleTimer, .ownPoint, .energies, .zones] s (takeIn r s) := by
  have hhold := holdRecord_sameBut r s
  cases r with
  | train o f p t v => exact hhold.comp (accountRecord_sameBut o _) (by decide)
  | store zones => exact hhold.comp (classifyRecord_sameBut zones _) (by decide)

/-- The parts that a record may change before its latches reach the sequencer. -/
def recordJudgedParts : List Part :=
  [.holder, .staleTimer, .ownPoint, .energies, .zones, .native, .thermal, .margin, .stale, .zoneHigh, .cap, .reports]

theorem recordJudged_ofTakeIn (r : Measurement) (s : State) :
    SameBut [.native, .thermal, .margin, .stale, .zoneHigh, .cap, .reports] (takeIn r s) (recordJudged r s).1 := by
  refine SameBut.trans ((endStale_sameBut _).mono (by decide)) ?_
  exact (judgeRecord_sameBut r _).comp (retryStage_sameBut _ _) (by decide)

theorem recordJudged_sameBut (r : Measurement) (s : State) : SameBut recordJudgedParts s (recordJudged r s).1 :=
  (takeIn_sameBut r s).comp (recordJudged_ofTakeIn r s) (by decide)

/-- The judgement of a stale expiry, with the latch (R130). -/
def staleJudged (s : State) : State × List Monitor := judgeStale (markStale s)

theorem staleWork_eq (s : State) : staleWork s = formPublished (handleLatches (staleJudged s).2 (staleJudged s).1) := rfl

theorem staleJudged_sameBut (s : State) : SameBut [.staleTimer, .stale, .heldAllowances, .cap, .reports] s (staleJudged s).1 :=
  (markStale_sameBut s).comp (judgeStale_sameBut _) (by decide)

/-! ## A law at the shared operations -/

section
variable {ds : List Part} {P : State → Prop} (hP : Only ds P)
include hP

/-- A change within a list that misses the law's parts. -/
theorem Only.keepsWithin {ps qs : List Part} {s u : State} (h : SameBut ps s u) (hd : ∀ p ∈ ds, p ∉ qs) (hsub : ps ⊆ qs) (hs : P s) :
    P u := hP.keeps (h.mono hsub) hd hs

/-- A read of U keeps a law that it does not touch, where the end of a leave does. -/
theorem Only.readUpper (hd : ∀ p ∈ ds, p ∉ readParts) {s : State} (hend : ∀ v, P v → P (sendSetpoint (endLeave v))) (hs : P s) :
    P (readUpper s) := by
  obtain hframe | ⟨-, -, v, hv, -, hr⟩ := readUpper_frame s
  · exact hP.keeps hframe hd hs
  · rw [hr]
    exact hend v (hP.keeps hv hd hs)

/-- The latches keep a law that the trip keeps. -/
theorem Only.handleLatches (hd : Part.tripHeld ∉ ds) {ms : List Monitor} {s : State}
    (htrip : ms ≠ [] → s.seq.state.inService = true → P (trip ms s)) (hs : ms = [] ∨ s.seq.state.inService = false → P s) :
    P (handleLatches ms s) := by
  unfold Machine.handleLatches
  split
  · next hms => exact hs (.inl (by simpa using hms))
  · next hms =>
    split
    · next hj =>
      exact hP.keeps (setTripHeld_sameBut s) (fun p hp hmem => hd (List.mem_singleton.mp hmem ▸ hp)) (hs (.inr (by rw [hj]; rfl)))
    · split
      · next hservice => exact htrip (by simpa using hms) hservice
      · next hservice => exact hs (.inr (by simpa using hservice))

theorem Only.recordWork (hd : ∀ p ∈ ds, p ∉ [Part.tripHeld, .published]) {r : Measurement} {s : State}
    (htrip : (recordJudged r s).2 ≠ [] → s.seq.state.inService = true → P (trip (recordJudged r s).2 (recordJudged r s).1))
    (hs : (recordJudged r s).2 = [] ∨ s.seq.state.inService = false → P (recordJudged r s).1) : P (recordWork r s) := by
  have hstate := (recordJudged_sameBut r s).state (by decide)
  rw [recordWork_eq]
  refine hP.keepsWithin (formPublished_sameBut _) hd (by decide) ?_
  exact hP.handleLatches (fun h => hd _ h (by simp)) (by rwa [hstate]) (by rwa [hstate])

theorem Only.staleWork (hd : ∀ p ∈ ds, p ∉ [Part.tripHeld, .published]) {s : State}
    (htrip : (staleJudged s).2 ≠ [] → s.seq.state.inService = true → P (trip (staleJudged s).2 (staleJudged s).1))
    (hs : (staleJudged s).2 = [] ∨ s.seq.state.inService = false → P (staleJudged s).1) : P (staleWork s) := by
  have hstate := (staleJudged_sameBut s).state (by decide)
  rw [staleWork_eq]
  refine hP.keepsWithin (formPublished_sameBut _) hd (by decide) ?_
  exact hP.handleLatches (fun h => hd _ h (by simp)) (by rwa [hstate]) (by rwa [hstate])

/-- An accepted CLEAR keeps a law that the two returns from TRIPPED keep, and that the monitors do not touch. -/
theorem Only.clearWork (hd : ∀ p ∈ ds, p ∉ [Part.native, .thermal, .margin, .stale, .zoneHigh, .available, .published]) {s : State}
    (hactive : s.seq.state = .tripped → s.isStore = true → P (enterActive .clear (produce .tripCleared (unlatchGone s))))
    (hstandby : s.seq.state = .tripped → P (enterStandby .clear (produce .tripCleared (unlatchGone s)))) (hs : P s) :
    P (clearWork s) := by
  have hform (v : State) (hv : P v) : P (formPublished (evalAvailable v)) :=
    hP.keepsWithin ((evalAvailable_sameBut v).comp (formPublished_sameBut _) (List.Subset.refl _)) hd (by decide) hv
  refine hform _ ?_
  split
  · next ht =>
    unfold leaveTripped
    dsimp only
    split
    · next hstore => exact hactive ht hstore
    · exact hstandby ht
  · exact hP.keepsWithin (unlatchGone_sameBut s) hd (by decide) hs

/-- The removal of PERMIT, by the state (R107, R109, R111). -/
theorem Only.permitRemoved (hd : Part.available ∉ ds) {s : State}
    (hstandby : s.seq.state = .starting ∨ s.seq.state = .running → P (enterStandby .permit s))
    (hleave : s.seq.state = .leaving → s.isTrain = true →
      P (setpointIfFell s.share.command (endLeave { s with share := { s.share with command := 0 } })))
    (hidle : s.seq.state ≠ .starting → s.seq.state ≠ .running → (s.seq.state = .leaving → s.isTrain = false) → P s) :
    P (permitRemoved s) := by
  have hrest (h1 : s.seq.state ≠ .starting) (h2 : s.seq.state ≠ .running) (h3 : s.seq.state = .leaving → s.isTrain = false) :
      P (evalAvailable s) :=
    hP.keeps (evalAvailable_sameBut s) (fun p hp hmem => hd (List.mem_singleton.mp hmem ▸ hp)) (hidle h1 h2 h3)
  unfold Machine.permitRemoved
  split
  case h_3 hl =>
    split
    · next ht => exact hleave hl ht
    · next ht => exact hrest (by simp [hl]) (by simp [hl]) fun _ => by simpa using ht
  · next h => exact hstandby (.inl h)
  · next h => exact hstandby (.inr h)
  all_goals next h => exact hrest (by simp [h]) (by simp [h]) (by simp [h])

/-- The status timer's expiry keeps a law that the end of a store's leave keeps. -/
theorem Only.statusWork (hd : ∀ p ∈ ds, p ∉ [Part.pendingStatus, .available, .lastU, .leaveCount]) {s : State}
    (hend : ∀ v, s.isStore = true → s.seq.state = .leaving → P v → P (endLeave v)) (hs : P s) : P (statusWork s) := by
  have hcount := hP.keepsWithin (setLeaveCount_sameBut (s.seq.leaveCount + 1) s) hd (by decide) hs
  have hbuild (v : State) (hv : P v) : P (buildStatus v) :=
    hP.keepsWithin (buildStatus_sameBut v) hd (by decide) hv
  unfold Machine.statusWork
  split
  · next h =>
    obtain ⟨hstore, hl⟩ := Bool.and_eq_true_iff.mp h
    dsimp only
    split
    · exact hend _ hstore (by simpa using hl) hcount
    · exact hbuild _ hcount
  · exact hbuild _ hs

/-- The parts that the third to fifth stages of a control period expiry may change in a train that neither ends a leave nor starts. -/
def workParts : List Part := [.openRecord, .wake, .command, .lastLoaded, .standbyTimer]

/-- These stages keep a law that the end of a leave and a start keep. -/
theorem Only.expiryWork (hd : ∀ p ∈ ds, p ∉ workParts) {k : Kind} {s : State} (hend : ∀ v, s.seq.state = .leaving → P v → P (endLeave v))
    (hstart : nextWake s k = s.inForce.items.wakeDelay → s.seq.state = .standby →
      P (enterStarting { s with share := { s.share with wake := nextWake s k } }))
    (hs : P s) : P (expiryWork k s) := by
  unfold Machine.expiryWork loadedExpiry standbyExpiry
  have hperiod : P (notePeriod s) := hP.keepsWithin (notePeriod_sameBut s) hd (by decide) hs
  split
  · by_cases hl : s.seq.state = .leaving ∧ newCommand s k = 0
    · by_cases h0 : s.share.command = 0
      · rw [hl.2, setCommand, if_pos (by simp [h0])]
        exact hperiod
      · rw [hl.2, setCommand_ends (by simpa using hl.1) (by simpa using h0)]
        exact hend _ hl.1 (hP.keepsWithin (zeroCommand_sameBut _) hd (by decide) hperiod)
    · exact hP.keepsWithin (setCommand_sameBut (by simpa using hl)) hd (by decide) hperiod
  · split
    · next hstandby =>
      dsimp only
      split
      · next hwake => exact hstart hwake.1 hstandby
      · exact hP.keepsWithin (setWake_sameBut _ s) hd (by decide) hs
    · exact hs

/-- The parts that a control period expiry may change in a train that neither ends a leave nor starts. -/
def computeParts : List Part := [.target, .agreement, .openRecord, .wake] ++ readParts

/-- A control period expiry keeps a law that the end of a leave and a start keep. -/
theorem Only.expiryStages (hd : ∀ p ∈ ds, p ∉ computeParts) {k : Kind} {s : State}
    (hend : ∀ v, s.seq.state = .leaving → P v → P (endLeave v))
    (hstart : ∀ v, P v → AvailableLaw v → nextWake v k = v.inForce.items.wakeDelay → v.seq.state = .standby →
      P (enterStarting { v with share := { v.share with wake := nextWake v k } }))
    (hs : P s) : P (expiryStages k s) := by
  have hread : P (readAtExpiry (bookExpiry s)) :=
    hP.keepsWithin ((bookExpiry_sameBut s).comp (readAtExpiry_sameBut _) (List.Subset.refl _)) hd (by decide) hs
  have hlaw : AvailableLaw (readAtExpiry (bookExpiry s)) := readU_law _
  have hstate : (readAtExpiry (bookExpiry s)).seq.state = s.seq.state := by simp
  have hsub : workParts ⊆ computeParts := by decide
  rw [expiryStages_eq]
  refine hP.keepsWithin (sendSetpoint_sameBut _) hd (by decide) ?_
  exact hP.expiryWork (fun p hp hmem => hd p hp (hsub hmem)) (hstate ▸ hend) (hstart _ hread hlaw) hread

/-- An arrival keeps a law that the conflict keeps. -/
theorem Only.arrival (hd : ∀ p ∈ ds, p ∉ [Part.receiveQueue, .reports]) (bytes : List Byte) {s : State}
    (hconflict : s.seq.state ≠ .offline → P (addressConflict s)) (hs : P s) : P (arrival bytes s) := by
  unfold Machine.arrival receiveFrame
  split
  · next hsealed =>
    repeat' split
    · exact hs
    · exact hs
    · exact hs
    · exact hconflict (by simpa [State.isSealed] using hsealed)
    · exact hP.keeps (enqueue_sameBut _ s) hd hs
  · exact hs

omit hP in
/-- The end of the join window, by the latches and the kind (R106). -/
theorem endWindow_induction {s : State} (hactive : s.bank.latchedSet = [] → s.isStore = true → P (enterActive .joinEnd s))
    (hstandby : s.bank.latchedSet = [] → s.isStore = false → P (enterStandby .joinEnd s))
    (htrip : s.bank.latchedSet ≠ [] → P (trip s.bank.latchedSet s)) : P (endWindow s) := by
  unfold endWindow
  repeat' split
  · next hset hstore => exact hactive (by simpa using hset) hstore
  · next hset hstore => exact hstandby (by simpa using hset) (by simpa using hstore)
  · next hset => exact htrip (by simpa using hset)

end

end Sys2Proof.Machine
end

section
/-! PROOFS. The monitor bank, monitor by monitor: what a judgement, a record, a stale expiry and a CLEAR make of each (R123 to R134). -/

namespace Sys2Proof.Machine

/-! ## The monitors of a bank -/

theorem monitor_setMonitor (b : Bank) (m x : Monitor) (v : MonState) :
    (b.setMonitor m v).monitor x = if x = m then v else b.monitor x := by
  cases m <;> cases x <;> rfl

theorem setMonitor_monitor (b : Bank) (m : Monitor) : b.setMonitor m (b.monitor m) = b := by cases m <;> rfl

theorem setMonitor_setMonitor (b : Bank) (m : Monitor) (v w : MonState) : (b.setMonitor m v).setMonitor m w = b.setMonitor m w := by
  cases m <;> rfl

/-! ## One judgement -/

/-- The judgement of a monitor latches it: it becomes ACTIVE in LATCH (R125). -/
def latchesAt (mode : Mode) (d : Nat) (present : Bool) (m : MonState) : Bool :=
  mode == .latch && becameActive m (judgeMonitor d present m)

/-- A monitor after its judgement in its mode (R124, R125). -/
def judgedIn (mode : Mode) (d : Nat) (present : Bool) (m : MonState) : MonState :=
  if mode = .off then m
  else if latchesAt mode d present m then { judgeMonitor d present m with cond := .latched }
  else judgeMonitor d present m

theorem judgeAt_bank (m : Monitor) (d : Nat) (b : Bool) (s : State) : (judgeAt m d b s).1.bank =
    s.bank.setMonitor m (judgedIn (s.inForce.modes.get m) d b (s.bank.monitor m)) := by
  unfold judgeAt judgedIn latchesAt
  by_cases hoff : s.inForce.modes.get m = .off
  · simp [hoff, setMonitor_monitor]
  · by_cases hbecame : becameActive (s.bank.monitor m) (judgeMonitor d b (s.bank.monitor m)) = true
    · cases hmode : s.inForce.modes.get m <;>
        simp_all [onActive, setMonitor_setMonitor, monitor_setMonitor]
    · simp [hoff, hbecame]

theorem judgeAt_latched (m : Monitor) (d : Nat) (b : Bool) (s : State) : (judgeAt m d b s).2 =
    if latchesAt (s.inForce.modes.get m) d b (s.bank.monitor m) then [m] else [] := by
  unfold judgeAt latchesAt
  by_cases hoff : s.inForce.modes.get m = .off
  · simp [hoff]
  · by_cases hbecame : becameActive (s.bank.monitor m) (judgeMonitor d b (s.bank.monitor m)) = true
    · cases hmode : s.inForce.modes.get m <;> simp_all [onActive]
    · simp [hoff, hbecame]

theorem judgeMonitor_latched (d : Nat) (b : Bool) (m : MonState) : (judgeMonitor d b m).cond = .latched ↔ m.cond = .latched := by
  rcases m with ⟨cond, onset, release, mark⟩
  cases cond <;> cases b <;> simp only [judgeMonitor] <;> (try split) <;> simp

/-- A monitor that does not latch at its judgement is LATCHED after it where it was before. -/
theorem judgedIn_latched {mode : Mode} {d : Nat} {b : Bool} {m : MonState} (h : latchesAt mode d b m = false) :
    (judgedIn mode d b m).cond = .latched ↔ m.cond = .latched := by
  unfold judgedIn
  split
  · exact Iff.rfl
  · rw [h]
    exact judgeMonitor_latched d b m

/-- The latches of one judgement, and what is LATCHED after one that latches nothing. -/
theorem judgeAt_keepsLatched {m : Monitor} {d : Nat} {b : Bool} {s : State} (h : (judgeAt m d b s).2 = []) (x : Monitor) :
    ((judgeAt m d b s).1.bank.monitor x).cond = .latched ↔ (s.bank.monitor x).cond = .latched := by
  have hlatch : latchesAt (s.inForce.modes.get m) d b (s.bank.monitor m) = false := by
    simpa [judgeAt_latched] using h
  rw [judgeAt_bank, monitor_setMonitor]
  split
  · next hx => rw [hx]; exact judgedIn_latched hlatch
  · exact Iff.rfl

/-! ## A record -/

theorem judgeThermal_keepsLatched {t : Nat} {s : State} (h : (judgeThermal t s).2 = []) (x : Monitor) :
    ((judgeThermal t s).1.bank.monitor x).cond = .latched ↔ (s.bank.monitor x).cond = .latched := by
  unfold judgeThermal at h ⊢
  split
  · next hl => rw [if_pos hl] at h; exact judgeAt_keepsLatched h x
  · exact Iff.rfl

theorem judgeMargin_keepsLatched {v : Nat} {s : State} (h : (judgeMargin v s).2 = []) (x : Monitor) :
    ((judgeMargin v s).1.bank.monitor x).cond = .latched ↔ (s.bank.monitor x).cond = .latched := by
  unfold judgeMargin at h ⊢
  split
  · next hl => rw [if_pos hl] at h; exact judgeAt_keepsLatched h x
  · exact Iff.rfl

theorem judgeRecord_keepsLatched {r : Measurement} {s : State} (h : (judgeRecord r s).2 = []) (x : Monitor) :
    ((judgeRecord r s).1.bank.monitor x).cond = .latched ↔ (s.bank.monitor x).cond = .latched := by
  cases r with
  | train o f p t v =>
    obtain ⟨hab, hc⟩ := List.append_eq_nil_iff.mp h
    obtain ⟨ha, hb⟩ := List.append_eq_nil_iff.mp hab
    exact (judgeMargin_keepsLatched hc x).trans ((judgeThermal_keepsLatched hb x).trans (judgeAt_keepsLatched ha x))
  | store zones => exact judgeAt_keepsLatched h x

/-- M_STALE after the end of its condition (R131). -/
def staleEnded (m : MonState) : MonState := if m.cond = .active then ⟨.clear, 0, 0, false⟩ else { m with mark := false }

theorem releaseCap_monitor (b : Bool) (s : State) (m : Monitor) : (releaseCap b s).bank.monitor m = s.bank.monitor m := by
  unfold releaseCap; split <;> cases m <;> rfl

theorem endStale_monitor (s : State) (m : Monitor) :
    (endStale s).bank.monitor m = if m = .stale then staleEnded s.bank.stale else s.bank.monitor m := by
  unfold endStale staleEnded
  dsimp only
  rw [releaseCap_monitor]
  cases m <;> simp [Bank.monitor]

theorem retryStage_monitor (b : Bool) (s : State) (m : Monitor) : (retryStage b s).bank.monitor m = s.bank.monitor m := by
  unfold retryStage retryCut
  repeat' split
  · cases m <;> rfl
  · exact releaseCap_monitor b s m
  · rfl

theorem takeIn_bank (r : Measurement) (s : State) : (takeIn r s).bank = s.bank := by
  cases r <;> simp [takeIn, holdRecord]

theorem endStale_latched (s : State) (m : Monitor) :
    ((endStale s).bank.monitor m).cond = .latched ↔ (s.bank.monitor m).cond = .latched := by
  rw [endStale_monitor]
  split
  · next hm =>
    subst hm
    unfold staleEnded
    split
    · next h => simp [h, Bank.monitor]
    · exact Iff.rfl
  · exact Iff.rfl

/-- A record at which nothing latches leaves the latches as they were. -/
theorem recordJudged_keepsLatched {r : Measurement} {s : State} (h : (recordJudged r s).2 = []) (m : Monitor) :
    ((recordJudged r s).1.bank.monitor m).cond = .latched ↔ (s.bank.monitor m).cond = .latched := by
  unfold recordJudged
  rw [retryStage_monitor, judgeRecord_keepsLatched h, endStale_latched, takeIn_bank]

/-! ## A stale expiry and a CLEAR -/

theorem staleJudged_keepsLatched {s : State} (h : (staleJudged s).2 = []) (m : Monitor) :
    ((staleJudged s).1.bank.monitor m).cond = .latched → (s.bank.monitor m).cond = .latched := by
  have hother (hm : m ≠ .stale) : (staleJudged s).1.bank.monitor m = s.bank.monitor m := by
    have hframe := staleJudged_sameBut s
    cases m
    · exact hframe .native (by decide)
    · exact hframe .thermal (by decide)
    · exact hframe .margin (by decide)
    · exact absurd rfl hm
    · exact hframe .zoneHigh (by decide)
  by_cases hm : m = .stale
  · subst hm
    unfold staleJudged judgeStale at h ⊢
    revert h
    split
    · exact fun _ => id
    · dsimp only
      split
      · next hl => exact fun _ _ => hl
      · exact fun h => nomatch h
    · intro _ hl; simp [Bank.monitor] at hl
    · intro _ hl; simp [Bank.monitor, holdPublished] at hl
  · rw [hother hm]; exact id

theorem unlatchGone_monitor (s : State) (m : Monitor) : (unlatchGone s).bank.monitor m = unlatch (s.bank.monitor m) := by
  cases m <;> rfl

theorem unlatch_latched (m : MonState) : (unlatch m).cond = .latched → m.cond = .latched ∧ m.mark = true := by
  unfold unlatch
  split
  · intro h; cases h
  · next h => exact fun hl => ⟨hl, by simpa [hl] using h⟩

theorem latchedPresent_iff (s : State) :
    latchedPresent s = true ↔ ∃ m, (s.bank.monitor m).cond = .latched ∧ (s.bank.monitor m).mark = true := by
  simp only [latchedPresent, List.any_eq_true, Bool.and_eq_true, beq_iff_eq]
  constructor
  · rintro ⟨m, -, h⟩; exact ⟨m, h⟩
  · rintro ⟨m, h⟩; exact ⟨m, by cases m <;> simp [allMonitors], h⟩

/-- A CLEAR accepted in TRIPPED leaves no monitor LATCHED (R116). -/
theorem unlatchGone_none {s : State} (h : ¬ latchedPresent s = true) (m : Monitor) : ((unlatchGone s).bank.monitor m).cond ≠ .latched := by
  intro hl
  rw [unlatchGone_monitor] at hl
  exact h ((latchedPresent_iff s).mpr ⟨m, unlatch_latched _ hl⟩)

end Sys2Proof.Machine
end

section
/-! PROOFS. Which reports an operation queues, and in which order: the report queue after it is the one that these reports leave (R120, R160). -/

namespace Sys2Proof.Machine

/-! ## Reports produced one after the other -/

/-- The station after these reports were produced in this order. -/
def reported (rs : List Report) (s : State) : State := rs.foldl (fun v r => produce r v) s

/-- The report queue, its number and its flag are as these reports, produced in this order, leave them. -/
def Produces (rs : List Report) (s u : State) : Prop :=
  u.link.reports = (reported rs s).link.reports ∧ u.link.reportNo = (reported rs s).link.reportNo
  ∧ u.link.discarded = (reported rs s).link.discarded

theorem reported_append (rs qs : List Report) (s : State) : reported (rs ++ qs) s = reported qs (reported rs s) :=
  List.foldl_append ..

/-- What reports leave depends on the queue, its number and its flag alone. -/
theorem Produces.congr {s v : State} (h : Produces [] s v) (rs : List Report) : Produces rs s (reported rs v) := by
  induction rs generalizing s v with
  | nil => exact h
  | cons r rs ih =>
    obtain ⟨hreports, hno, hdiscarded⟩ := h
    have hreports : v.link.reports = s.link.reports := hreports
    have hno : v.link.reportNo = s.link.reportNo := hno
    have hdiscarded : v.link.discarded = s.link.discarded := hdiscarded
    exact ih (s := produce r s) (v := produce r v) ⟨by simp [produce, reported, hreports, hno], by simp [produce, reported, hno],
      by simp [produce, reported, hreports, hdiscarded]⟩

theorem Produces.refl (s : State) : Produces [] s s := ⟨rfl, rfl, rfl⟩

theorem Produces.trans {rs qs : List Report} {s v u : State} (h : Produces rs s v) (h' : Produces qs v u) :
    Produces (rs ++ qs) s u := by
  have hsame : Produces [] (reported rs s) v := h
  obtain ⟨h1, h2, h3⟩ := hsame.congr qs
  rw [← reported_append] at h1 h2 h3
  exact ⟨h'.1.trans h1, h'.2.1.trans h2, h'.2.2.trans h3⟩

theorem produces_of_frame {ps : List Part} {s u : State} (h : SameBut ps s u) (hd : Part.reports ∉ ps) : Produces [] s u := h .reports hd

theorem produces_produce (r : Report) (s : State) : Produces [r] s (produce r s) := .refl _

/-- A change with no report before one that has them. -/
theorem SameBut.then_produces {ps : List Part} {rs : List Report} {s v u : State} (h : SameBut ps s v) (hd : Part.reports ∉ ps)
    (h' : Produces rs v u) : Produces rs s u := (produces_of_frame h hd).trans h'

/-- A change with no report after one that has them. -/
theorem Produces.then_sameBut {ps : List Part} {rs : List Report} {s v u : State} (h : Produces rs s v) (h' : SameBut ps v u)
    (hd : Part.reports ∉ ps) : Produces rs s u := by simpa using h.trans (produces_of_frame h' hd)

/-! ## What the queue holds after them -/

theorem Produces.cons {r : Report} {rs : List Report} {s u : State} (h : Produces (r :: rs) s u) : Produces rs (produce r s) u := h

/-- The reports that waited stay in their places. -/
theorem Produces.isPrefix {rs : List Report} {s u : State} (h : Produces rs s u) : s.link.reports <+: u.link.reports := by
  induction rs generalizing s with
  | nil => exact (show u.link.reports = s.link.reports from h.1) ▸ List.prefix_rfl
  | cons r rs ih => exact (produce_reports_prefix r s).trans (ih h.cons)

/-- A full queue stays as it is, with REPORTS DISCARDED where anything was produced (R160). -/
theorem Produces.full {rs : List Report} {s u : State} (h : Produces rs s u) (hfull : 16 ≤ s.link.reports.length) :
    u.link.reports = s.link.reports ∧ u.link.discarded = (s.link.discarded || !rs.isEmpty) := by
  induction rs generalizing s with
  | nil => exact ⟨h.1, by simpa [reported] using h.2.2⟩
  | cons r rs ih =>
    have hproduce := produce_full hfull r
    obtain ⟨h1, h2⟩ := ih h.cons (by rw [hproduce]; exact hfull)
    rw [hproduce] at h1 h2
    exact ⟨h1, by simp [h2]⟩

/-- The first report of an operation is queued with the number that stood. -/
theorem Produces.queued {r : Report} {rs : List Report} {s u : State} (h : Produces (r :: rs) s u) : Queued s u r := by
  refine ⟨fun hroom => h.cons.isPrefix.subset (by rw [produce_reports hroom]; simp), fun hfull => ?_⟩
  obtain ⟨h1, h2⟩ := h.full hfull
  exact ⟨h1, by simp [h2]⟩

/-- A report for which there is still room is queued. -/
theorem Produces.mem {pre post : List Report} {r : Report} {s u : State} (h : Produces (pre ++ r :: post) s u)
    (hroom : s.link.reports.length + pre.length < 16) : ∃ n, ⟨n, r⟩ ∈ u.link.reports := by
  induction pre generalizing s with
  | nil => exact ⟨_, h.queued.1 (by simpa using hroom)⟩
  | cons x pre ih =>
    refine ih h.cons ?_
    have hx : s.link.reports.length < 16 := by simp at hroom; omega
    rw [produce_reports hx]
    simp at hroom ⊢
    omega

/-- Where there is room for them all, the queue is longer by them, numbered in their order. -/
theorem Produces.append_one {r : Report} {rs : List Report} {s u : State} (h : Produces (r :: rs) s u)
    (hroom : s.link.reports.length < 16) : ∃ more, u.link.reports = s.link.reports ++ ⟨s.link.reportNo, r⟩ :: more := by
  obtain ⟨more, hmore⟩ := h.cons.isPrefix
  exact ⟨more, by rw [← hmore, produce_reports hroom, List.append_assoc]; rfl⟩

/-- What waits after an operation waited before it or is one of its reports. -/
theorem Produces.mem_or {rs : List Report} {s u : State} (h : Produces rs s u) {x : NumberedReport} (hx : x ∈ u.link.reports) :
    x ∈ s.link.reports ∨ x.report ∈ rs := by
  induction rs generalizing s with
  | nil => exact .inl (h.1 ▸ hx)
  | cons r rs ih =>
    obtain hx | hx := ih h.cons
    · by_cases hroom : s.link.reports.length < 16
      · rw [produce_reports hroom] at hx
        obtain hx | hx := List.mem_append.mp hx
        · exact .inl hx
        · exact .inr (by rw [List.mem_singleton.mp hx]; exact List.mem_cons_self ..)
      · rw [produce_full (by omega)] at hx
        exact .inl hx
    · exact .inr (List.mem_cons_of_mem _ hx)

/-- The queue stays within 16 and the number within 16 bits (R160). -/
def ReportLaw (s : State) : Prop := s.link.reports.length ≤ 16 ∧ s.link.reportNo ≤ 65535

theorem Produces.reportLaw {rs : List Report} {s u : State} (h : Produces rs s u) (hs : ReportLaw s) : ReportLaw u := by
  induction rs generalizing s with
  | nil => exact ⟨h.1 ▸ hs.1, h.2.1 ▸ hs.2⟩
  | cons r rs ih =>
    refine ih h.cons ⟨produce_reports_length r s hs.1, ?_⟩
    rw [produce_reportNo]
    omega

/-! ## The reports of the shared operations -/

theorem enterState_produces (x : StationState) (cause : Cause) (s : State) :
    Produces [.stateChange s.seq.state x cause] s (enterState x cause s) := .refl _

theorem endLeave_produces (s : State) : Produces [.stateChange s.seq.state .offline .leaveEnd] s (endLeave s) := .refl _

theorem decideMode_produces (s : State) : ∃ rs, Produces rs s (decideMode s)
    ∧ (rs = [] ∨ rs = [.storeCooled (wantsCooled s)]) := by
  unfold decideMode
  split
  · exact ⟨_, produces_produce _ _, .inr rfl⟩
  · exact ⟨[], .refl s, .inl rfl⟩

/-- The reports of a read of U: STORE COOLED, and the STATE CHANGE of a leave's end (R98, R113). -/
def isReadReport (r : Report) : Prop := r = .storeCooled true ∨ r = .storeCooled false ∨ r = .stateChange .leaving .offline .leaveEnd

theorem isReadReport_storeCooled (b : Bool) : isReadReport (.storeCooled b) := by cases b <;> simp [isReadReport]

theorem setCommand_produces (c : Nat) (s : State) : ∃ rs, Produces rs s (setCommand c s) ∧ ∀ r ∈ rs, isReadReport r := by
  by_cases hl : s.seq.state = .leaving ∧ c = 0
  · obtain ⟨hl, rfl⟩ := hl
    by_cases h0 : s.share.command = 0
    · exact ⟨[], by rw [setCommand, if_pos h0.symm]; exact .refl s, by simp⟩
    · rw [setCommand_ends hl h0]
      exact ⟨_, (zeroCommand_sameBut s).then_produces (by decide) (endLeave_produces _), by simp [isReadReport, hl]⟩
  · exact ⟨[], produces_of_frame (setCommand_sameBut hl) (by decide), by simp⟩

theorem readUpper_produces (s : State) : ∃ rs, Produces rs s (readUpper s) ∧ ∀ r ∈ rs, isReadReport r := by
  obtain ⟨rs, hmode, hrs⟩ := decideMode_produces s
  have hread : ∀ r ∈ rs, isReadReport r := by
    obtain rfl | rfl := hrs
    · simp
    · simpa using isReadReport_storeCooled _
  have hU := hmode.then_sameBut (readU_sameBut _) (by decide)
  obtain ⟨-, hr⟩ | ⟨-, hr, -⟩ | ⟨-, -, -, hr⟩ := readUpper_cases s
  · exact ⟨[], by rw [hr]; exact .refl s, by simp⟩
  · exact ⟨rs, by rw [hr]; exact hU, hread⟩
  · obtain ⟨qs, hset, hqs⟩ := setCommand_produces (upperLimit (decideMode s)) (readU (decideMode s))
    refine ⟨rs ++ qs, ?_, fun r hmem => ?_⟩
    · rw [hr]
      exact (hU.trans hset).then_sameBut (sendSetpoint_sameBut _) (by decide)
    · exact (List.mem_append.mp hmem).elim (hread r) (hqs r)

theorem readIfCapChanged_produces (cap : Nat) (s : State) :
    ∃ rs, Produces rs s (readIfCapChanged cap s) ∧ ∀ r ∈ rs, isReadReport r := by
  unfold readIfCapChanged
  split
  · exact ⟨[], .refl s, by simp⟩
  · exact readUpper_produces s

/-! ## The reports of the changes of state -/

/-- A fall out of service queues no report of its own. -/
theorem fallen_produces (s : State) : Produces [] s (fallen s) := by
  have hstop := produces_of_frame (stopSequence_sameBut s) (by decide)
  have hdrop := hstop.then_sameBut (dropCommand_sameBut _) (by decide)
  exact hdrop.then_sameBut (unloadIfLoaded_sameBut s.seq.state _) (by decide)

theorem enterStandby_produces (cause : Cause) (s : State) : ∃ rs,
    Produces (.stateChange s.seq.state .standby cause :: rs) s (enterStandby cause s) ∧ ∀ r ∈ rs, isReadReport r := by
  have henter : Produces [.stateChange s.seq.state .standby cause] s (enterState .standby cause (fallen s)) := by
    simpa using (fallen_produces s).trans (enterState_produces .standby cause _)
  have hset := (henter.then_sameBut (evalAvailable_sameBut _) (by decide)).then_sameBut (setpointIfFell_sameBut s.share.command _)
    (by decide)
  obtain ⟨rs, hread, hrs⟩ := readIfCapChanged_produces s.bank.cap
    (setpointIfFell s.share.command (evalAvailable (enterState .standby cause (fallen s))))
  exact ⟨rs, hset.trans hread, hrs⟩

theorem enterActive_produces (cause : Cause) (s : State) :
    Produces [.stateChange s.seq.state .active cause] s (enterActive cause s) := by
  have hstop := produces_of_frame (stopSequence_sameBut s) (by decide)
  have henter := hstop.trans (enterState_produces .active cause _)
  exact (henter.then_sameBut (evalAvailable_sameBut _) (by decide)).then_sameBut (formPublished_sameBut _) (by decide)

theorem trip_produces (ms : List Monitor) (s : State) :
    Produces [.trip ms, .stateChange s.seq.state .tripped .trip] s (trip ms s) := by
  have hframe := (fallen_produces s).then_sameBut (setTripOut_sameBut .tripped _) (by decide)
  have hforms := (hframe.then_sameBut (evalAvailable_sameBut _) (by decide)).then_sameBut (formPublished_sameBut _) (by decide)
  have hnotes := (hforms.then_sameBut (noteCut_sameBut .trip (cutReport s) _) (by decide)).then_sameBut (noteTripped_sameBut _)
    (by decide)
  have hasked := (hnotes.then_sameBut (setpointIfFell_sameBut s.share.command _) (by decide)).then_sameBut
    (askAlert_sameBut .trip (cutReport s) _) (by decide)
  exact (hasked.trans (produces_produce (.trip ms) _)).trans (produces_produce _ _)

theorem addressConflict_produces (s : State) : ∃ rs,
    Produces (.addressConflict :: .stateChange s.seq.state .conflict .conflict :: rs) s (addressConflict s)
    ∧ ∀ r ∈ rs, isReadReport r := by
  have hframe := (fallen_produces s).then_sameBut (setTripOut_sameBut .conflict _) (by decide)
  have hforms := (hframe.then_sameBut (evalAvailable_sameBut _) (by decide)).then_sameBut (formPublished_sameBut _) (by decide)
  have hnotes := (hforms.then_sameBut (noteTripped_sameBut _) (by decide)).then_sameBut
    (conflictBus_sameBut ⟨s.inForce.address, .conflict, {}⟩ _) (by decide)
  have hset := hnotes.then_sameBut (setpointIfFell_sameBut s.share.command _) (by decide)
  have hreports := (hset.trans (produces_produce .addressConflict _)).trans
    (produces_produce (.stateChange s.seq.state .conflict .conflict) _)
  obtain ⟨rs, hread, hrs⟩ := readIfCapChanged_produces s.bank.cap _
  exact ⟨rs, hreports.trans hread, hrs⟩

theorem handleLatches_produces (ms : List Monitor) (s : State) : ∃ rs, Produces rs s (handleLatches ms s) := by
  unfold handleLatches
  repeat' split
  · exact ⟨[], .refl s⟩
  · exact ⟨[], produces_of_frame (setTripHeld_sameBut s) (by decide)⟩
  · exact ⟨_, trip_produces ms s⟩
  · exact ⟨[], .refl s⟩

/-! ## The reports of the bank -/

/-- The MONITOR WARN of a judgement: of a monitor that becomes ACTIVE in RETRY or WARN (R125). -/
def warnsAt (m : Monitor) (mode : Mode) (d : Nat) (present : Bool) (v : MonState) : List Report :=
  if (mode = .retry ∨ mode = .warn) ∧ becameActive v (judgeMonitor d present v) = true then [.monitorWarn m mode] else []

theorem judgeAt_produces (m : Monitor) (d : Nat) (b : Bool) (s : State) :
    Produces (warnsAt m (s.inForce.modes.get m) d b (s.bank.monitor m)) s (judgeAt m d b s).1 := by
  unfold judgeAt warnsAt
  by_cases hoff : s.inForce.modes.get m = .off
  · simpa [hoff] using Produces.refl s
  · rw [if_neg hoff]
    dsimp only
    have hset (v : MonState) : Produces [] s { s with bank := s.bank.setMonitor m v } := .refl s
    by_cases hbecame : becameActive (s.bank.monitor m) (judgeMonitor d b (s.bank.monitor m)) = true
    · cases hmode : s.inForce.modes.get m with
      | off => exact absurd hmode hoff
      | latch => simpa [hbecame, onActive, hmode, setMonitor_setMonitor] using hset _
      | retry => simpa [hbecame, onActive, hmode] using (hset _).trans (produces_produce (.monitorWarn m .retry) _)
      | warn => simpa [hbecame, onActive, hmode] using (hset _).trans (produces_produce (.monitorWarn m .warn) _)
    · simpa [hbecame] using hset _

/-- Some reports are produced. -/
def Reports (s u : State) : Prop := ∃ rs, Produces rs s u

theorem Reports.trans {s v u : State} (h : Reports s v) (h' : Reports v u) : Reports s u := by
  obtain ⟨rs, h⟩ := h
  obtain ⟨qs, h'⟩ := h'
  exact ⟨rs ++ qs, h.trans h'⟩

theorem reports_of_frame {ps : List Part} {s u : State} (h : SameBut ps s u) (hd : Part.reports ∉ ps) : Reports s u :=
  ⟨[], produces_of_frame h hd⟩

theorem Reports.reportLaw {s u : State} (h : Reports s u) (hs : ReportLaw s) : ReportLaw u := by
  obtain ⟨rs, h⟩ := h
  exact h.reportLaw hs

theorem Reports.refl (s : State) : Reports s s := ⟨[], .refl s⟩

theorem produce_reports_some (r : Report) (s : State) : Reports s (produce r s) := ⟨_, produces_produce r s⟩

theorem readUpper_reports (s : State) : Reports s (readUpper s) := (readUpper_produces s).imp fun _ h => h.1

theorem enterStandby_reports (cause : Cause) (s : State) : Reports s (enterStandby cause s) :=
  have ⟨_, h, _⟩ := enterStandby_produces cause s
  ⟨_, h⟩

theorem addressConflict_reports (s : State) : Reports s (addressConflict s) :=
  have ⟨_, h, _⟩ := addressConflict_produces s
  ⟨_, h⟩

theorem endLeave_reports (s : State) : Reports s (endLeave s) := ⟨_, endLeave_produces s⟩

theorem judgeThermal_reports (t : Nat) (s : State) : Reports s (judgeThermal t s).1 := by
  unfold judgeThermal
  split
  · exact ⟨_, judgeAt_produces _ _ _ s⟩
  · exact .refl s

theorem judgeMargin_reports (v : Nat) (s : State) : Reports s (judgeMargin v s).1 := by
  unfold judgeMargin
  split
  · exact ⟨_, judgeAt_produces _ _ _ s⟩
  · exact .refl s

theorem judgeRecord_reports (r : Measurement) (s : State) : Reports s (judgeRecord r s).1 := by
  cases r with
  | train o f p t v =>
    exact (Reports.trans ⟨_, judgeAt_produces .native _ _ s⟩ (judgeThermal_reports t _)).trans (judgeMargin_reports v _)
  | store zones => exact ⟨_, judgeAt_produces .zoneHigh _ _ s⟩

theorem recordJudged_reports (r : Measurement) (s : State) : Reports s (recordJudged r s).1 := by
  refine (reports_of_frame (takeIn_sameBut r s) (by decide)).trans ?_
  refine (reports_of_frame (endStale_sameBut _) (by decide)).trans ?_
  exact (judgeRecord_reports r _).trans (reports_of_frame (retryStage_sameBut _ _) (by decide))

theorem recordWork_reports (r : Measurement) (s : State) : Reports s (recordWork r s) := by
  rw [recordWork_eq]
  refine (recordJudged_reports r s).trans ?_
  exact Reports.trans (handleLatches_produces _ _) (reports_of_frame (formPublished_sameBut _) (by decide))

theorem judgeStale_reports (s : State) : Reports s (judgeStale s).1 := by
  unfold judgeStale
  dsimp only
  split
  · exact .refl s
  · split <;> exact ⟨[], .refl s⟩
  · exact ⟨[.monitorWarn .stale .warn], ⟨rfl, rfl, rfl⟩⟩
  · exact ⟨[.monitorWarn .stale .retry], ⟨rfl, rfl, rfl⟩⟩

theorem staleWork_reports (s : State) : Reports s (staleWork s) := by
  refine (reports_of_frame (markStale_sameBut s) (by decide)).trans ?_
  refine (judgeStale_reports _).trans ?_
  exact Reports.trans (handleLatches_produces _ _) (reports_of_frame (formPublished_sameBut _) (by decide))

theorem clearWork_reports (s : State) : Reports s (clearWork s) := by
  have hform (v : State) : Reports v (formPublished (evalAvailable v)) :=
    reports_of_frame ((evalAvailable_sameBut v).comp (formPublished_sameBut _) (List.Subset.refl _)) (by decide)
  refine Reports.trans ?_ (hform _)
  have hgone : Reports s (unlatchGone s) := reports_of_frame (unlatchGone_sameBut s) (by decide)
  split
  · refine hgone.trans ((produce_reports_some .tripCleared _).trans ?_)
    unfold leaveTripped
    dsimp only
    split
    · exact ⟨_, enterActive_produces _ _⟩
    · exact enterStandby_reports _ _
  · exact hgone

/-! ## The reports of the book, the clock and the table -/

theorem produces_of_link {s u : State} (h : u.link = s.link) : Produces [] s u := by simp [Produces, reported, h]

theorem reports_of_link {s u : State} (h : u.link = s.link) : Reports s u := ⟨[], produces_of_link h⟩

/-- A change that leaves the link alone, before one that produces reports. -/
theorem Reports.after {s v u : State} (h : Reports v u) (hlink : v.link = s.link) : Reports s u := (reports_of_link hlink).trans h

theorem judge_reports (s : State) : Reports s (judge s) := by
  have hwith : Reports s (judgeWith s).1 := reports_of_link (by simp)
  obtain h | ⟨r, h⟩ := judge_cases s <;> rw [h]
  · exact hwith
  · exact hwith.trans (produce_reports_some r _)

theorem deriveAtExpiry_reports (s : State) : Reports s (deriveAtExpiry s) := by
  have hnoted (t : Option Int) : Reports s (noteTarget t { s with book := { s.book with target := t } }) := reports_of_link (by simp)
  unfold deriveAtExpiry
  dsimp only
  split
  · exact hnoted _
  · exact (hnoted _).trans (judge_reports _)

theorem stepAgreement_reports (s : State) : Reports s (stepAgreement s) := by
  unfold stepAgreement
  dsimp only
  repeat' split
  · exact reports_of_link rfl
  · exact .refl _
  · exact (produce_reports_some _ _).after (by simp)
  · exact reports_of_link rfl

theorem bookExpiry_reports (s : State) : Reports s (bookExpiry s) :=
  (deriveAtExpiry_reports s).trans (stepAgreement_reports _)

theorem produceEither_reports (x y : Option Report) (s : State) : Reports s (produceEither x y s) := by
  unfold produceEither
  dsimp only
  repeat' split
  · exact .refl s
  · exact produce_reports_some _ s
  · exact produce_reports_some _ s
  · exact ⟨[_, _], ⟨rfl, rfl, rfl⟩⟩
  · exact ⟨[_, _], ⟨rfl, rfl, rfl⟩⟩

theorem intervalChange_reports (n : Nat) (byFreeRun : Bool) (s : State) : Reports s (intervalChange n byFreeRun s) := by
  unfold intervalChange
  dsimp only
  refine (produceEither_reports _ _ _).after ?_
  repeat' split
  all_goals simp [accountOpen]

theorem bookAtSeal_reports (s : State) : Reports s (bookAtSeal s) := by
  unfold bookAtSeal
  split
  · exact judge_reports s
  · exact (produce_reports_some _ _).after (by simp)

theorem sealTrain_reports (s : State) : Reports s (sealTrain s) := by
  refine (bookAtSeal_reports s).trans (Reports.after ?_ (v := accountAtSeal (bookAtSeal s)) (by simp))
  exact (decideMode_produces _).imp fun _ h => h.1

theorem enterState_reports (x : StationState) (cause : Cause) (s : State) : Reports s (enterState x cause s) :=
  ⟨_, enterState_produces x cause s⟩

theorem startStation_reports (s : State) : Reports s (startStation s) := ⟨[], ⟨rfl, rfl, rfl⟩⟩

theorem acceptSeal_reports (s : State) : Reports s (acceptSeal s) := by
  have henter := (startStation_reports s).trans (enterState_reports .joining .sealed _)
  refine henter.trans (Reports.trans ?_ (reports_of_frame (buildStatus_sameBut _) (by decide)))
  split
  · exact reports_of_link rfl
  · exact sealTrain_reports _

theorem enqueue_reports (f : Frame) (s : State) : Reports s (enqueue f s) := by
  unfold enqueue
  repeat' split
  · exact reports_of_link rfl
  · exact .refl s
  · exact (produce_reports_some _ _).after rfl

theorem produceOpt_reports (r : Option Report) (s : State) : Reports s (produceOpt r s) := by
  cases r with
  | none => exact .refl s
  | some r => exact produce_reports_some r s

theorem handOn_reports (f : StatusFrame) (old : Option Entry) (arr : Nat) (s : State) : Reports s (handOn f old arr s) := by
  unfold handOn
  split
  · exact (judge_reports _).after (by simp)
  · exact reports_of_link (by simp)
  · exact .refl s

theorem statusFrameWork_reports (f : StatusFrame) (tag : Relation) (arr : Nat) (s : State) :
    Reports s (statusFrameWork f tag arr s) := by
  unfold statusFrameWork
  dsimp only
  split
  · exact ((produceOpt_reports _ _).trans (handOn_reports _ _ _ _)).after rfl
  · exact (produceOpt_reports _ _).after rfl

theorem loseWork_reports (e : Entry) (s : State) : Reports s (loseWork e s) := by
  unfold loseWork
  dsimp only
  split
  · exact reports_of_link rfl
  · exact (produce_reports_some _ _).after rfl

theorem freeWork_reports (a : Nat) (s : State) : Reports s (freeWork a s) := by
  unfold freeWork
  exact ((produce_reports_some _ _).trans (reports_of_frame (accountDrop_sameBut a s.now _) (by decide))).after rfl

/-! ## The reports of the timers and the lines -/

theorem enterStarting_reports (s : State) : Reports s (enterStarting s) := ⟨[.stateChange s.seq.state .starting .wake], ⟨rfl, rfl, rfl⟩⟩

theorem enterRunning_reports (s : State) : Reports s (enterRunning s) := ⟨[.stateChange s.seq.state .running .startDone], ⟨rfl, rfl, rfl⟩⟩

theorem startLeaving_reports (s : State) : Reports s (startLeaving s) := ⟨[.stateChange s.seq.state .leaving .leave], ⟨rfl, rfl, rfl⟩⟩

theorem startStoreLeaving_reports (s : State) : Reports s (startStoreLeaving s) := by
  have hform (v : State) : Reports v (formPublished (evalAvailable v)) :=
    reports_of_frame ((evalAvailable_sameBut v).comp (formPublished_sameBut _) (List.Subset.refl _)) (by decide)
  unfold startStoreLeaving
  exact ((enterState_reports .leaving .leave _).trans (hform _)).after rfl

theorem readAtExpiry_reports (s : State) : Reports s (readAtExpiry s) := by
  obtain ⟨rs, h, -⟩ := decideMode_produces s
  exact ⟨rs, h.then_sameBut (readU_sameBut _) (by decide)⟩

theorem expiryWork_reports (k : Kind) (s : State) : Reports s (expiryWork k s) := by
  unfold expiryWork loadedExpiry standbyExpiry
  dsimp only
  repeat' split
  · obtain ⟨rs, h, -⟩ := setCommand_produces (newCommand s k) (notePeriod s)
    exact Reports.after ⟨rs, h⟩ (by simp)
  · exact (enterStarting_reports _).after rfl
  · exact reports_of_link rfl
  · exact .refl s

theorem expiryStages_reports (k : Kind) (s : State) : Reports s (expiryStages k s) := by
  rw [expiryStages_eq]
  refine ((bookExpiry_reports s).trans (readAtExpiry_reports _)).trans ((expiryWork_reports k _).trans ?_)
  exact reports_of_frame (sendSetpoint_sameBut _) (by decide)

theorem endWindow_reports (s : State) : Reports s (endWindow s) :=
  endWindow_induction (P := Reports s) (fun _ _ => ⟨_, enterActive_produces _ s⟩) (fun _ _ => enterStandby_reports _ s)
    fun _ => ⟨_, trip_produces _ s⟩

theorem statusWork_reports (s : State) : Reports s (statusWork s) := by
  have hbuild (v : State) : Reports v (buildStatus v) := reports_of_frame (buildStatus_sameBut v) (by decide)
  unfold statusWork endStoreLeave
  dsimp only
  repeat' split
  · exact (endLeave_reports _).after rfl
  · exact (hbuild _).after rfl
  · exact hbuild s

theorem permitRemoved_reports (s : State) : Reports s (permitRemoved s) := by
  have heval : Reports s (evalAvailable s) := reports_of_frame (evalAvailable_sameBut s) (by decide)
  unfold permitRemoved
  split
  case h_3 =>
    split
    · refine Reports.trans ((endLeave_reports _).after rfl) (reports_of_frame (setpointIfFell_sameBut _ _) (by decide))
    · exact heval
  · exact enterStandby_reports _ s
  · exact enterStandby_reports _ s
  all_goals exact heval

theorem advance_reports (i : Nat) (s : State) : Reports s (advance i s) := by
  unfold advance
  dsimp only
  refine Reports.trans ?_ (intervalChange_reports _ _ _)
  split
  · exact reports_of_link rfl
  · exact (produce_reports_some _ _).after rfl

theorem pulseChange_reports (n : Nat) (s : State) : Reports s (pulseChange n s) := by
  unfold pulseChange
  exact (intervalChange_reports n false _).after rfl

theorem boundary_reports (s : State) : Reports s (boundary s) := by
  unfold boundary
  repeat' split
  · exact .refl s
  · exact .refl s
  · exact pulseChange_reports _ s
  · exact reports_of_link rfl
  · exact pulseChange_reports _ s
  · exact .refl s
  · exact pulseChange_reports _ s

theorem arrival_reports (bytes : List Byte) (s : State) : Reports s (arrival bytes s) := by
  unfold arrival receiveFrame
  repeat' split
  · exact .refl s
  · exact .refl s
  · exact .refl s
  · exact addressConflict_reports s
  · exact enqueue_reports _ s
  · exact .refl s

end Sys2Proof.Machine
end

section
/-! PROOFS. The laws of TRIP OUT, the latches, the mode of M_NATIVE, the wake delay and PERMIT, kept by every step (R104, R107, R109, R111, R112, R114,
R115, R121). -/

namespace Sys2Proof.Machine

/-! ## TRIP OUT (R115) -/

theorem tripOutLaw_only : Only [.state, .tripOut] TripOutLaw := by
  intro s u h hs
  have hstate : u.seq.state = s.seq.state := h .state (by simp)
  have hout : u.seq.tripOut = s.seq.tripOut := h .tripOut (by simp)
  simpa [TripOutLaw, hstate, hout] using hs

/-- TRIP OUT is deasserted in every state but TRIPPED and CONFLICT. -/
theorem tripOutLaw_of_clear {s : State} (h : s.seq.tripOut = false) (ht : s.seq.state ≠ .tripped) (hc : s.seq.state ≠ .conflict) :
    TripOutLaw s := by simp [TripOutLaw, h, ht, hc]

theorem tripOutLaw_of_asserted {s : State} (h : s.seq.tripOut = true) (ht : s.seq.state = .tripped ∨ s.seq.state = .conflict) :
    TripOutLaw s := by simp [TripOutLaw, h, ht]

theorem tripOutLaw_endLeave (s : State) : TripOutLaw (endLeave s) := tripOutLaw_of_clear (by simp) (by simp) (by simp)

theorem tripOutLaw_trip (ms : List Monitor) (s : State) : TripOutLaw (trip ms s) := tripOutLaw_of_asserted (by simp) (by simp)

theorem tripOutLaw_enterStandby (cause : Cause) (s : State) : TripOutLaw (enterStandby cause s) :=
  tripOutLaw_of_clear (by simp) (by simp) (by simp)

theorem tripOutLaw_enterActive (cause : Cause) (s : State) : TripOutLaw (enterActive cause s) :=
  tripOutLaw_of_clear (by simp) (by simp) (by simp)

theorem TripOutLaw.clear {s : State} (h : TripOutLaw s) (ht : s.seq.state ≠ .tripped) (hc : s.seq.state ≠ .conflict) :
    s.seq.tripOut = false := by simpa [TripOutLaw, ht, hc] using h

/-- The goals of the law of TRIP OUT: the changes of state set it or clear it, whatever it was. -/
theorem tripOutLaw_keptByEvents : KeptByEvents [.state, .tripOut] [.state, .tripOut] TripOutLaw TripOutLaw where
  only := tripOutLaw_only
  onlyWeak := tripOutLaw_only
  weaken := fun _ h => h
  read := fun s => tripOutLaw_only.readUpper (by decide) fun v _ => tripOutLaw_endLeave v
  sealing := fun s _ => .inr fun _ => tripOutLaw_of_clear (by rw [acceptSeal_seq]) (by simp) (by simp)
  record := fun form s _ _ => .inr fun h => tripOutLaw_only.recordWork (by decide) (fun _ _ => tripOutLaw_trip _ _)
    fun _ => (tripOutLaw_only.keeps (recordJudged_sameBut _ s) (by decide) h)
  clear := fun s _ _ => .inr <| tripOutLaw_only.clearWork (by decide) (fun _ _ => tripOutLaw_enterActive _ _)
    fun _ => tripOutLaw_enterStandby _ _
  leaveNow := fun s => .inr fun _ => tripOutLaw_endLeave s
  leaveRunning := fun s hr _ => .inr fun h =>
    tripOutLaw_of_clear (h.clear (by simp [hr]) (by simp [hr])) (by simp) (by simp)
  leaveStore := fun s ha => .inr fun h =>
    tripOutLaw_of_clear (by simpa [startStoreLeaving] using h.clear (by simp [ha]) (by simp [ha])) (by simp) (by simp)
  restart := fun s _ => .inr fun _ => tripOutLaw_of_clear rfl (by simp) (by simp)
  powerOn := fun s => .inr fun _ => tripOutLaw_of_clear rfl (by simp) (by simp)
  permitDown := fun s => .inr fun h => tripOutLaw_only.permitRemoved (by decide) (fun _ => tripOutLaw_enterStandby _ _)
    (fun _ _ => tripOutLaw_only.keeps (setpointIfFell_sameBut _ _) (by decide) (tripOutLaw_endLeave _)) fun _ _ _ => h
  arrived := fun bytes s => .inr <| tripOutLaw_only.arrival (by decide) bytes fun _ => tripOutLaw_of_asserted (by simp) (by simp)
  statusDue := fun s _ => .inr <| tripOutLaw_only.statusWork (by decide) fun v _ _ _ => tripOutLaw_endLeave v
  control := fun k s _ _ _ => .inr <| tripOutLaw_only.expiryStages (by decide) (fun v _ _ => tripOutLaw_endLeave v)
    fun v h _ _ hv => tripOutLaw_of_clear (h.clear (by simp [hv]) (by simp [hv])) (by simp [enterStarting]) (by simp [enterStarting])
  window := fun s _ => .inr fun _ => endWindow_induction (fun _ _ => tripOutLaw_enterActive _ _)
    (fun _ _ => tripOutLaw_enterStandby _ _) fun _ => tripOutLaw_trip _ _
  started := fun s hs => .inr fun h =>
    tripOutLaw_of_clear (h.clear (by simp [hs]) (by simp [hs])) (by simp) (by simp)
  stoodBy := fun s _ => .inr fun _ => tripOutLaw_enterStandby _ s
  stale := fun s _ => .inr fun h => tripOutLaw_only.staleWork (by decide) (fun _ _ => tripOutLaw_trip _ _)
    fun _ => (tripOutLaw_only.keeps (staleJudged_sameBut s) (by decide) h)

/-! ## The mode of M_NATIVE and the wake delay (R104, R121) -/

theorem nativeModeLaw_only : Only [.inForce] NativeModeLaw := by
  intro s u h hs
  have hforce : u.inForce = s.inForce := h .inForce (by simp)
  simpa [NativeModeLaw, hforce] using hs

theorem nativeModeLaw_keptByEvents : KeptByEvents [.inForce] [.inForce] NativeModeLaw NativeModeLaw where
  only := nativeModeLaw_only
  onlyWeak := nativeModeLaw_only
  weaken := fun _ h => h
  read := fun s => nativeModeLaw_only.readUpper (by decide) fun v h => by simpa [NativeModeLaw] using h
  sealing := fun s _ => .inr fun _ => by simp [NativeModeLaw]
  restart := fun s _ => .inr fun _ => rfl
  powerOn := fun s => .inr fun _ => rfl

theorem wakeDelayLaw_only : Only [.items, .inForce] WakeDelayLaw := by
  intro s u h hs
  have hitems : u.items = s.items := h .items (by simp)
  have hforce : u.inForce = s.inForce := h .inForce (by simp)
  simpa [WakeDelayLaw, hitems, hforce] using hs

/-- A value taken into a range lies in it. -/
theorem itemRange_mem {lo hi : Nat} (h : lo ≤ hi) (v : Int) : lo ≤ (itemRange lo hi v).1 ∧ (itemRange lo hi v).1 ≤ hi := by
  simp only [itemRange, clampInt]
  split
  · omega
  · split <;> omega

/-- SET ITEM leaves the wake delay, or takes it into 2 to 60 (R104). -/
theorem setItemValue_wakeDelay {i items : Items} {item monitor : Nat} {v : Int} {clamped : Bool}
    (h : setItemValue i item monitor v = .taken items clamped) :
    items.wakeDelay = i.wakeDelay ∨ (2 ≤ items.wakeDelay ∧ items.wakeDelay ≤ 60) := by
  have hrange := itemRange_mem (lo := 2) (hi := 60) (by decide) v
  unfold setItemValue setMonitorItem setMode setDeglitch setBlanking setPlainItem takeRange at h
  repeat' split at h
  all_goals cases h
  all_goals first | exact .inl rfl | exact .inr hrange

theorem wakeDelayLaw_keptByEvents : KeptByEvents [.items, .inForce] [.items, .inForce] WakeDelayLaw WakeDelayLaw where
  only := wakeDelayLaw_only
  onlyWeak := wakeDelayLaw_only
  weaken := fun _ h => h
  read := fun s => wakeDelayLaw_only.readUpper (by decide) fun v h => by simpa [WakeDelayLaw] using h
  setItem := fun s _ _ _ items _ htaken => .inr fun h => by
    refine ⟨?_, h.2⟩
    obtain hsame | hrange := setItemValue_wakeDelay htaken
    · simpa [hsame] using h.1
    · exact hrange
  sealing := fun s _ => .inr fun h => by simpa [WakeDelayLaw, deriveInForce] using h.1
  restart := fun s _ => .inr fun _ => by simp [WakeDelayLaw, restarted, State.reset]
  powerOn := fun s => .inr fun _ => by simp [WakeDelayLaw, poweredOn, State.reset]

/-! ## The latches (R112, R114) -/

/-- The parts of the law of latches. -/
def latchParts : List Part := [.state, .native, .thermal, .margin, .stale, .zoneHigh]

/-- Where the parts of the monitors are the same, so are the monitors. -/
theorem monitor_of_parts {s u : State} {ds : List Part} (hsub : [Part.native, .thermal, .margin, .stale, .zoneHigh] ⊆ ds)
    (h : ∀ p ∈ ds, p.same s u) (m : Monitor) : u.bank.monitor m = s.bank.monitor m := by
  cases m
  · exact h .native (hsub (by simp))
  · exact h .thermal (hsub (by simp))
  · exact h .margin (hsub (by simp))
  · exact h .stale (hsub (by simp))
  · exact h .zoneHigh (hsub (by simp))

theorem latchLaw_only : Only latchParts LatchLaw := by
  intro s u h hs
  have hmonitor := monitor_of_parts (by decide) h
  have hstate : u.seq.state = s.seq.state := h .state (by decide)
  simpa [LatchLaw, hmonitor, hstate] using hs

theorem latchLaw_of_idle {s : State} (h : s.seq.state.inService = false) : LatchLaw s := fun hs => by rw [h] at hs; cases hs

theorem latchLaw_of_none {s : State} (h : ∀ m, (s.bank.monitor m).cond ≠ .latched) : LatchLaw s := fun _ => h

/-- A law of latches carried to a state with no more latches that is in service only where the first is. -/
theorem LatchLaw.mono {s u : State} (h : LatchLaw s) (hstate : u.seq.state.inService = true → s.seq.state.inService = true)
    (hlatched : ∀ m, (u.bank.monitor m).cond = .latched → (s.bank.monitor m).cond = .latched) : LatchLaw u :=
  fun hu m hl => h (hstate hu) m (hlatched m hl)

theorem enterStandby_latched (cause : Cause) (s : State) (m : Monitor) :
    ((enterStandby cause s).bank.monitor m).cond = .latched ↔ (s.bank.monitor m).cond = .latched := by
  rw [monitor_of_parts (ds := [.native, .thermal, .margin, .stale, .zoneHigh]) (by decide)
    (fun p hp => enterStandby_ofFallen cause s p (by revert p; decide)) m]
  exact fallen_latched s m

theorem enterActive_latched (cause : Cause) (s : State) (m : Monitor) :
    ((enterActive cause s).bank.monitor m).cond = .latched ↔ (s.bank.monitor m).cond = .latched := by
  rw [monitor_of_parts (ds := [.native, .thermal, .margin, .stale, .zoneHigh]) (by decide)
    (fun p hp => enterActive_ofStopped cause s p (by revert p; decide)) m]
  exact Iff.rfl

theorem latchLaw_endLeave (s : State) : LatchLaw (endLeave s) := latchLaw_of_idle rfl

theorem latchLaw_trip (ms : List Monitor) (s : State) : LatchLaw (trip ms s) := latchLaw_of_idle (by rw [trip_state]; rfl)

theorem latchLaw_enterStandby (cause : Cause) {s : State} (h : ∀ m, (s.bank.monitor m).cond ≠ .latched) :
    LatchLaw (enterStandby cause s) := latchLaw_of_none fun m hl => h m ((enterStandby_latched cause s m).mp hl)

theorem latchLaw_enterActive (cause : Cause) {s : State} (h : ∀ m, (s.bank.monitor m).cond ≠ .latched) :
    LatchLaw (enterActive cause s) := latchLaw_of_none fun m hl => h m ((enterActive_latched cause s m).mp hl)

theorem latchLaw_clearWork {s : State} (hpresent : ¬ (s.seq.state = .tripped ∧ latchedPresent s = true)) (h : LatchLaw s) :
    LatchLaw (clearWork s) := by
  have hform (v : State) (hv : LatchLaw v) : LatchLaw (formPublished (evalAvailable v)) :=
    latchLaw_only.keeps ((evalAvailable_sameBut v).comp (formPublished_sameBut _) (List.Subset.refl _)) (by decide) hv
  refine hform _ ?_
  split
  · next ht =>
    have hnone := unlatchGone_none (s := s) fun hp => hpresent ⟨ht, hp⟩
    unfold leaveTripped
    dsimp only
    split
    · exact latchLaw_enterActive _ hnone
    · exact latchLaw_enterStandby _ hnone
  · exact h.mono id fun m hl => (unlatch_latched _ (by rwa [unlatchGone_monitor] at hl)).1

theorem latchedSet_eq_nil_iff (b : Bank) : b.latchedSet = [] ↔ ∀ m, (b.monitor m).cond ≠ .latched := by
  rw [← latchedSet_isEmpty_iff, List.isEmpty_iff]

theorem latchLaw_keptByEvents : KeptByEvents latchParts latchParts LatchLaw LatchLaw where
  only := latchLaw_only
  onlyWeak := latchLaw_only
  weaken := fun _ h => h
  read := fun s => latchLaw_only.readUpper (by decide) fun v _ => latchLaw_endLeave v
  sealing := fun s _ => .inr fun _ => latchLaw_of_idle (by rw [acceptSeal_state]; rfl)
  record := fun form s _ _ => .inr fun h => latchLaw_only.recordWork (by decide) (fun _ _ => latchLaw_trip _ _) fun hms =>
    have hstate := (recordJudged_sameBut (Measurement.ofForm form) s).state (by decide)
    hms.elim (fun hnil => h.mono (by rw [hstate]; exact id) fun m => (recordJudged_keepsLatched hnil m).mp)
      fun hidle => latchLaw_of_idle (by rw [hstate, hidle])
  clear := fun s _ hpresent => .inr (latchLaw_clearWork hpresent)
  leaveNow := fun s => .inr fun _ => latchLaw_endLeave s
  leaveRunning := fun s hr _ => .inr fun h => h.mono (fun _ => by rw [hr]; rfl) fun m => id
  leaveStore := fun s ha => .inr fun h => h.mono (fun _ => by rw [ha]; rfl) fun m => by simp [startStoreLeaving]
  restart := fun s _ => .inr fun _ => latchLaw_of_idle rfl
  powerOn := fun s => .inr fun _ => latchLaw_of_idle rfl
  permitDown := fun s => .inr fun h => latchLaw_only.permitRemoved (by decide)
    (fun hrun => latchLaw_enterStandby _ (h (by obtain hr | hr := hrun <;> exact hr ▸ rfl)))
    (fun _ _ => latchLaw_only.keeps (setpointIfFell_sameBut _ _) (by decide) (latchLaw_endLeave _)) fun _ _ _ => h
  arrived := fun bytes s => .inr <| latchLaw_only.arrival (by decide) bytes fun _ =>
    latchLaw_of_idle (by rw [addressConflict_state]; rfl)
  statusDue := fun s _ => .inr <| latchLaw_only.statusWork (by decide) fun v _ _ _ => latchLaw_endLeave v
  control := fun k s _ _ _ => .inr <| latchLaw_only.expiryStages (by decide) (fun v _ _ => latchLaw_endLeave v)
    fun v h _ _ hv => h.mono (fun _ => by rw [hv]; rfl) fun m => id
  window := fun s _ => .inr fun _ => endWindow_induction
    (fun hset _ => latchLaw_enterActive _ ((latchedSet_eq_nil_iff _).mp hset))
    (fun hset _ => latchLaw_enterStandby _ ((latchedSet_eq_nil_iff _).mp hset)) fun _ => latchLaw_trip _ _
  started := fun s hs => .inr fun h => h.mono (fun _ => by rw [hs]; rfl) fun m => by cases m <;> exact id
  stoodBy := fun s hr => .inr fun h => latchLaw_enterStandby _ (h (by rw [hr]; rfl))
  stale := fun s _ => .inr fun h => latchLaw_only.staleWork (by decide) (fun _ _ => latchLaw_trip _ _) fun hms =>
    have hstate := (staleJudged_sameBut s).state (by decide)
    hms.elim (fun hnil => h.mono (by rw [hstate]; exact id) (staleJudged_keepsLatched hnil))
      fun hidle => latchLaw_of_idle (by rw [hstate, hidle])

/-! ## PERMIT (6.1, R107, R109, R111) -/

theorem permitLaw_only : Only [.state, .inForce, .permit] PermitLaw := by
  intro s u h hs
  have hstate : u.seq.state = s.seq.state := h .state (by simp)
  have hforce : u.inForce = s.inForce := h .inForce (by simp)
  have hpermit : u.permit = s.permit := h .permit (by simp)
  simpa [PermitLaw, State.isTrain, State.isStore, hstate, hforce, hpermit] using hs

/-- In the other states the law asks nothing. -/
theorem permitLaw_of_state {s : State} (h1 : s.seq.state ≠ .starting) (h2 : s.seq.state ≠ .running) (h3 : s.seq.state ≠ .leaving)
    (h4 : s.seq.state ≠ .active) : PermitLaw s := by simp [PermitLaw, h1, h2, h3, h4]

theorem permitLaw_of_permit {s : State} (h : s.permit = true) (ha : s.seq.state ≠ .active) : PermitLaw s := by
  simp [PermitLaw, h, ha]

theorem permitLaw_of_idle {s : State} (h1 : s.seq.state ≠ .starting) (h2 : s.seq.state ≠ .running)
    (h3 : s.seq.state = .leaving → s.isTrain = false) (h4 : s.seq.state = .active → s.isStore = true) : PermitLaw s := by
  refine ⟨fun h => ?_, h4⟩
  obtain hs | hs | ⟨hs, ht⟩ := h
  · exact absurd hs h1
  · exact absurd hs h2
  · rw [h3 hs] at ht
    cases ht

theorem permitLaw_enterActive (cause : Cause) {s : State} (h : s.isStore = true) : PermitLaw (enterActive cause s) := by
  have hforce : (enterActive cause s).inForce = s.inForce := by simp
  simpa [PermitLaw, State.isStore, hforce] using h

theorem permitLaw_endLeave (s : State) : PermitLaw (endLeave s) := permitLaw_of_state (by simp) (by simp) (by simp) (by simp)

theorem permitLaw_trip (ms : List Monitor) (s : State) : PermitLaw (trip ms s) :=
  permitLaw_of_state (by simp) (by simp) (by simp) (by simp)

theorem permitLaw_enterStandby (cause : Cause) (s : State) : PermitLaw (enterStandby cause s) :=
  permitLaw_of_state (by simp) (by simp) (by simp) (by simp)

theorem isTrain_of_isStore {s : State} (h : s.isStore = true) : s.isTrain = false := by
  have hk : s.inForce.kind = some .H := by simpa [State.isStore] using h
  simp [State.isTrain, hk]

/-- A wake counter at the delay has risen, and it rises only while AVAILABLE is set (R67). -/
theorem available_of_wake {s : State} {k : Kind} (hdelay : 2 ≤ s.inForce.items.wakeDelay)
    (h : nextWake s k = s.inForce.items.wakeDelay) : s.seq.available = true := by
  unfold nextWake at h
  split at h
  · next hcounts => simp only [wakeCounts, Bool.and_eq_true] at hcounts; exact hcounts.1.1.2
  · omega

/-- The law of PERMIT with the range of the wake delay. -/
def PermitWakeLaw (s : State) : Prop := PermitLaw s ∧ WakeDelayLaw s

/-- The parts of the law of PERMIT with the wake delay. -/
def permitParts : List Part := [.state, .items, .inForce, .permit]

theorem permitWakeLaw_only : Only permitParts PermitWakeLaw :=
  (permitLaw_only.mono (by decide)).and (wakeDelayLaw_only.mono (by decide))

/-- The same items and values in force. -/
theorem WakeDelayLaw.congr {s u : State} (h : WakeDelayLaw s) (hitems : u.items = s.items) (hforce : u.inForce = s.inForce) :
    WakeDelayLaw u := by simpa [WakeDelayLaw, hitems, hforce] using h

theorem permitWakeLaw_endLeave {s : State} (h : PermitWakeLaw s) : PermitWakeLaw (endLeave s) :=
  ⟨permitLaw_endLeave s, h.2.congr (by simp) (by simp)⟩

theorem permitWakeLaw_trip (ms : List Monitor) {s : State} (h : WakeDelayLaw s) : PermitWakeLaw (trip ms s) :=
  ⟨permitLaw_trip ms s, h.congr (by simp) (by simp)⟩

theorem permitWakeLaw_enterStandby (cause : Cause) {s : State} (h : WakeDelayLaw s) : PermitWakeLaw (enterStandby cause s) :=
  ⟨permitLaw_enterStandby cause s, h.congr (by simp) (by simp)⟩

theorem permitWakeLaw_enterActive (cause : Cause) {s : State} (hstore : s.isStore = true) (h : WakeDelayLaw s) :
    PermitWakeLaw (enterActive cause s) := ⟨permitLaw_enterActive cause hstore, h.congr (by simp) (by simp)⟩

theorem permitWakeLaw_keptByEvents : KeptByEvents permitParts permitParts PermitWakeLaw PermitWakeLaw where
  only := permitWakeLaw_only
  onlyWeak := permitWakeLaw_only
  weaken := fun _ h => h
  read := fun s => permitWakeLaw_only.readUpper (by decide) fun v h =>
    permitWakeLaw_only.keeps (sendSetpoint_sameBut _) (by decide) (permitWakeLaw_endLeave h)
  setItem := fun s _ _ _ items _ htaken => .inr fun h => ⟨h.1, by
    refine ⟨?_, h.2.2⟩
    obtain hsame | hrange := setItemValue_wakeDelay htaken
    · simpa [hsame] using h.2.1
    · exact hrange⟩
  sealing := fun s _ => .inr fun h =>
    ⟨permitLaw_of_state (by simp) (by simp) (by simp) (by simp), by simpa [WakeDelayLaw, deriveInForce] using h.2.1⟩
  record := fun form s _ _ => .inr fun h =>
    have hjudged := permitWakeLaw_only.keeps (recordJudged_sameBut (Measurement.ofForm form) s) (by decide) h
    permitWakeLaw_only.recordWork (by decide) (fun _ _ => permitWakeLaw_trip _ hjudged.2) fun _ => hjudged
  clear := fun s _ _ => .inr fun h => permitWakeLaw_only.clearWork (by decide)
    (fun _ hstore => permitWakeLaw_enterActive _ hstore h.2) (fun _ => permitWakeLaw_enterStandby _ h.2) h
  leaveNow := fun s => .inr fun h =>
    permitWakeLaw_only.keeps (sendSetpoint_sameBut _) (by decide) (permitWakeLaw_endLeave h)
  leaveRunning := fun s hr _ => .inr fun h =>
    ⟨permitLaw_of_permit (by simpa [startLeaving] using h.1.1 (.inr (.inl hr))) (by simp), h.2⟩
  leaveStore := fun s ha => .inr fun h => by
    have hforce : (startStoreLeaving s).inForce = s.inForce := by simp [startStoreLeaving]
    have htrain : (startStoreLeaving s).isTrain = false := by
      simpa [State.isTrain, hforce] using isTrain_of_isStore (h.1.2 ha)
    exact ⟨by simp [PermitLaw, htrain], h.2.congr (by simp [startStoreLeaving]) hforce⟩
  restart := fun s _ => .inr fun _ =>
    ⟨permitLaw_of_state (by simp) (by simp) (by simp) (by simp), by simp [WakeDelayLaw, restarted, State.reset]⟩
  powerOn := fun s => .inr fun _ =>
    ⟨permitLaw_of_state (by simp) (by simp) (by simp) (by simp), by simp [WakeDelayLaw, poweredOn, State.reset]⟩
  permitUp := fun s => .inr fun h => ⟨⟨fun _ => rfl, h.1.2⟩, h.2⟩
  permitDown := fun s => .inr fun h => permitWakeLaw_only.permitRemoved (by decide)
    (fun _ => permitWakeLaw_enterStandby _ h.2)
    (fun _ _ => permitWakeLaw_only.keeps (setpointIfFell_sameBut _ _) (by decide)
      ⟨permitLaw_endLeave _, h.2.congr (by simp) (by simp)⟩)
    fun hstarting hrunning hleaving => ⟨permitLaw_of_idle hstarting hrunning hleaving h.1.2, h.2⟩
  arrived := fun bytes s => .inr fun h => permitWakeLaw_only.arrival (by decide) bytes (fun _ =>
    ⟨permitLaw_of_state (by simp) (by simp) (by simp) (by simp), h.2.congr (by simp) (by simp)⟩) h
  statusDue := fun s _ => .inr <| permitWakeLaw_only.statusWork (by decide) fun v _ _ => permitWakeLaw_endLeave
  control := fun k s _ _ _ => .inr <| permitWakeLaw_only.expiryStages (by decide) (fun v _ => permitWakeLaw_endLeave)
    fun v h hlaw hwake _ =>
      have havailable := available_of_wake h.2.2.1 hwake
      ⟨permitLaw_of_permit (by simpa [enterStarting] using (hlaw.mp havailable).2.1) (by simp [enterStarting]),
        h.2.congr (by simp) (by simp)⟩
  window := fun s _ => .inr fun h => endWindow_induction (fun _ hstore => permitWakeLaw_enterActive _ hstore h.2)
    (fun _ _ => permitWakeLaw_enterStandby _ h.2) fun _ => permitWakeLaw_trip _ h.2
  started := fun s hs => .inr fun h =>
    ⟨permitLaw_of_permit (by simpa [enterRunning] using h.1.1 (.inl hs)) (by simp), h.2⟩
  stoodBy := fun s _ => .inr fun h => permitWakeLaw_enterStandby _ h.2
  stale := fun s _ => .inr fun h =>
    have hjudged := permitWakeLaw_only.keeps (staleJudged_sameBut s) (by decide) h
    permitWakeLaw_only.staleWork (by decide) (fun _ _ => permitWakeLaw_trip _ hjudged.2) fun _ => hjudged

/-- Settles O58: each law by the goals of its events. -/
theorem stepKeepsTripAndPermitLaws : Obligations.StepKeepsTripAndPermitLaws :=
  ⟨tripOutLaw_keptByEvents.keptByStep, latchLaw_keptByEvents.keptByStep, nativeModeLaw_keptByEvents.keptByStep,
    wakeDelayLaw_keptByEvents.keptByStep, permitWakeLaw_keptByEvents.keptByStep⟩

end Sys2Proof.Machine
end

section
/-! PROOFS. The law of AVAILABLE alone is not kept: a monitor that no rule could have latched in its mode loses its latch at a stale expiry, and a station
that is no train reads no U after it (R51, R130). -/

namespace Sys2Proof.Machine

/-- A store in STANDBY whose M_STALE is LATCHED while its mode in force is WARN: AVAILABLE is clear as its conditions say. -/
def latchedWarnStore : State :=
  { inForce := { items := { kind := some .H }, modes := { stale := .warn } }
    seq := { state := .standby }
    permit := true
    share := { lastU := 1 }
    bank := { stale := { cond := .latched } }
    link := { staleTimer := some 0 }
    pending := [.staleTimerExpiry] }

/-- The same store after the expiry: M_STALE is ACTIVE, and AVAILABLE was not evaluated. -/
def activeWarnStore : State :=
  { latchedWarnStore with
    pending := []
    bank := { stale := ⟨.active, 0, 0, true⟩ }
    link := { staleMark := true, reports := [⟨0, .monitorWarn .stale .warn⟩], reportNo := 1 } }

theorem step_latchedWarnStore : step latchedWarnStore = .next activeWarnStore := rfl

/-- Refutes O57: every condition of AVAILABLE holds after the step, and the flag is still clear. -/
theorem not_stepKeepsAvailableLaw : ¬ Obligations.StepKeepsAvailableLaw := by
  intro h
  have hlatched : (latchedWarnStore.bank.monitor .stale).cond = .latched := rfl
  have hbefore : AvailableLaw latchedWarnStore := ⟨(fun h => nomatch h), fun hall => absurd hlatched (hall.2.2.1 .stale)⟩
  have hafter := h latchedWarnStore activeWarnStore hbefore step_latchedWarnStore
  exact nomatch hafter.mpr ⟨.inl rfl, rfl, fun m => by cases m <;> decide, by decide⟩

end Sys2Proof.Machine
end

section
/-! PROOFS. The law of the exchange, and that a store keeps no time, no schedule, no account and no command (R24, R136, R148, R149, R154). -/

namespace Sys2Proof.Machine

/-! ## The exchange (R148, R149) -/

theorem linkLaw_only : Only [.exchange, .sending] LinkLaw := by
  intro s u h hs
  obtain ⟨hkept, howed⟩ : u.link.kept = s.link.kept ∧ u.link.owed = s.link.owed := h .exchange (by simp)
  have hsending : u.link.sending = s.link.sending := h .sending (by simp)
  simpa [LinkLaw, hkept, howed, hsending] using hs

/-- With no reply owed, the law says that no reply is being sent. -/
theorem LinkLaw.idle {s : State} (h : LinkLaw s) (howed : s.link.owed = none) {x : Sending} (hx : s.link.sending = some x) :
    x.isReply = false := by
  cases hr : x.isReply with
  | false => rfl
  | true => simpa [howed] using h.2 x hx hr

theorem linkLaw_transmit {s : State} (h : LinkLaw s) : LinkLaw (transmit s) := by
  unfold transmit
  repeat' split
  · exact h
  · next r hr => exact ⟨h.1, fun x hx _ => by simp [hr]⟩
  · next howed p _ => exact ⟨h.1, fun x hx hreply => by cases hx; cases hreply⟩
  · next howed _ r rs _ => exact ⟨h.1, fun x hx hreply => by cases hx; cases hreply⟩
  · exact h

theorem linkLaw_recordSent {s : State} (h : LinkLaw s) : LinkLaw (recordSent s) := by
  unfold recordSent
  split
  · exact h
  · refine ⟨fun r hr => ?_, fun x hx => nomatch hx⟩
    dsimp only at hr ⊢
    split at hr
    · cases hr
    · exact h.1 r hr

theorem linkLaw_resend {s : State} (howed : s.link.owed = none) (h : LinkLaw s) : LinkLaw (resend s) := by
  refine ⟨fun r hr => hr, fun x hx hreply => ?_⟩
  rw [h.idle howed hx] at hreply
  cases hreply

theorem linkLaw_oweReply (code tag : Byte) (body : List Byte) (x : Handled) : LinkLaw (oweReply code tag body x) := by
  refine ⟨fun r hr => ?_, fun _ _ _ => rfl⟩
  simpa [oweReply] using hr

theorem linkLaw_restarted {s : State} (howed : s.link.owed = none) (h : LinkLaw s) : LinkLaw (restarted s) := by
  refine ⟨(fun r hr => nomatch hr), fun x hx hreply => ?_⟩
  rw [h.idle howed hx] at hreply
  cases hreply

theorem linkLaw_keptByEvents : KeptByEvents [.exchange, .sending] [.exchange, .sending] LinkLaw LinkLaw where
  only := linkLaw_only
  onlyWeak := linkLaw_only
  weaken := fun _ h => h
  read := fun s => linkLaw_only.readUpper (by decide) fun v h =>
    linkLaw_only.keeps ((endLeave_sameBut v).comp (sendSetpoint_sameBut _) (List.Subset.refl _)) (by decide) h
  restart := fun s howed => .inr (linkLaw_restarted howed)
  resent := fun s howed => .inr (linkLaw_resend howed)
  reply := fun code tag body x => .inr fun _ => linkLaw_oweReply code tag body x
  transmitted := fun s => .inr linkLaw_transmit
  sent := fun s => .inr linkLaw_recordSent
  powerOn := fun s => .inr fun _ => by simp [LinkLaw, poweredOn, State.reset]

/-! ## A store (R24, R136, R154) -/

/-- The parts of the law of a store. -/
def storeLawParts : List Part :=
  [.inForce, .clock, .noms, .orders, .target, .openRecord, .energies, .ownPoint, .peerPoints, .log, .command]

/-- The parts of the delivery account. -/
def accountParts : List Part := [.openRecord, .energies, .ownPoint, .peerPoints, .log]

theorem account_of_parts {s u : State} (h : ∀ p ∈ accountParts, p.same s u) : u.account = s.account := by
  have hopen : u.account.openRec = s.account.openRec := h .openRecord (by decide)
  have henergies : u.account.ownAcc = s.account.ownAcc ∧ u.account.plantAcc = s.account.plantAcc := h .energies (by decide)
  have hown : u.account.ownPoint = s.account.ownPoint := h .ownPoint (by decide)
  have hpeer : u.account.peerPoints = s.account.peerPoints := h .peerPoints (by decide)
  have hlog : u.account.log = s.account.log := h .log (by decide)
  rcases hu : u.account with ⟨⟩
  rcases hv : s.account with ⟨⟩
  simp_all

theorem SameBut.account {ps : List Part} {s u : State} (h : SameBut ps s u) (hd : ∀ p ∈ accountParts, p ∉ ps) :
    u.account = s.account := account_of_parts fun p hp => h p (hd p hp)

theorem storeLaw_only : Only storeLawParts StoreLaw := by
  intro s u h hs
  have hforce : u.inForce = s.inForce := h .inForce (by decide)
  have hclock : u.clock = s.clock := h .clock (by decide)
  have hnoms : u.book.noms = s.book.noms := h .noms (by decide)
  have horders : u.book.orders = s.book.orders := h .orders (by decide)
  have htarget : u.book.target = s.book.target := h .target (by decide)
  have hcommand : u.share.command = s.share.command := h .command (by decide)
  have haccount := account_of_parts fun p hp => h p (by revert p; decide)
  simpa [StoreLaw, State.isStore, hforce, hclock, hnoms, horders, htarget, haccount, hcommand] using hs

theorem storeLaw_of_notStore {s : State} (h : s.isStore = false) : StoreLaw s := fun hs => by rw [h] at hs; cases hs

theorem isStore_of_isTrain {s : State} (h : s.isTrain = true) : s.isStore = false := by
  cases hs : s.isStore with
  | false => rfl
  | true => rw [isTrain_of_isStore hs] at h; cases h

/-- A store that keeps no account: what is noted or credited in none stays none. -/
theorem StoreLaw.of_command_account {s u : State} (h : StoreLaw s) (hframe : ∀ p ∈ [Part.inForce, .clock, .noms, .orders, .target], p.same s u)
    (hcommand : u.share.command = 0) (haccount : s.account = {} → u.account = {}) : StoreLaw u := by
  intro hs
  have hforce : u.inForce = s.inForce := hframe .inForce (by decide)
  have hclock : u.clock = s.clock := hframe .clock (by decide)
  have hnoms : u.book.noms = s.book.noms := hframe .noms (by decide)
  have horders : u.book.orders = s.book.orders := hframe .orders (by decide)
  have htarget : u.book.target = s.book.target := hframe .target (by decide)
  obtain ⟨h1, h2, h3, h4, h5, -⟩ := h (by simpa [State.isStore, hforce] using hs)
  exact ⟨hclock.trans h1, hnoms.trans h2, horders.trans h3, htarget.trans h4, haccount h5, hcommand⟩

theorem noteCut_none {s : State} (h : s.account = {}) (reason : CutReason) (cut : CutReport) : (noteCut reason cut s).account = {} := by
  simp [noteCut, h]

theorem noteTripped_none {s : State} (h : s.account = {}) : (noteTripped s).account = {} := by simp [noteTripped, h]

theorem creditAll_none {s : State} (h : s.account = {}) : creditAll s = {} := by
  simp [creditAll, h, Account.addOwn, Account.addPlant]

theorem endLeave_account_none {s : State} (h : s.account = {}) : (endLeave s).account = {} := by
  have hcut := noteCut_none h .leave (cutReport s)
  have hleave : (accountLeave (noteCut .leave (cutReport s) s)).account = {} := by simp [accountLeave, creditAll_none hcut]
  simpa [endLeave, standDown, enterState] using hleave

theorem accountDrop_none {s : State} (h : s.account = {}) (address upto : Nat) : accountDrop address upto s = s := by
  simp [accountDrop, findPoint, h]

theorem storeLaw_endLeave {s : State} (h : StoreLaw s) : StoreLaw (endLeave s) :=
  h.of_command_account (fun p hp => endLeave_sameBut s p (by revert p; decide)) (by simp) endLeave_account_none

theorem storeLaw_trip (ms : List Monitor) {s : State} (h : StoreLaw s) : StoreLaw (trip ms s) := by
  refine h.of_command_account (fun p hp => trip_sameBut ms s p (by revert p; decide)) (by simp) fun ha => ?_
  simpa [trip] using noteTripped_none (noteCut_none (by simpa using ha) .trip (cutReport s))

theorem storeLaw_enterStandby (cause : Cause) {s : State} (h : StoreLaw s) : StoreLaw (enterStandby cause s) :=
  h.of_command_account (fun p hp => enterStandby_sameBut cause s p (by revert p; decide)) (by simp) fun ha =>
    ((enterStandby_sameBut cause s).account (by decide)).trans ha

theorem storeLaw_enterActive (cause : Cause) {s : State} (h : StoreLaw s) : StoreLaw (enterActive cause s) :=
  storeLaw_only.keeps (enterActive_sameBut cause s) (by decide) h

theorem storeLaw_addressConflict {s : State} (h : StoreLaw s) : StoreLaw (addressConflict s) := by
  refine h.of_command_account (fun p hp => addressConflict_sameBut s p (by revert p; decide)) (by simp) fun ha => ?_
  unfold addressConflict
  dsimp only
  rw [(readIfCapChanged_sameBut _ (by simp [StationState.loaded])).account (by decide)]
  simpa using noteTripped_none (by simpa using ha)

/-- A store reads no U (R49). -/
theorem storeLaw_readUpper {s : State} (h : StoreLaw s) : StoreLaw (readUpper s) := by
  cases hs : s.isStore with
  | true => simpa [readUpper, isTrain_of_isStore hs] using h
  | false => exact storeLaw_of_notStore (by simpa [State.isStore] using hs)

theorem storeLaw_acceptSeal (s : State) : StoreLaw (acceptSeal s) := by
  cases hs : (acceptSeal s).isStore with
  | false => exact storeLaw_of_notStore hs
  | true =>
    have hstore : (enterState .joining .sealed (startStation s)).isStore = true := by
      simpa [State.isStore, startStation] using hs
    unfold acceptSeal
    dsimp only
    rw [if_pos hstore]
    exact fun _ => by simp [sealStore]

/-- A record of the kind's form: a store's leaves the account alone. -/
theorem storeLaw_takeIn {form : MeasureForm} {s : State} (hfits : formFits form s = true) (h : StoreLaw s) :
    StoreLaw (takeIn (Measurement.ofForm form) s) := by
  cases form with
  | train o f p t v => exact storeLaw_of_notStore (by simpa [takeIn, Measurement.ofForm, holdRecord, State.isStore] using isStore_of_isTrain hfits)
  | store zones =>
    exact storeLaw_only.keeps ((holdRecord_sameBut _ s).comp (classifyRecord_sameBut _ _) (List.Subset.refl _)) (by decide) h

theorem storeLaw_statusFrameWork (f : StatusFrame) (tag : Relation) (arr : Nat) {s : State} (h : StoreLaw s) :
    StoreLaw (statusFrameWork f tag arr s) := by
  have hforce : (statusFrameWork f tag arr s).inForce = s.inForce := (statusFrameWork_sameBut f tag arr s).inForce (by decide)
  by_cases ht : s.isTrain = true
  · exact storeLaw_of_notStore (by simpa [State.isStore, hforce] using isStore_of_isTrain ht)
  · unfold statusFrameWork
    dsimp only
    rw [if_neg ht]
    exact storeLaw_only.keeps ((setView_sameBut _ s).comp (produceOpt_sameBut _ _) (List.Subset.refl _)) (by decide) h

theorem storeLaw_freeWork (a : Nat) {s : State} (h : StoreLaw s) : StoreLaw (freeWork a s) := by
  have hframe : SameBut [.view, .reports] s (produce (.peerDropped a) { s with view := s.view.filter fun e => e.address != a }) :=
    (setView_sameBut _ s).comp (produce_sameBut _ _) (by decide)
  have hdropped := storeLaw_only.keeps hframe (by decide) h
  intro hs
  have hstore : s.isStore = true := by simpa [State.isStore, freeWork] using hs
  obtain ⟨-, -, -, -, haccount, -⟩ := h hstore
  unfold freeWork at hs ⊢
  rw [accountDrop_none (by simpa using haccount)] at hs ⊢
  exact hdropped hs

/-- A list replaced on a station that is no store. -/
theorem storeLaw_of_inForce {s u : State} (hs : s.isStore = false) (h : u.inForce = s.inForce) : StoreLaw u :=
  storeLaw_of_notStore (by simpa [State.isStore, h] using hs)

theorem bookGate_store {l : ListName} {first : Nat} {s : State} (h : s.isStore = true) : ∃ r, bookGate l first s = some r := by
  unfold bookGate
  split
  · exact ⟨_, rfl⟩
  · exact ⟨.badKind, by simp⟩

theorem storeLaw_handleInsert (l : ListName) (first count : Nat) (amount : Int) {s : State} (h : StoreLaw s) :
    StoreLaw (handleInsert l first count amount s).state := by
  cases hs : s.isStore with
  | false => exact storeLaw_of_inForce hs ((handleInsert_sameBut l first count amount s).inForce (by decide))
  | true =>
    obtain ⟨r, hr⟩ := bookGate_store (l := l) (first := clampFirst first) hs
    simpa [handleInsert, hr, refuse] using h

theorem storeLaw_handleCancel (list : Byte) (first count : Nat) {s : State} (h : StoreLaw s) :
    StoreLaw (handleCancel list first count s).state := by
  cases hs : s.isStore with
  | false => exact storeLaw_of_inForce hs ((handleCancel_sameBut list first count s).inForce (by decide))
  | true =>
    unfold handleCancel
    split
    · exact h
    · next l _ =>
      obtain ⟨r, hr⟩ := bookGate_store (l := l) (first := clampFirst first) hs
      simpa [hr, refuse] using h

theorem storeLaw_boundary {s : State} (h : StoreLaw s) : StoreLaw (boundary s) := by
  cases hs : s.isStore with
  | false => exact storeLaw_of_inForce hs ((boundary_sameBut s).inForce (by decide))
  | true => simpa [boundary, hs] using h

theorem storeLaw_keptByEvents : KeptByEvents storeLawParts storeLawParts StoreLaw StoreLaw where
  only := storeLaw_only
  onlyWeak := storeLaw_only
  weaken := fun _ h => h
  read := fun s => storeLaw_readUpper
  sealing := fun s _ => .inr fun _ => storeLaw_acceptSeal s
  record := fun form s _ hfits => .inr fun h =>
    have hjudged := storeLaw_only.keeps (recordJudged_ofTakeIn (Measurement.ofForm form) s) (by decide) (storeLaw_takeIn hfits h)
    storeLaw_only.recordWork (by decide) (fun _ _ => storeLaw_trip _ hjudged) fun _ => hjudged
  setTime := fun s c hs => .inr fun _ => storeLaw_of_inForce hs rfl
  insert := fun l first count amount s => .inr (storeLaw_handleInsert l first count amount)
  cancel := fun list first count s => .inr (storeLaw_handleCancel list first count)
  clear := fun s _ _ => .inr fun h =>
    have hcleared := storeLaw_only.keeps ((unlatchGone_sameBut s).comp (produce_sameBut .tripCleared _) (List.Subset.refl _)) (by decide) h
    storeLaw_only.clearWork (by decide) (fun _ _ => storeLaw_enterActive _ hcleared) (fun _ => storeLaw_enterStandby _ hcleared) h
  leaveNow := fun s => .inr fun h => storeLaw_only.keeps (sendSetpoint_sameBut _) (by decide) (storeLaw_endLeave h)
  restart := fun s _ => .inr fun _ => storeLaw_of_notStore rfl
  releaseLog := fun k s => .inr fun h hs => by
    obtain ⟨h1, h2, h3, h4, haccount, h6⟩ := h hs
    exact ⟨h1, h2, h3, h4, by simp [handleReleaseLog, haccount], h6⟩
  powerOn := fun s => .inr fun _ => storeLaw_of_notStore rfl
  permitDown := fun s => .inr fun h => storeLaw_only.permitRemoved (by decide)
    (fun _ => storeLaw_enterStandby _ (s := { s with permit := false }) h)
    (fun _ ht => storeLaw_of_notStore (by simpa [State.isStore] using isStore_of_isTrain ht)) fun _ _ _ => h
  pulse := fun s => .inr storeLaw_boundary
  advanced := fun i s hs => .inr fun _ => storeLaw_of_inForce hs ((advance_sameBut i s).inForce (by decide))
  arrived := fun bytes s => .inr fun h => storeLaw_only.arrival (by decide) bytes (fun _ => storeLaw_addressConflict h) h
  statusFrame := fun f tag arr rest s _ => .inr fun h =>
    storeLaw_statusFrameWork f tag arr (storeLaw_only.keeps (removeHead_sameBut s) (by decide) h)
  statusDue := fun s _ => .inr <| storeLaw_only.statusWork (by decide) fun v _ _ => storeLaw_endLeave
  freed := fun a s => .inr (storeLaw_freeWork a)
  control := fun k s _ _ ht => .inr fun _ =>
    storeLaw_of_inForce (isStore_of_isTrain ht) ((expiryStages_changes k s).sameBut.inForce (by decide))
  window := fun s _ => .inr fun h => endWindow_induction (fun _ _ => storeLaw_enterActive _ h)
    (fun _ _ => storeLaw_enterStandby _ h) fun _ => storeLaw_trip _ h
  stoodBy := fun s _ => .inr (storeLaw_enterStandby _)
  stale := fun s _ => .inr fun h =>
    have hjudged := storeLaw_only.keeps (staleJudged_sameBut s) (by decide) h
    storeLaw_only.staleWork (by decide) (fun _ _ => storeLaw_trip _ hjudged) fun _ => hjudged

/-- Settles O60: both laws by the goals of their events. -/
theorem stepKeepsLinkAndStoreLaws : Obligations.StepKeepsLinkAndStoreLaws :=
  ⟨linkLaw_keptByEvents.keptByStep, storeLaw_keptByEvents.keptByStep⟩

end Sys2Proof.Machine
end

section
/-! PROOFS. The peer table in order of address, free of the station's own, and a lost hold on exactly its LOST entries (R7, R9, R11, R12, R15, R16). -/

namespace Sys2Proof.Machine

/-! ## Changes of the peer table -/

/-- The table in order of address, one entry for each (R11). -/
def Ordered (view : List Entry) : Prop := view.Pairwise fun x y => x.address < y.address

theorem mem_putEntry {x e : Entry} {view : List Entry} (h : x ∈ putEntry e view) : x = e ∨ x ∈ view := by
  induction view with
  | nil => exact .inl (by simpa [putEntry] using h)
  | cons y ys ih =>
    unfold putEntry at h
    repeat' split at h
    · exact (List.mem_cons.mp h).imp id id
    · exact (List.mem_cons.mp h).imp id (List.mem_cons_of_mem _)
    · obtain rfl | hys := List.mem_cons.mp h
      · exact .inr (List.mem_cons_self ..)
      · exact (ih hys).imp id (List.mem_cons_of_mem _)

theorem ordered_putEntry {e : Entry} {view : List Entry} (h : Ordered view) : Ordered (putEntry e view) := by
  induction view with
  | nil => exact List.pairwise_singleton ..
  | cons y ys ih =>
    obtain ⟨hy, hys⟩ := List.pairwise_cons.mp h
    unfold putEntry
    repeat' split
    · next hlt =>
      refine List.pairwise_cons.mpr ⟨fun z hz => ?_, h⟩
      obtain rfl | hz := List.mem_cons.mp hz
      · exact hlt
      · exact Nat.lt_trans hlt (hy z hz)
    · next heq => exact List.pairwise_cons.mpr ⟨fun z hz => heq ▸ hy z hz, hys⟩
    · next hle hne =>
      refine List.pairwise_cons.mpr ⟨fun z hz => ?_, ih hys⟩
      obtain rfl | hz := mem_putEntry hz
      · omega
      · exact hy z hz

theorem mem_updateEntry {x : Entry} {view : List Entry} {a : Nat} {f : Entry → Entry} (h : x ∈ updateEntry view a f) :
    x ∈ view ∨ ∃ y ∈ view, y.address = a ∧ x = f y := by
  obtain ⟨y, hy, rfl⟩ := List.mem_map.mp h
  split
  · next ha => exact .inr ⟨y, hy, by simpa using ha, rfl⟩
  · exact .inl hy

theorem ordered_updateEntry {view : List Entry} {a : Nat} {f : Entry → Entry} (hf : ∀ e, (f e).address = e.address) (h : Ordered view) :
    Ordered (updateEntry view a f) := by
  have haddress (e : Entry) : (if e.address == a then f e else e).address = e.address := by split <;> simp [hf]
  exact List.pairwise_map.mpr (h.imp fun hxy => by rwa [haddress, haddress])

/-- The entry found is the only one of its address. -/
theorem eq_of_findEntry {view : List Entry} {a : Nat} {e x : Entry} (h : Ordered view) (he : findEntry view a = some e)
    (hx : x ∈ view) (ha : x.address = a) : x = e := by
  induction view with
  | nil => cases hx
  | cons y ys ih =>
    obtain ⟨hy, hys⟩ := List.pairwise_cons.mp h
    by_cases hya : y.address = a
    · obtain rfl : y = e := by simpa [findEntry, hya] using he
      obtain rfl | hx := List.mem_cons.mp hx
      · rfl
      · have := hy x hx; omega
    · have he : findEntry ys a = some e := by simpa [findEntry, hya] using he
      obtain rfl | hx := List.mem_cons.mp hx
      · exact absurd ha hya
      · exact ih hys he hx

/-- Only the low four bits of an address byte are read (R165). -/
theorem decodeFrame_address {bs : List Byte} {f : Frame} (h : decodeFrame bs = .frame f) : f.address < 16 := by
  have hmod (n : Nat) : n % 16 < 16 := Nat.mod_lt _ (by decide)
  unfold decodeFrame decodeKnown at h
  repeat' split at h
  all_goals cases h
  all_goals exact hmod _

/-! ## The law of the table, with a property of its entries -/

/-- The law of the peer table, with a property that every entry has. -/
def EntriesLaw (Q : Entry → Prop) (s : State) : Prop := ViewLaw s ∧ ∀ e ∈ s.view, Q e

/-- The parts of the law of the table. -/
def viewLawParts : List Part := [.view, .inForce, .receiveQueue, .state]

section
variable {Q : Entry → Prop}

theorem EntriesLaw.congr {s u : State} (h : EntriesLaw Q s) (hview : u.view = s.view) (hforce : u.inForce = s.inForce)
    (hrx : u.bus.rx = s.bus.rx) (hstate : u.seq.state = .offline → s.seq.state = .offline) : EntriesLaw Q u := by
  obtain ⟨⟨hordered, hentries, hframes, hempty⟩, hQ⟩ := h
  refine ⟨⟨?_, ?_, ?_, fun hu => ?_⟩, ?_⟩
  · rwa [hview]
  · rwa [hview, hforce]
  · rwa [hrx, hforce]
  · rw [hview, hrx]; exact hempty (hstate hu)
  · rwa [hview]

/-- A change of state that leaves the table, the queue and the values in force. -/
theorem EntriesLaw.of_frame {ps : List Part} {s u : State} (h : EntriesLaw Q s) (hframe : SameBut ps s u)
    (hd : ∀ p ∈ [Part.view, .inForce, .receiveQueue], p ∉ ps) (hstate : u.seq.state = .offline → s.seq.state = .offline) :
    EntriesLaw Q u := by
  have hrx : u.bus.rx = s.bus.rx ∧ u.bus.overrun = s.bus.overrun := hframe .receiveQueue (hd _ (by decide))
  exact h.congr (hframe .view (hd _ (by decide))) (hframe .inForce (hd _ (by decide))) hrx.1 hstate

theorem entriesLaw_only : Only viewLawParts (EntriesLaw Q) := by
  intro s u h hs
  have hrx : u.bus.rx = s.bus.rx ∧ u.bus.overrun = s.bus.overrun := h .receiveQueue (by decide)
  have hstate : u.seq.state = s.seq.state := h .state (by decide)
  exact hs.congr (h .view (by decide)) (h .inForce (by decide)) hrx.1 fun hu => hstate ▸ hu

theorem entriesLaw_of_empty {s : State} (hview : s.view = []) (hrx : s.bus.rx = []) : EntriesLaw Q s := by
  simp [EntriesLaw, ViewLaw, hview, hrx]

theorem entriesLaw_endLeave (s : State) : EntriesLaw Q (endLeave s) := entriesLaw_of_empty rfl rfl

theorem entriesLaw_trip (ms : List Monitor) {s : State} (h : EntriesLaw Q s) : EntriesLaw Q (trip ms s) :=
  h.of_frame (trip_sameBut ms s) (by decide) (by simp)

theorem entriesLaw_enterStandby (cause : Cause) {s : State} (h : EntriesLaw Q s) : EntriesLaw Q (enterStandby cause s) :=
  h.of_frame (enterStandby_sameBut cause s) (by decide) (by simp)

theorem entriesLaw_enterActive (cause : Cause) {s : State} (h : EntriesLaw Q s) : EntriesLaw Q (enterActive cause s) :=
  h.of_frame (enterActive_sameBut cause s) (by decide) (by simp)

/-- The table replaced by another in order, of other addresses than the station's own, in a state that may have one. -/
theorem EntriesLaw.setView {s : State} (h : EntriesLaw Q s) {view : List Entry} (hordered : Ordered view)
    (haddress : ∀ e ∈ view, e.address < 16 ∧ e.address ≠ s.inForce.address) (hempty : s.view = [] → view = [])
    (hQ : ∀ e ∈ view, Q e) : EntriesLaw Q { s with view := view } :=
  ⟨⟨hordered, haddress, h.1.2.2.1, fun ho => ⟨hempty (h.1.2.2.2 ho).1, (h.1.2.2.2 ho).2⟩⟩, hQ⟩

/-- An entry changed in place keeps its address. -/
theorem EntriesLaw.update {s : State} (h : EntriesLaw Q s) (a : Nat) {f : Entry → Entry} (hf : ∀ e, (f e).address = e.address)
    (hQ : ∀ e ∈ s.view, e.address = a → Q (f e)) : EntriesLaw Q { s with view := updateEntry s.view a f } := by
  refine h.setView (ordered_updateEntry hf h.1.1) (fun x hx => ?_) (fun hempty => by simp [hempty, updateEntry]) fun x hx => ?_
  · obtain hx | ⟨y, hy, -, rfl⟩ := mem_updateEntry hx
    · exact h.1.2.1 x hx
    · rw [hf]; exact h.1.2.1 y hy
  · obtain hx | ⟨y, hy, ha, rfl⟩ := mem_updateEntry hx
    · exact h.2 x hx
    · exact hQ y hy ha

theorem entriesLaw_enqueue {f : Frame} {s : State} (hf : f.address < 16) (hown : f.address ≠ s.inForce.address)
    (hs : s.seq.state ≠ .offline) (h : EntriesLaw Q s) : EntriesLaw Q (enqueue f s) := by
  obtain ⟨⟨hordered, hentries, hframes, hempty⟩, hQ⟩ := h
  unfold enqueue
  repeat' split
  · refine ⟨⟨hordered, hentries, fun x hx => ?_, fun ho => absurd ho hs⟩, hQ⟩
    obtain hx | rfl := (List.mem_append.mp hx).imp id List.mem_singleton.mp
    · exact hframes x hx
    · exact ⟨hf, hown⟩
  · exact ⟨⟨hordered, hentries, hframes, hempty⟩, hQ⟩
  · exact ⟨⟨hordered, hentries, hframes, hempty⟩, hQ⟩

theorem entriesLaw_arrival (bytes : List Byte) {s : State} (h : EntriesLaw Q s) : EntriesLaw Q (arrival bytes s) := by
  unfold arrival receiveFrame
  split
  · next hsealed =>
    have hs : s.seq.state ≠ .offline := by simpa [State.isSealed] using hsealed
    repeat' split
    · exact h
    · exact h
    · exact h
    · exact h.of_frame (addressConflict_sameBut s) (by decide) (by simp)
    · next hdecode hown => exact entriesLaw_enqueue (decodeFrame_address hdecode) hown hs h
  · exact h

theorem entriesLaw_removeHead {s : State} (h : EntriesLaw Q s) : EntriesLaw Q (removeHead s) := by
  obtain ⟨⟨hordered, hentries, hframes, hempty⟩, hQ⟩ := h
  exact ⟨⟨hordered, hentries, fun x hx => hframes x (List.mem_of_mem_tail hx),
    fun ho => ⟨(hempty ho).1, by simp [removeHead, (hempty ho).2]⟩⟩, hQ⟩

/-- A status frame of the queue makes an entry of its address, in a state that has a table. -/
theorem entriesLaw_statusFrameWork {f : StatusFrame} {tag : Relation} {arr : Nat} {rest : List RxFrame} {s : State}
    (hrx : s.bus.rx = ⟨.status f, tag, arr⟩ :: rest) (hQ : ∀ old, Q (entryFrom f tag arr old)) (h : EntriesLaw Q s) :
    EntriesLaw Q (statusFrameWork f tag arr (removeHead s)) := by
  have hframe : f.address < 16 ∧ f.address ≠ s.inForce.address := h.1.2.2.1 ⟨.status f, tag, arr⟩ (by rw [hrx]; exact List.mem_cons_self ..)
  have hs : s.seq.state ≠ .offline := fun ho => by simpa [hrx] using (h.1.2.2.2 ho).2
  have hhead := entriesLaw_removeHead h
  have hput : EntriesLaw Q
      { removeHead s with view := putEntry (entryFrom f tag arr (findEntry s.view f.address)) (removeHead s).view } := by
    refine ⟨⟨ordered_putEntry hhead.1.1, fun x hx => ?_, hhead.1.2.2.1, fun ho => absurd ho hs⟩, fun x hx => ?_⟩
    · obtain rfl | hx := mem_putEntry hx
      · exact hframe
      · exact hhead.1.2.1 x hx
    · obtain rfl | hx := mem_putEntry hx
      · exact hQ _
      · exact hhead.2 x hx
  have hreport := entriesLaw_only.keeps (produceOpt_sameBut (applyReport f.address (findEntry (removeHead s).view f.address)) _)
    (by decide) hput
  unfold statusFrameWork
  dsimp only
  split
  · exact entriesLaw_only.keeps (handOn_sameBut _ _ _ _) (by decide) hreport
  · exact hreport

theorem entriesLaw_loseWork (e : Entry) {s : State} (hQ : ∀ x : Entry, Q { x with status := .lost, holdEnd := holdFromNow s })
    (h : EntriesLaw Q s) : EntriesLaw Q (loseWork e s) := by
  have hlost := h.update e.address (f := fun x => { x with status := .lost, holdEnd := holdFromNow s }) (fun _ => rfl) fun x _ _ => hQ x
  unfold loseWork
  dsimp only
  split
  · exact hlost
  · exact entriesLaw_only.keeps (produce_sameBut _ _) (by decide) hlost

theorem entriesLaw_freeWork (a : Nat) {s : State} (h : EntriesLaw Q s) : EntriesLaw Q (freeWork a s) := by
  have hkept : EntriesLaw Q { s with view := s.view.filter fun e => e.address != a } :=
    h.setView (h.1.1.filter _) (fun e he => h.1.2.1 e (List.mem_filter.mp he).1) (fun hempty => by simp [hempty])
      fun e he => h.2 e (List.mem_filter.mp he).1
  exact entriesLaw_only.keeps ((produce_sameBut _ _).comp (accountDrop_sameBut a s.now _) (List.Subset.refl _)) (by decide) hkept

/-- The goals of the law of the table, for a property that the application of a frame, a loss and a LATE deadline give and an ALERT
leaves. -/
theorem entriesLaw_keptByEvents (hnew : ∀ f tag arr old, Q (entryFrom f tag arr old))
    (halert : ∀ (e : Entry) (x : StationState) (fields : Fields), Q e → Q { e with state := x, fields := fields })
    (hlost : ∀ (e : Entry) (d : Nat), Q { e with status := .lost, holdEnd := some d })
    (hlate : ∀ e : Entry, e.status = .present → Q e → Q { e with status := .late }) :
    KeptByEvents viewLawParts viewLawParts (EntriesLaw Q) (EntriesLaw Q) where
  only := entriesLaw_only
  onlyWeak := entriesLaw_only
  weaken := fun _ h => h
  read := fun s => entriesLaw_only.readUpper (by decide) fun v _ => entriesLaw_endLeave v
  sealing := fun s hs => .inr fun h => by
    have hframe := acceptSeal_sameBut s
    have hrx : (acceptSeal s).bus.rx = s.bus.rx ∧ (acceptSeal s).bus.overrun = s.bus.overrun := hframe .receiveQueue (by decide)
    have hview : (acceptSeal s).view = s.view := hframe .view (by decide)
    obtain ⟨hv, hr⟩ := h.1.2.2.2 hs
    exact entriesLaw_of_empty (hview.trans hv) (hrx.1.trans hr)
  record := fun form s _ _ => .inr fun h =>
    have hjudged := entriesLaw_only.keeps (recordJudged_sameBut (Measurement.ofForm form) s) (by decide) h
    entriesLaw_only.recordWork (by decide) (fun _ _ => entriesLaw_trip _ hjudged) fun _ => hjudged
  clear := fun s _ _ => .inr fun h =>
    have hcleared := entriesLaw_only.keeps ((unlatchGone_sameBut s).comp (produce_sameBut .tripCleared _) (List.Subset.refl _)) (by decide) h
    entriesLaw_only.clearWork (by decide) (fun _ _ => entriesLaw_enterActive _ hcleared) (fun _ => entriesLaw_enterStandby _ hcleared) h
  leaveNow := fun s => .inr fun _ => entriesLaw_endLeave s
  leaveRunning := fun s _ _ => .inr fun h => h.of_frame (startLeaving_sameBut s) (by decide) (by simp)
  leaveStore := fun s _ => .inr fun h => h.of_frame (startStoreLeaving_sameBut s) (by decide) (by simp)
  restart := fun s _ => .inr fun _ => entriesLaw_of_empty rfl rfl
  powerOn := fun s => .inr fun _ => entriesLaw_of_empty rfl rfl
  permitDown := fun s => .inr fun h => entriesLaw_only.permitRemoved (by decide)
    (fun _ => entriesLaw_enterStandby _ (s := { s with permit := false }) h)
    (fun _ _ => entriesLaw_only.keeps (setpointIfFell_sameBut _ _) (by decide) (entriesLaw_endLeave _)) fun _ _ _ => h
  arrived := fun bytes s => .inr (entriesLaw_arrival bytes)
  head := fun s => .inr entriesLaw_removeHead
  statusFrame := fun f tag arr rest s hrx => .inr (entriesLaw_statusFrameWork hrx (hnew f tag arr))
  alerted := fun a s => .inr fun h => h.update a.address (fun _ => rfl) fun e he _ => halert e _ _ (h.2 e he)
  lost := fun e s => .inr (entriesLaw_loseWork e fun x => hlost x _)
  statusDue := fun s _ => .inr <| entriesLaw_only.statusWork (by decide) fun v _ _ _ => entriesLaw_endLeave v
  late := fun a e s hfind hpresent => .inr fun h => h.update a (fun _ => rfl) fun x hx ha =>
    hlate x (eq_of_findEntry h.1.1 hfind hx ha ▸ hpresent) (h.2 x hx)
  freed := fun a s => .inr (entriesLaw_freeWork a)
  control := fun k s _ _ _ => .inr <| entriesLaw_only.expiryStages (by decide) (fun v _ _ => entriesLaw_endLeave v)
    fun v h _ _ _ => h.congr (by simp) (by simp) (by simp) (by simp [enterStarting])
  window := fun s _ => .inr fun h => endWindow_induction (fun _ _ => entriesLaw_enterActive _ h)
    (fun _ _ => entriesLaw_enterStandby _ h) fun _ => entriesLaw_trip _ h
  started := fun s _ => .inr fun h => h.of_frame (enterRunning_sameBut s) (by decide) (by simp)
  stoodBy := fun s _ => .inr (entriesLaw_enterStandby _)
  stale := fun s _ => .inr fun h =>
    have hjudged := entriesLaw_only.keeps (staleJudged_sameBut s) (by decide) h
    entriesLaw_only.staleWork (by decide) (fun _ _ => entriesLaw_trip _ hjudged) fun _ => hjudged

end

/-- Settles O56: the law of the table with no property of its entries, and with the lost hold. -/
theorem stepKeepsViewLaw : Obligations.StepKeepsViewLaw := by
  have htrue : ViewLaw = EntriesLaw fun _ => True := by funext s; simp [EntriesLaw]
  refine ⟨?_, (entriesLaw_keptByEvents (Q := fun e => e.holdEnd.isSome = true ↔ e.status = .lost) ?_ ?_ ?_ ?_).keptByStep⟩
  · rw [htrue]
    exact (entriesLaw_keptByEvents (fun _ _ _ _ => trivial) (fun _ _ _ _ => trivial) (fun _ _ => trivial)
      fun _ _ _ => trivial).keptByStep
  · exact fun f tag arr old => by simp [entryFrom]
  · exact fun e x fields h => h
  · exact fun e d => by simp
  · exact fun e hpresent h => by simpa [hpresent] using h

end Sys2Proof.Machine
end

section
/-! PROOFS. The interval change as a whole: the book that takes it, the account that closes and opens, what is noted of the command (R30, R36, R38, R41,
R66, R140 to R144). -/

namespace Sys2Proof.Machine

/-! ## The account at a change -/

@[simp] theorem creditAll_openRec (s : State) : (creditAll s).openRec = s.account.openRec := by
  unfold creditAll Account.addOwn Account.addPlant
  repeat' split
  all_goals rfl

@[simp] theorem creditAll_log (s : State) : (creditAll s).log = s.account.log := by
  unfold creditAll Account.addOwn Account.addPlant
  repeat' split
  all_goals rfl

@[simp] theorem creditAll_ownPoint (s : State) : (creditAll s).ownPoint = s.account.ownPoint := by
  unfold creditAll Account.addOwn Account.addPlant
  repeat' split
  all_goals rfl

@[simp] theorem creditAll_peerPoints (s : State) : (creditAll s).peerPoints = s.account.peerPoints := by
  unfold creditAll Account.addOwn Account.addPlant
  repeat' split
  all_goals rfl

/-- While an interval is open the accumulators take every span up to the instant (R137, R138). -/
theorem creditAll_energies {s : State} (h : s.account.openRec ≠ none) :
    (creditAll s).ownAcc = s.account.ownAcc + ownSpan s.ownKind s.account.ownPoint s.now
    ∧ (creditAll s).plantAcc = s.account.plantAcc + ownSpan s.ownKind s.account.ownPoint s.now
        + peerSpans s.account.peerPoints s.now := by
  obtain ⟨o, ho⟩ := Option.ne_none_iff_exists'.mp h
  simp [creditAll, Account.addOwn, Account.addPlant, ho]

/-- The record that the close of an open interval completes (R141, R142). -/
def closedRecord (o : OpenRecord) (byFreeRun : Bool) (s : State) : DeliveryRecord :=
  completeRecord { o with clockFreeSeen := o.clockFreeSeen || byFreeRun } (creditAll s).ownAcc (creditAll s).plantAcc
    s.inForce.items.interval s.book.orderChanged (!decide (s.account.log.length < Config.logCapacity))

/-- The log after a change: the record of an open interval joins it (R143). -/
def closedLog (byFreeRun : Bool) (s : State) : List DeliveryRecord :=
  match s.account.openRec with
  | none => s.account.log
  | some o => pushRecord s.account.log (closedRecord o byFreeRun s)

/-- The report of the close, where a record was written (R140). -/
def closedReport (byFreeRun : Bool) (s : State) : Option Report :=
  s.account.openRec.map fun o => .intervalClosed o.interval (closedLog byFreeRun s).length

/-- The account after the close: the points moved, the accumulators at 0, no interval open (R140, R142, R143). -/
def closedAccount (byFreeRun : Bool) (s : State) : Account where
  openRec := none
  ownAcc := 0
  plantAcc := 0
  ownPoint := s.account.ownPoint.map fun q => { q with since := s.now }
  peerPoints := s.account.peerPoints.map fun p => { p with since := s.now }
  log := closedLog byFreeRun s

theorem accountClose_eq (byFreeRun : Bool) (s : State) : accountClose byFreeRun s =
    ({ s with account := closedAccount byFreeRun s }, closedReport byFreeRun s) := by
  unfold accountClose closedReport
  cases h : s.account.openRec <;> simp [h, closedAccount, closedLog, closedRecord]

theorem pushRecord_length {log : List DeliveryRecord} (h : log.length ≤ 48) (r : DeliveryRecord) : (pushRecord log r).length ≤ 48 := by
  unfold pushRecord Config.logCapacity
  split <;> simp <;> omega

theorem closedLog_length {s : State} (h : s.account.log.length ≤ 48) (byFreeRun : Bool) : (closedLog byFreeRun s).length ≤ 48 := by
  unfold closedLog
  split
  · exact h
  · exact pushRecord_length h _

/-! ## The book at a change -/

/-- The lists purged, the target derived, the mark cleared (R34, R36, R38). -/
def purgedBook (b : Book) (n : Nat) : Book :=
  { b with
    noms := purgeList n b.noms
    orders := purgeList n b.orders
    target := deriveTarget { b with noms := purgeList n b.noms, orders := purgeList n b.orders } (some n)
    orderChanged := false }

/-- The book at the start of a settle window, before its judgement (R41). -/
def settlingBook (b : Book) (n : Nat) : Book := { purgedBook b n with settle := 2, persistence := 0 }

/-- The book after a change: from JOINING onward the settle window starts and agreement is judged (R40, R41). -/
def changedBook (s : State) (n : Nat) : Book :=
  if s.isSealed then (settlingBook s.book n).judged s.view n else purgedBook s.book n

@[simp] theorem changedBook_noms (s : State) (n : Nat) : (changedBook s n).noms = purgeList n s.book.noms := by
  unfold changedBook Book.judged
  dsimp only
  repeat' split
  all_goals rfl

@[simp] theorem changedBook_orders (s : State) (n : Nat) : (changedBook s n).orders = purgeList n s.book.orders := by
  unfold changedBook Book.judged
  dsimp only
  repeat' split
  all_goals rfl

@[simp] theorem changedBook_target (s : State) (n : Nat) : (changedBook s n).target =
    some (clampPower (amountAt (purgeList n s.book.noms) n + amountAt (purgeList n s.book.orders) n)) := by
  unfold changedBook Book.judged
  dsimp only
  repeat' split
  all_goals rfl

@[simp] theorem changedBook_orderChanged (s : State) (n : Nat) : (changedBook s n).orderChanged = false := by
  unfold changedBook Book.judged
  dsimp only
  repeat' split
  all_goals rfl

/-- The counts after a change: a settle window begins from JOINING onward (R41). -/
theorem changedBook_counts (s : State) (n : Nat) :
    (changedBook s n).settle = (if s.isSealed then 2 else s.book.settle)
    ∧ (changedBook s n).persistence = (if s.isSealed then 0 else s.book.persistence) := by
  unfold changedBook
  by_cases hs : s.isSealed = true
  · rw [if_pos hs, if_pos hs, if_pos hs]
    unfold Book.judged
    dsimp only
    split <;> exact ⟨rfl, rfl⟩
  · rw [if_neg hs, if_neg hs, if_neg hs]
    exact ⟨rfl, rfl⟩

/-- The report of the judgement at a change (R42). -/
def changeReport (s : State) (n : Nat) : Option Report :=
  if s.isSealed then
    if ((settlingBook s.book n).judged s.view n).agree && s.book.held.isSome then some .heldEnd else none
  else none

theorem bookChange_eq {s : State} {n : Nat} (h : s.clock.current = some n) :
    bookChange s n = ({ s with book := changedBook s n }, changeReport s n) := by
  unfold bookChange changedBook changeReport
  by_cases hs : s.isSealed = true
  · have hs' : s.seq.state ≠ .offline := by simpa [State.isSealed] using hs
    simp [State.isSealed, hs', judgeWith, h, judgeReport, settlingBook, purgedBook]
  · simp [hs, purgedBook]

/-! ## The change -/

/-- The record that a change opens (R141). -/
def openedRecord (s : State) (n : Nat) (byFreeRun : Bool) : Option OpenRecord :=
  if s.isSealed then some {
    interval := n
    target := (changedBook s n).target.getD 0
    heldSeen := (changedBook s n).held.isSome
    trippedSeen := s.seq.state == .tripped || s.seq.state == .conflict
    clockFreeSeen := byFreeRun || s.clock.free }
  else none

/-- The station after an interval change, before its reports. -/
def changed (n : Nat) (byFreeRun : Bool) (s : State) : State :=
  { s with
    clock := { s.clock with current := some n }
    book := changedBook s n
    account := { closedAccount byFreeRun s with openRec := openedRecord s n byFreeRun }
    share := { s.share with lastLoaded := if s.share.command = 0 then s.share.lastLoaded else some n } }

theorem intervalChange_eq (n : Nat) (byFreeRun : Bool) (s : State) : intervalChange n byFreeRun s =
    produceEither (closedReport byFreeRun s) (changeReport s n) (changed n byFreeRun s) := by
  unfold intervalChange
  dsimp only
  rw [accountClose_eq]
  dsimp only
  rw [bookChange_eq rfl]
  change produceEither (closedReport byFreeRun s) (changeReport s n) _ = _
  congr 1
  unfold changed openedRecord accountOpen
  by_cases hc : s.share.command = 0
  · rw [if_pos hc, if_pos hc]
    by_cases hs : s.isSealed = true <;> simp only [hs, if_true, if_false, Bool.false_eq_true] <;> rfl
  · rw [if_neg hc, if_neg hc]
    by_cases hs : s.isSealed = true <;> simp only [hs, if_true, if_false, Bool.false_eq_true] <;> rfl

end Sys2Proof.Machine
end

section
/-! PROOFS. A list of the schedule book: which entry covers an interval, what a trimming and an insertion leave of it, and that both keep its law (R31,
R32, R36). -/

namespace Sys2Proof.Machine

/-! ## Covering -/

/-- The intervals of an entry. -/
def BookEntry.Has (e : BookEntry) (j : Nat) : Prop := e.first ≤ j ∧ j < e.first + e.count

theorem covers_iff {e : BookEntry} (h : 1 ≤ e.count) (j : Nat) : e.covers j = true ↔ e.Has j := by
  simp only [BookEntry.covers, Bool.and_eq_true, decide_eq_true_eq, BookEntry.Has]
  unfold BookEntry.last
  exact and_congr_right fun _ => by omega

/-- Every entry of the list has an interval. -/
theorem ListLaw.count {es : List BookEntry} (h : ListLaw es) {e : BookEntry} (he : e ∈ es) : 1 ≤ e.count := (h.1 e he).1

/-- In a list in order no two entries share an interval. -/
theorem eq_of_has {es : List BookEntry} (h : es.Pairwise fun x y => x.first + x.count ≤ y.first) {e x : BookEntry} {j : Nat} (he : e ∈ es) (hx : x ∈ es)
    (hej : e.Has j) (hxj : x.Has j) : e = x := by
  induction h with
  | nil => cases he
  | cons hhead _ ih =>
    unfold BookEntry.Has at hej hxj
    cases he with
    | head =>
      cases hx with
      | head => rfl
      | tail _ hx => have := hhead x hx; omega
    | tail _ he =>
      cases hx with
      | head => have := hhead e he; omega
      | tail _ hx => exact ih he hx

theorem covers_of_coveringEntry {es : List BookEntry} {j : Nat} {e : BookEntry} (h : coveringEntry es j = some e) :
    e ∈ es ∧ e.covers j = true :=
  ⟨List.mem_of_find?_eq_some h, List.find?_some (p := fun x : BookEntry => x.covers j) (l := es) h⟩

theorem coveringEntry_eq_some_iff {es : List BookEntry} (h : ListLaw es) (j : Nat) (e : BookEntry) :
    coveringEntry es j = some e ↔ e ∈ es ∧ e.Has j := by
  constructor
  · intro he
    obtain ⟨hmem, hcovers⟩ := covers_of_coveringEntry he
    exact ⟨hmem, (covers_iff (h.count hmem) j).mp hcovers⟩
  · rintro ⟨hmem, hj⟩
    obtain ⟨x, hx⟩ : ∃ x, coveringEntry es j = some x :=
      Option.isSome_iff_exists.mp (List.find?_isSome.mpr ⟨e, hmem, (covers_iff (h.count hmem) j).mpr hj⟩)
    obtain ⟨hxmem, hcovers⟩ := covers_of_coveringEntry hx
    rw [hx, eq_of_has h.2 hxmem hmem ((covers_iff (h.count hxmem) j).mp hcovers) hj]

theorem coveringEntry_eq_none_iff {es : List BookEntry} (h : ListLaw es) (j : Nat) :
    coveringEntry es j = none ↔ ∀ e ∈ es, ¬ e.Has j := by
  rw [coveringEntry, List.find?_eq_none]
  exact forall₂_congr fun e he => by rw [covers_iff (h.count he)]

/-- An interval's amount in a list is that of the entry that has it, and there is none where no entry has it. -/
theorem amount_congr {es fs : List BookEntry} (hes : ListLaw es) (hfs : ListLaw fs) {j : Nat}
    (hto : ∀ e ∈ es, e.Has j → ∃ x ∈ fs, x.Has j ∧ x.amount = e.amount)
    (hfrom : ∀ x ∈ fs, x.Has j → ∃ e ∈ es, e.Has j) :
    (coveringEntry fs j).map BookEntry.amount = (coveringEntry es j).map BookEntry.amount := by
  cases he : coveringEntry es j with
  | none =>
    have hnone := (coveringEntry_eq_none_iff hes j).mp he
    rw [(coveringEntry_eq_none_iff hfs j).mpr fun x hx hxj => by
      obtain ⟨e, hmem, hej⟩ := hfrom x hx hxj
      exact hnone e hmem hej]
  | some e =>
    obtain ⟨hmem, hej⟩ := (coveringEntry_eq_some_iff hes j e).mp he
    obtain ⟨x, hx, hxj, hamount⟩ := hto e hmem hej
    rw [(coveringEntry_eq_some_iff hfs j x).mpr ⟨hx, hxj⟩]
    simp [hamount]

/-! ## Trimming -/

/-- A part of an entry outside a range of `c` intervals from `f`. -/
structure PartOf (f c : Nat) (e x : BookEntry) : Prop where
  amount : x.amount = e.amount
  count : 1 ≤ x.count
  start : e.first ≤ x.first
  stop : x.first + x.count ≤ e.first + e.count
  outside : x.first + x.count ≤ f ∨ f + c ≤ x.first

theorem trimEntry_meets {f c : Nat} {e : BookEntry} (hc : 1 ≤ c) (he : 1 ≤ e.count) :
    e.meets f (f + c - 1) = true ↔ e.first < f + c ∧ f < e.first + e.count := by
  simp only [BookEntry.meets, Bool.and_eq_true, decide_eq_true_eq]
  unfold BookEntry.last
  exact and_congr (by omega) (by omega)

theorem mem_trimEntry {f c : Nat} {e x : BookEntry} (hc : 1 ≤ c) (he : 1 ≤ e.count) (hx : x ∈ trimEntry f (f + c - 1) e) :
    PartOf f c e x := by
  unfold trimEntry at hx
  have hmeets := trimEntry_meets (f := f) hc he
  split at hx
  · next hm =>
    obtain ⟨hlo, hhi⟩ := hmeets.mp hm
    obtain hx | hx := List.mem_append.mp hx
    · split at hx
      · obtain rfl := List.mem_singleton.mp hx
        exact ⟨rfl, by simp; omega, by simp, by simp; omega, by simp; omega⟩
      · cases hx
    · split at hx
      · next hlast =>
        unfold BookEntry.last at hlast
        obtain rfl := List.mem_singleton.mp hx
        exact ⟨rfl, by simp [BookEntry.last]; omega, by simp; omega, by simp [BookEntry.last]; omega, by simp; omega⟩
      · cases hx
  · next hm =>
    obtain rfl := List.mem_singleton.mp hx
    exact ⟨rfl, he, Nat.le_refl _, Nat.le_refl _, by have := mt hmeets.mpr hm; omega⟩

/-- Every interval of an entry outside the range is one of a part of it. -/
theorem trimEntry_has {f c : Nat} {e : BookEntry} (hc : 1 ≤ c) (he : 1 ≤ e.count) {j : Nat} (hj : e.Has j) (hout : ¬ (f ≤ j ∧ j < f + c)) :
    ∃ x ∈ trimEntry f (f + c - 1) e, x.Has j := by
  unfold BookEntry.Has at hj
  unfold trimEntry BookEntry.last
  split
  · by_cases hlo : j < f
    · exact ⟨{ e with count := f - e.first }, List.mem_append_left _ (by rw [if_pos (by omega)]; exact List.mem_singleton_self _),
        by unfold BookEntry.Has; dsimp only; omega⟩
    · exact ⟨{ e with first := f + c - 1 + 1, count := e.first + e.count - 1 - (f + c - 1) },
        List.mem_append_right _ (by rw [if_pos (by omega)]; exact List.mem_singleton_self _),
        by unfold BookEntry.Has; dsimp only; omega⟩
  · exact ⟨e, List.mem_singleton_self _, hj⟩

/-- The parts of an entry are in order. -/
theorem trimEntry_pairwise {f c : Nat} (e : BookEntry) (hc : 1 ≤ c) :
    (trimEntry f (f + c - 1) e).Pairwise fun x y => x.first + x.count ≤ y.first := by
  unfold trimEntry
  repeat' split
  all_goals simp
  omega

theorem mem_trimList {f c : Nat} {es : List BookEntry} (h : ∀ e ∈ es, 1 ≤ e.count) (hc : 1 ≤ c) {x : BookEntry}
    (hx : x ∈ trimList f (f + c - 1) es) : ∃ e ∈ es, PartOf f c e x := by
  obtain ⟨e, he, hx⟩ := List.mem_flatMap.mp hx
  exact ⟨e, he, mem_trimEntry hc (h e he) hx⟩

/-- A trimmed list keeps the law of a list (R31, R32). -/
theorem listLaw_trimList {f c : Nat} {es : List BookEntry} (h : ListLaw es) (hc : 1 ≤ c) : ListLaw (trimList f (f + c - 1) es) := by
  refine ⟨fun x hx => ?_, ?_⟩
  · obtain ⟨e, he, hpart⟩ := mem_trimList (fun e he => h.count he) hc hx
    obtain ⟨h1, h2, h3, h4, h5⟩ := h.1 e he
    obtain ⟨hamount, hcount, hstart, hstop, -⟩ := hpart
    omega
  · refine List.pairwise_flatMap.mpr ⟨fun e _ => trimEntry_pairwise e hc, h.2.imp_of_mem fun {e e'} he he' hlt => ?_⟩
    intro x hx y hy
    have hpx := (mem_trimEntry hc (h.count he) hx).stop
    have hpy := (mem_trimEntry hc (h.count he') hy).start
    omega

/-- A trimmed list covers no interval of the range, and every other with the amount it had (R32). -/
theorem trimmedAfter_trimList {f c : Nat} {es : List BookEntry} (h : ListLaw es) (hc : 1 ≤ c) :
    TrimmedAfter es (trimList f (f + c - 1) es) f c := by
  have hpart {x : BookEntry} (hx : x ∈ trimList f (f + c - 1) es) := mem_trimList (fun e he => h.count he) hc hx
  refine ⟨fun j hlo hhi => (coveringEntry_eq_none_iff (listLaw_trimList h hc) j).mpr fun x hx hj => ?_, fun j hout => ?_⟩
  · obtain ⟨e, -, hpart⟩ := hpart hx
    have := hpart.outside
    unfold BookEntry.Has at hj
    omega
  · refine amount_congr h (listLaw_trimList h hc) (fun e he hej => ?_) fun x hx hxj => ?_
    · obtain ⟨x, hx, hxj⟩ := trimEntry_has hc (h.count he) hej hout
      exact ⟨x, List.mem_flatMap.mpr ⟨e, he, hx⟩, hxj, (mem_trimEntry hc (h.count he) hx).amount⟩
    · obtain ⟨e, he, hpart⟩ := hpart hx
      obtain ⟨-, -, hstart, hstop, -⟩ := hpart
      unfold BookEntry.Has at hxj ⊢
      exact ⟨e, he, by omega, by omega⟩

/-! ## Insertion -/

theorem mem_insertEntry {e x : BookEntry} {es : List BookEntry} : x ∈ insertEntry e es ↔ x = e ∨ x ∈ es := by
  induction es with
  | nil => simp [insertEntry]
  | cons y ys ih =>
    unfold insertEntry
    split
    · simp
    · simp only [List.mem_cons, ih, or_left_comm]

/-- An entry inserted between entries that leave its intervals free keeps the order. -/
theorem insertEntry_pairwise {e : BookEntry} {es : List BookEntry} (hcount : 1 ≤ e.count) (hes : ∀ x ∈ es, 1 ≤ x.count)
    (h : es.Pairwise fun x y => x.first + x.count ≤ y.first)
    (hout : ∀ x ∈ es, x.first + x.count ≤ e.first ∨ e.first + e.count ≤ x.first) :
    (insertEntry e es).Pairwise fun x y => x.first + x.count ≤ y.first := by
  induction h with
  | nil => simp [insertEntry]
  | @cons y ys hhead htail ih =>
    have hy := hout y (List.mem_cons_self ..)
    have hycount := hes y (List.mem_cons_self ..)
    unfold insertEntry
    split
    · next hlt =>
      refine List.pairwise_cons.mpr ⟨fun x hx => ?_, List.pairwise_cons.mpr ⟨hhead, htail⟩⟩
      cases hx with
      | head => omega
      | tail _ hx => have := hhead x hx; omega
    · next hlt =>
      refine List.pairwise_cons.mpr ⟨fun x hx => ?_, ih (fun x hx => hes x (List.mem_cons_of_mem _ hx))
        fun x hx => hout x (List.mem_cons_of_mem _ hx)⟩
      obtain rfl | hx := mem_insertEntry.mp hx
      · omega
      · exact hhead x hx

/-- The list after a NOMINATE or ORDER: trimmed to the range, with the new entry (R32). -/
def replaced (e : BookEntry) (es : List BookEntry) : List BookEntry :=
  insertEntry e (trimList e.first (e.first + e.count - 1) es)

/-- An entry as R31 takes it. -/
def EntryLaw (e : BookEntry) : Prop :=
  1 ≤ e.count ∧ e.count ≤ 96 ∧ -3000 ≤ e.amount ∧ e.amount ≤ 3000 ∧ e.first + e.count ≤ 4294967295

theorem listLaw_replaced {e : BookEntry} {es : List BookEntry} (he : EntryLaw e) (h : ListLaw es) : ListLaw (replaced e es) := by
  have htrim := listLaw_trimList (f := e.first) h he.1
  refine ⟨fun x hx => ?_, insertEntry_pairwise he.1 (fun x hx => htrim.count hx) htrim.2 fun x hx => ?_⟩
  · obtain rfl | hx := mem_insertEntry.mp hx
    · exact he
    · exact htrim.1 x hx
  · obtain ⟨y, -, hpart⟩ := mem_trimList (fun y hy => h.count hy) he.1 hx
    exact hpart.outside

/-- The range of a new entry has its amount, every other interval what it had (R32). -/
theorem coversAfter_replaced {e : BookEntry} {es : List BookEntry} (he : EntryLaw e) (h : ListLaw es) :
    CoversAfter es (replaced e es) e.first e.count e.amount := by
  have hlaw := listLaw_replaced he h
  obtain ⟨-, hrest⟩ := trimmedAfter_trimList (f := e.first) h he.1
  refine ⟨fun j hlo hhi => ?_, fun j hout => ?_⟩
  · rw [(coveringEntry_eq_some_iff hlaw j e).mpr ⟨mem_insertEntry.mpr (.inl rfl), hlo, hhi⟩]
    rfl
  · rw [← hrest j hout]
    refine amount_congr (listLaw_trimList h he.1) hlaw (fun x hx hxj => ⟨x, mem_insertEntry.mpr (.inr hx), hxj, rfl⟩) fun x hx hxj => ?_
    obtain rfl | hx := mem_insertEntry.mp hx
    · exact absurd hxj hout
    · exact ⟨x, hx, hxj⟩

theorem replaced_length {e : BookEntry} {es : List BookEntry} (he : 1 ≤ e.count) (h : ∀ x ∈ es, 1 ≤ x.count) :
    (replaced e es).length = entriesLeft e.first e.count es + 1 := by
  rw [replaced, insertEntry_length, trimList_length _ _ he _ h]

/-! ## The purge, and the range of a request -/

theorem listLaw_sublist {es fs : List BookEntry} (h : ListLaw es) (hsub : fs.Sublist es) : ListLaw fs :=
  ⟨fun e he => h.1 e (hsub.subset he), h.2.sublist hsub⟩

theorem listLaw_purgeList {es : List BookEntry} (h : ListLaw es) (n : Nat) : ListLaw (purgeList n es) :=
  listLaw_sublist h List.filter_sublist

theorem listLaw_nil : ListLaw [] := ⟨(fun _ h => nomatch h), .nil⟩

theorem clampInt_eq {lo hi : Int} (h : lo ≤ hi) (v : Int) : clampInt lo hi v = max lo (min v hi) := by
  unfold clampInt
  split
  · omega
  · split <;> omega

theorem clampPower_eq (v : Int) : clampPower v = max (-3000) (min v 3000) := clampInt_eq (by decide) v

theorem clampFirst_eq (first : Nat) : clampFirst first = min first 4294967294 := rfl

theorem clampCount_eq (first count : Nat) : clampCount first count = takenCount (clampFirst first) count := by
  unfold clampCount countTaken takenCount Config.lastInterval
  by_cases h0 : count = 0
  · simp [h0]
  · by_cases h96 : 96 < count
    · simp [h0, h96]; omega
    · simp [h0, h96]; omega

/-- The entry that a NOMINATE or ORDER inserts, after R31. -/
def takenEntry (first count : Nat) (amount : Int) : BookEntry := ⟨clampFirst first, clampCount first count, clampPower amount⟩

theorem entryLaw_takenEntry (first count : Nat) (amount : Int) : EntryLaw (takenEntry first count amount) := by
  simp only [EntryLaw, takenEntry, clampPower_eq, clampCount_eq, clampFirst_eq, takenCount]
  split <;> omega

end Sys2Proof.Machine
end

section
/-! PROOFS. NOMINATE, ORDER and CANCEL: their gate, what they make of their list, and their refusals (R31 to R35). -/

namespace Sys2Proof.Machine

/-! ## The gate -/

@[simp] theorem isSealed_eq_true (s : State) : s.isSealed = true ↔ s.seq.state ≠ .offline := by simp [State.isSealed]

theorem isSealed_eq_false (s : State) : s.isSealed = false ↔ s.seq.state = .offline := by simp [State.isSealed]

/-- Past the state, the kind and the clock the gate asks the list's rule alone (R33, R34, R35). -/
theorem bookGate_timed {s : State} {i : Nat} (hsealed : s.seq.state ≠ .offline) (hstore : s.isStore = false)
    (hclock : s.clock.current = some i) (l : ListName) (first : Nat) :
    bookGate l first s = if l.tooLate i first then some .tooLate else none := by
  simp [bookGate, State.isSealed, hsealed, hstore, hclock]

/-- The refusals that come before the list's rule. -/
theorem bookGate_closed {s : State} {code : Refuse}
    (h : (s.seq.state = .offline ∧ code = .badState) ∨ (s.seq.state ≠ .offline ∧ s.isStore = true ∧ code = .badKind)
      ∨ (s.seq.state ≠ .offline ∧ s.isStore = false ∧ s.clock.current = none ∧ code = .noTime)) (l : ListName) (first : Nat) :
    bookGate l first s = some code := by
  obtain ⟨hs, rfl⟩ | ⟨hs, hk, rfl⟩ | ⟨hs, hk, hc, rfl⟩ := h
  · simp [bookGate, State.isSealed, hs]
  · simp [bookGate, State.isSealed, hs, hk]
  · simp [bookGate, State.isSealed, hs, hk, hc]

@[simp] theorem bookGate_atInstant (l : ListName) (first t : Nat) (s : State) : bookGate l first (s.atInstant t) = bookGate l first s := rfl

/-! ## The list after a request -/

/-- The mark of a replaced list: the range of an ORDER has the current interval (R34). -/
def insertMark (l : ListName) (first count : Nat) (s : State) : Bool :=
  l == .orders && coversCurrent (clampFirst first) (clampFirst first + clampCount first count - 1) s

/-- Some value of a NOMINATE or ORDER was changed (R31). -/
def insertClamped (first count : Nat) (amount : Int) : Bool := rangeClamped first count || clampPower amount != amount

theorem handleInsert_refused {l : ListName} {first : Nat} {s : State} {code : Refuse} (h : bookGate l (clampFirst first) s = some code)
    (count : Nat) (amount : Int) : handleInsert l first count amount s = refuse code s := by
  simp [handleInsert, h]

theorem handleInsert_open {l : ListName} {first : Nat} {s : State} (h : bookGate l (clampFirst first) s = none) (count : Nat)
    (amount : Int) : handleInsert l first count amount s =
      replaceList l (replaced (takenEntry first count amount) (s.book.list l)) (insertMark l first count s)
        (insertClamped first count amount) s := by
  simp only [handleInsert, h]
  rfl

theorem replaceList_full {l : ListName} {es : List BookEntry} (h : l.capacity < es.length) (mark clamped : Bool) (s : State) :
    replaceList l es mark clamped s = refuse .bookFull s := if_pos h

theorem replaceList_room {l : ListName} {es : List BookEntry} (h : es.length ≤ l.capacity) (mark clamped : Bool) (s : State) :
    replaceList l es mark clamped s =
      ⟨{ s with book := { s.book.setList l es with orderChanged := s.book.orderChanged || mark } }, .accept clamped⟩ :=
  if_neg (Nat.not_lt.mpr h)

/-- The mark of a CANCEL (R35, log 14). -/
def cancelMark (l : ListName) (first count : Nat) (s : State) : Bool :=
  l == .orders && coversCurrent (clampFirst first) (clampFirst first + clampCount first count - 1) s
    && (s.book.list l).any (·.meets (clampFirst first) (clampFirst first + clampCount first count - 1))

/-- The list after a CANCEL (R35). -/
def cancelled (first count : Nat) (es : List BookEntry) : List BookEntry :=
  trimList (clampFirst first) (clampFirst first + clampCount first count - 1) es

theorem handleCancel_unknown {list : Byte} (h : listOfCode list.toNat = none) (first count : Nat) (s : State) :
    handleCancel list first count s = refuse .unknown s := by
  simp [handleCancel, h]

theorem handleCancel_refused {list : Byte} {l : ListName} {first : Nat} {s : State} {code : Refuse} (hl : listOfCode list.toNat = some l)
    (h : bookGate l (clampFirst first) s = some code) (count : Nat) : handleCancel list first count s = refuse code s := by
  simp [handleCancel, hl, h]

theorem handleCancel_open {list : Byte} {l : ListName} {first : Nat} {s : State} (hl : listOfCode list.toNat = some l)
    (h : bookGate l (clampFirst first) s = none) (count : Nat) : handleCancel list first count s =
      replaceList l (cancelled first count (s.book.list l)) (cancelMark l first count s) (rangeClamped first count) s := by
  simp only [handleCancel, hl, h]
  rfl

theorem one_le_clampCount (first count : Nat) : 1 ≤ clampCount first count := (entryLaw_takenEntry first count 0).1

theorem insertClamped_iff {first : Nat} (hfirst : first < 4294967296) (count : Nat) (amount : Int) :
    insertClamped first count amount = true ↔ first = 4294967295 ∨ 96 < count
      ∨ 4294967295 - min first 4294967294 < (if count = 0 then 96 else min count 96) ∨ amount < -3000 ∨ 3000 < amount := by
  have hcount : clampCount first count ≠ countTaken count ↔
      4294967295 - min first 4294967294 < (if count = 0 then 96 else min count 96) := by
    unfold clampCount countTaken clampFirst Config.lastInterval
    omega
  have hpower : clampPower amount ≠ amount ↔ amount < -3000 ∨ 3000 < amount := by rw [clampPower_eq]; omega
  have hfirst : clampFirst first ≠ first ↔ first = 4294967295 := by rw [clampFirst_eq]; omega
  simp only [insertClamped, rangeClamped, Bool.or_eq_true, bne_iff_ne, decide_eq_true_eq, hfirst, hcount, hpower, or_assoc]

/-- Counts of at most one each add up to no more than the length. -/
theorem sum_map_le_length {α : Type} {count : α → Nat} {xs : List α} (h : ∀ x ∈ xs, count x ≤ 1) : (xs.map count).sum ≤ xs.length := by
  induction xs with
  | nil => exact Nat.le_refl 0
  | cons x xs ih =>
    rw [List.map_cons, List.sum_cons, List.length_cons, Nat.add_comm]
    exact Nat.add_le_add (ih fun y hy => h y (List.mem_cons_of_mem _ hy)) (h x (List.mem_cons_self ..))

/-- A range trimmed out of disjoint entries leaves at most one entry more (R32). -/
theorem entriesLeft_le (f c : Nat) {es : List BookEntry} (h : es.Pairwise fun x y => x.first + x.count ≤ y.first) :
    entriesLeft f c es ≤ es.length + 1 := by
  induction h with
  | nil => simp [entriesLeft]
  | @cons e es hhead _ ih =>
    unfold entriesLeft at ih ⊢
    rw [List.map_cons, List.sum_cons, List.length_cons]
    by_cases hlast : f + c < e.first + e.count
    · have htail : (es.map fun x => (if x.first < f then 1 else 0) + (if f + c < x.first + x.count then 1 else 0)).sum ≤ es.length := by
        refine sum_map_le_length fun x hx => ?_
        have := hhead x hx
        rw [if_neg (by omega : ¬ x.first < f)]
        split <;> omega
      rw [if_pos hlast]
      split <;> omega
    · rw [if_neg hlast]
      split <;> omega

/-- Entries that leave a range free all stay. -/
theorem entriesLeft_of_free {f c : Nat} {es : List BookEntry}
    (h : ∀ e ∈ es, 1 ≤ e.count ∧ (e.first + e.count ≤ f ∨ f + c ≤ e.first)) (hc : 1 ≤ c) : entriesLeft f c es = es.length := by
  induction es with
  | nil => rfl
  | cons e es ih =>
    have he := h e (List.mem_cons_self ..)
    have htail := ih fun x hx => h x (List.mem_cons_of_mem _ hx)
    unfold entriesLeft at htail ⊢
    rw [List.map_cons, List.sum_cons, List.length_cons, htail]
    repeat' split
    all_goals omega

theorem entriesLeft_append (f c : Nat) (es fs : List BookEntry) : entriesLeft f c (es ++ fs) = entriesLeft f c es + entriesLeft f c fs := by
  simp [entriesLeft]

/-- An entry of the very range goes, and every other stays. -/
theorem entriesLeft_of_same {f c : Nat} {es : List BookEntry} (h : ListLaw es) (hc : 1 ≤ c)
    (hsame : ∃ e ∈ es, e.first = f ∧ e.count = c) : entriesLeft f c es + 1 = es.length := by
  obtain ⟨e, he, hfirst, hcount⟩ := hsame
  obtain ⟨pre, post, rfl⟩ := List.append_of_mem he
  obtain ⟨-, hpost, hpre⟩ := List.pairwise_append.mp h.2
  have hhead := (List.pairwise_cons.mp hpost).1
  have hleft : entriesLeft f c pre = pre.length := entriesLeft_of_free (fun x hx =>
    ⟨h.count (List.mem_append_left _ hx), .inl (hfirst ▸ hpre x hx e (List.mem_cons_self ..))⟩) hc
  have hright : entriesLeft f c post = post.length := entriesLeft_of_free (fun x hx =>
    ⟨h.count (List.mem_append_right _ (List.mem_cons_of_mem _ hx)), .inr (hfirst ▸ hcount ▸ hhead x hx)⟩) hc
  have hself : entriesLeft f c [e] = 0 := by simp [entriesLeft, hfirst, hcount]
  rw [List.append_cons, entriesLeft_append, entriesLeft_append, hleft, hright, hself]
  simp
  omega

/-! ## The three requests -/

theorem isTrain_not_store {s : State} (h : s.isTrain = true) : s.isStore = false := isStore_of_isTrain h

/-- A NOMINATE past its gate (R33). -/
theorem exec_nominate {s : State} {t : Nat} {tag : Byte} {first : Word} {count power : Half}
    (hnew : IsNew s tag (.nominate first count power)) (hgate : bookGate .nominations (clampFirst first.toNat) s = none)
    (hroom : (replaced (takenEntry first.toNat count.toNat power.toInt) s.book.noms).length ≤ 32) :
    exec (.nominate t tag first count power) s = .next (answered
      { s.atInstant t with book := { s.book with noms := replaced (takenEntry first.toNat count.toNat power.toInt) s.book.noms } } tag
      (.nominate first count power) (.accept (insertClamped first.toNat count.toNat power.toInt))) := by
  refine exec_new rfl hnew ?_
  rw [handle, handleInsert_open (by simpa using hgate)]
  rw [replaceList_room (by simpa [ListName.capacity, Config.nominationCapacity, Book.list] using hroom)]
  simp [Book.setList, Book.list, insertMark]

/-- An ORDER past its gate (R34). -/
theorem exec_order {s : State} {t : Nat} {tag : Byte} {first : Word} {count delta : Half}
    (hnew : IsNew s tag (.order first count delta)) (hgate : bookGate .orders (clampFirst first.toNat) s = none)
    (hroom : (replaced (takenEntry first.toNat count.toNat delta.toInt) s.book.orders).length ≤ 16) :
    exec (.order t tag first count delta) s = .next (answered
      { s.atInstant t with book := { s.book with
          orders := replaced (takenEntry first.toNat count.toNat delta.toInt) s.book.orders
          orderChanged := s.book.orderChanged || insertMark .orders first.toNat count.toNat s } } tag
      (.order first count delta) (.accept (insertClamped first.toNat count.toNat delta.toInt))) := by
  refine exec_new rfl hnew ?_
  rw [handle, handleInsert_open (by simpa using hgate)]
  rw [replaceList_room (by simpa [ListName.capacity, Config.orderCapacity, Book.list] using hroom)]
  rfl

/-- A CANCEL past its gate (R35). -/
theorem exec_cancel {s : State} {t : Nat} {tag list : Byte} {first : Word} {count : Half} {l : ListName}
    (hl : listOfCode list.toNat = some l)
    (hnew : IsNew s tag (.cancel list first count)) (hgate : bookGate l (clampFirst first.toNat) s = none)
    (hroom : (cancelled first.toNat count.toNat (s.book.list l)).length ≤ l.capacity) :
    exec (.cancel t tag list first count) s = .next (answered
      { s.atInstant t with book := { s.book.setList l (cancelled first.toNat count.toNat (s.book.list l)) with
          orderChanged := s.book.orderChanged || cancelMark l first.toNat count.toNat s } } tag
      (.cancel list first count) (.accept (rangeClamped first.toNat count.toNat))) := by
  refine exec_new rfl hnew ?_
  rw [handle, handleCancel_open hl (by simpa using hgate)]
  exact replaceList_room hroom _ _ _

end Sys2Proof.Machine
end

section
/-! PROOFS. The statements about NOMINATE, ORDER and CANCEL (R31 to R35). -/

namespace Sys2Proof.Machine

@[simp] theorem answered_book (u : State) (tag : Byte) (r : Request) (a : Answer) : (answered u tag r a).book = u.book := rfl

@[simp] theorem answered_owed (u : State) (tag : Byte) (r : Request) (a : Answer) :
    (answered u tag r a).link.owed = some ⟨tag, r.code, a⟩ := rfl

/-- The range of a request, as the statements write it. -/
theorem takenRange {first count f c : Nat} (hf : f = min first 4294967294) (hc : c = takenCount f count) :
    clampFirst first = f ∧ clampCount first count = c := by
  subst hf hc
  exact ⟨clampFirst_eq first, clampCount_eq first count⟩

/-- Settles O13: the new list by the facts about a replaced list. -/
theorem nominateCoversItsRange : Obligations.NominateCoversItsRange := by
  intro s t tag first count power i f c htrain hsealed hnew hclock hlist hf hc hlate hroom
  obtain ⟨hfirst, hcount⟩ := takenRange hf hc
  have hgate : bookGate .nominations (clampFirst first.toNat) s = none := by
    rw [bookGate_timed hsealed (isStore_of_isTrain htrain) hclock, hfirst]
    simp [ListName.tooLate, hlate]
  have hentry := entryLaw_takenEntry first.toNat count.toNat power.toInt
  have hlength : (replaced (takenEntry first.toNat count.toNat power.toInt) s.book.noms).length ≤ s.book.noms.length + 2 := by
    rw [replaced_length hentry.1 fun x hx => hlist.count hx]
    exact Nat.succ_le_succ (entriesLeft_le _ _ hlist.2)
  refine ⟨_, exec_nominate hnew hgate (Nat.le_trans hlength hroom), listLaw_replaced hentry hlist, hlength, ?_, _, rfl, ?_⟩
  · have hcovers := coversAfter_replaced hentry hlist
    simpa [takenEntry, hfirst, hcount, clampPower_eq] using hcovers
  · rw [insertClamped_iff first.isLt, hf]

/-- Settles O14: the new list by the facts about a replaced list, the mark by the range. -/
theorem orderCoversItsRange : Obligations.OrderCoversItsRange := by
  intro s t tag first count delta i f c htrain hsealed hnew hclock hlist hf hc hlate hroom
  obtain ⟨hfirst, hcount⟩ := takenRange hf hc
  have hgate : bookGate .orders (clampFirst first.toNat) s = none := by
    rw [bookGate_timed hsealed (isStore_of_isTrain htrain) hclock, hfirst]
    simp [ListName.tooLate, hlate]
  have hentry := entryLaw_takenEntry first.toNat count.toNat delta.toInt
  have hlength : (replaced (takenEntry first.toNat count.toNat delta.toInt) s.book.orders).length ≤ s.book.orders.length + 2 := by
    rw [replaced_length hentry.1 fun x hx => hlist.count hx]
    exact Nat.succ_le_succ (entriesLeft_le _ _ hlist.2)
  have hone := one_le_clampCount first.toNat count.toNat
  have hmark : insertMark .orders first.toNat count.toNat s = decide (f = i) := by
    rw [hcount] at hone
    simp only [insertMark, coversCurrent, hclock, hfirst, hcount, beq_self_eq_true, Bool.true_and, ← Bool.decide_and]
    exact decide_eq_decide.mpr (by omega)
  have hexec := exec_order (t := t) hnew hgate (Nat.le_trans hlength hroom)
  rw [hmark] at hexec
  refine ⟨_, hexec, listLaw_replaced hentry hlist, hlength, ?_, _, rfl, ?_⟩
  · have hcovers := coversAfter_replaced hentry hlist
    simpa [takenEntry, hfirst, hcount, clampPower_eq] using hcovers
  · rw [insertClamped_iff first.isLt, hf]

/-! ## CANCEL -/

theorem cancelled_eq {first count f c : Nat} (hf : clampFirst first = f) (hc : clampCount first count = c) (es : List BookEntry) :
    cancelled first count es = trimList f (f + c - 1) es := by rw [cancelled, hf, hc]

theorem cancelled_length_le {first count : Nat} {es : List BookEntry} (h : ListLaw es) : (cancelled first count es).length ≤ es.length + 1 := by
  rw [cancelled, trimList_length _ _ (one_le_clampCount first count) es fun e he => h.count he]
  exact entriesLeft_le _ _ h.2

/-- Where no interval of a range is covered no entry meets it. -/
theorem not_meets_of_uncovered {f c : Nat} {es : List BookEntry} (h : ListLaw es) (hc : 1 ≤ c)
    (hnone : ∀ j, f ≤ j → j < f + c → coveringEntry es j = none) : ∀ e ∈ es, e.meets f (f + c - 1) = false := by
  intro e he
  refine Bool.eq_false_iff.mpr fun hmeets => ?_
  obtain ⟨hlo, hhi⟩ := (trimEntry_meets hc (h.count he)).mp hmeets
  have hcount := h.count he
  refine (coveringEntry_eq_none_iff h (max f e.first)).mp (hnone _ (by omega) (by omega)) e he ?_
  unfold BookEntry.Has
  omega

theorem trimList_of_not_meets {lo hi : Nat} {es : List BookEntry} (h : ∀ e ∈ es, e.meets lo hi = false) : trimList lo hi es = es := by
  induction es with
  | nil => rfl
  | cons e es ih =>
    have he : trimEntry lo hi e = [e] := by simp [trimEntry, h e (List.mem_cons_self ..)]
    have htail := ih fun x hx => h x (List.mem_cons_of_mem _ hx)
    unfold trimList at htail ⊢
    rw [List.flatMap_cons, he, htail]
    rfl

/-- Settles O15: the new list by the facts about a trimmed list, the mark by what the range meets. -/
theorem cancelClearsItsRange : Obligations.CancelClearsItsRange := by
  intro s t tag first count i f c htrain hsealed hclock hf hc
  obtain ⟨hfirst, hcount⟩ := takenRange hf hc
  have hone : 1 ≤ c := hcount ▸ one_le_clampCount first.toNat count.toNat
  have hgate (l : ListName) (hl : l.tooLate i f = false) : bookGate l (clampFirst first.toNat) s = none := by
    rw [bookGate_timed hsealed (isStore_of_isTrain htrain) hclock, hfirst, hl]
    rfl
  refine ⟨fun hnew hlist hlate hroom => ?_, fun hnew hlist hlate hroom => ?_⟩
  · have hlength := Nat.le_trans (cancelled_length_le (first := first.toNat) (count := count.toNat) hlist) hroom
    have hmark : cancelMark .nominations first.toNat count.toNat s = false := rfl
    have hexec := exec_cancel (t := t) (list := 1) (l := .nominations) rfl hnew
      (hgate .nominations (by simp [ListName.tooLate, hlate])) hlength
    rw [hmark, Bool.or_false] at hexec
    refine ⟨_, hexec, ?_⟩
    simp only [answered, Book.setList, Book.list, cancelled_eq hfirst hcount]
    refine ⟨listLaw_trimList hlist hone, trimmedAfter_trimList hlist hone, fun hnone => ?_, _, rfl⟩
    rw [trimList_of_not_meets (not_meets_of_uncovered hlist hone hnone)]
  · have hlength := Nat.le_trans (cancelled_length_le (first := first.toNat) (count := count.toNat) hlist) hroom
    have hmark : cancelMark .orders first.toNat count.toNat s =
        (decide (f ≤ i ∧ i ≤ f + c - 1) && s.book.orders.any (·.meets f (f + c - 1))) := by
      simp [cancelMark, coversCurrent, hclock, hfirst, hcount, Book.list]
    have hexec := exec_cancel (t := t) (list := 2) (l := .orders) rfl hnew
      (hgate .orders (by simp [ListName.tooLate, hlate])) hlength
    refine ⟨_, hexec, ?_⟩
    simp only [answered, Book.setList, Book.list, cancelled_eq hfirst hcount, hmark]
    refine ⟨listLaw_trimList hlist hone, trimmedAfter_trimList hlist hone, fun hnone => ?_, fun hcovered hfi => ?_, fun hlt => ?_, _, rfl⟩
    · have hmeets := not_meets_of_uncovered hlist hone hnone
      have hany : s.book.orders.any (·.meets f (f + c - 1)) = false := List.any_eq_false.mpr fun e he => by simp [hmeets e he]
      rw [trimList_of_not_meets hmeets, hany, Bool.and_false, Bool.or_false]
    · obtain ⟨e, he⟩ := Option.ne_none_iff_exists'.mp hcovered
      obtain ⟨hmem, hhas⟩ := (coveringEntry_eq_some_iff hlist i e).mp he
      unfold BookEntry.Has at hhas
      have hmeets : e.meets f (f + c - 1) = true := (trimEntry_meets hone (hlist.count hmem)).mpr (by omega)
      rw [List.any_eq_true.mpr ⟨e, hmem, hmeets⟩, decide_eq_true (by omega)]
      simp
    · rw [decide_eq_false (by omega)]
      simp

/-! ## The refusals -/

theorem exec_nominate_refused {s : State} {tag : Byte} {first : Word} {count power : Half} {code : Refuse}
    (hnew : IsNew s tag (.nominate first count power)) (h : bookGate .nominations (clampFirst first.toNat) s = some code) (t : Nat) :
    exec (.nominate t tag first count power) s =
      .next (answered (s.atInstant t) tag (.nominate first count power) (.refuse code)) :=
  exec_new rfl hnew (handleInsert_refused (by simpa using h) _ _)

theorem exec_order_refused {s : State} {tag : Byte} {first : Word} {count delta : Half} {code : Refuse}
    (hnew : IsNew s tag (.order first count delta)) (h : bookGate .orders (clampFirst first.toNat) s = some code) (t : Nat) :
    exec (.order t tag first count delta) s =
      .next (answered (s.atInstant t) tag (.order first count delta) (.refuse code)) :=
  exec_new rfl hnew (handleInsert_refused (by simpa using h) _ _)

theorem exec_cancel_refused {s : State} {tag list : Byte} {first : Word} {count : Half} {l : ListName} {code : Refuse}
    (hl : listOfCode list.toNat = some l) (hnew : IsNew s tag (.cancel list first count))
    (h : bookGate l (clampFirst first.toNat) s = some code) (t : Nat) :
    exec (.cancel t tag list first count) s =
      .next (answered (s.atInstant t) tag (.cancel list first count) (.refuse code)) :=
  exec_new rfl hnew (handleCancel_refused hl (by simpa using h) _)

theorem exec_nominate_full {s : State} {tag : Byte} {first : Word} {count power : Half}
    (hnew : IsNew s tag (.nominate first count power)) (hgate : bookGate .nominations (clampFirst first.toNat) s = none)
    (hfull : 32 < (replaced (takenEntry first.toNat count.toNat power.toInt) s.book.noms).length) (t : Nat) :
    exec (.nominate t tag first count power) s =
      .next (answered (s.atInstant t) tag (.nominate first count power) (.refuse .bookFull)) := by
  refine exec_new rfl hnew ?_
  rw [handle, handleInsert_open (by simpa using hgate)]
  exact replaceList_full (l := .nominations) hfull _ _ _

theorem exec_order_full {s : State} {tag : Byte} {first : Word} {count delta : Half}
    (hnew : IsNew s tag (.order first count delta)) (hgate : bookGate .orders (clampFirst first.toNat) s = none)
    (hfull : 16 < (replaced (takenEntry first.toNat count.toNat delta.toInt) s.book.orders).length) (t : Nat) :
    exec (.order t tag first count delta) s =
      .next (answered (s.atInstant t) tag (.order first count delta) (.refuse .bookFull)) := by
  refine exec_new rfl hnew ?_
  rw [handle, handleInsert_open (by simpa using hgate)]
  exact replaceList_full (l := .orders) hfull _ _ _

theorem exec_cancel_full {s : State} {tag list : Byte} {first : Word} {count : Half} {l : ListName}
    (hl : listOfCode list.toNat = some l) (hnew : IsNew s tag (.cancel list first count))
    (hgate : bookGate l (clampFirst first.toNat) s = none)
    (hfull : l.capacity < (cancelled first.toNat count.toNat (s.book.list l)).length) (t : Nat) :
    exec (.cancel t tag list first count) s =
      .next (answered (s.atInstant t) tag (.cancel list first count) (.refuse .bookFull)) := by
  refine exec_new rfl hnew ?_
  rw [handle, handleCancel_open hl (by simpa using hgate)]
  exact replaceList_full hfull _ _ _

/-- A list byte other than 1 and 2 names no list. -/
theorem listOfCode_none {list : Byte} (h1 : list ≠ 1) (h2 : list ≠ 2) : listOfCode list.toNat = none := by
  unfold listOfCode
  split
  · next h => exact absurd (BitVec.eq_of_toNat_eq h) h1
  · next h => exact absurd (BitVec.eq_of_toNat_eq h) h2
  · rfl

theorem listOfCode_some {list : Byte} (h : list = 1 ∨ list = 2) : ∃ l, listOfCode list.toNat = some l := by
  obtain rfl | rfl := h
  · exact ⟨.nominations, rfl⟩
  · exact ⟨.orders, rfl⟩

/-- The length that decides BOOK_FULL of a NOMINATE and an ORDER (R32). -/
theorem replaced_takenEntry_length {first count f c : Nat} (hfirst : clampFirst first = f) (hcount : clampCount first count = c)
    (amount : Int) {es : List BookEntry} (h : ∀ x ∈ es, 1 ≤ x.count) :
    (replaced (takenEntry first count amount) es).length = entriesLeft f c es + 1 := by
  rw [replaced_length (entryLaw_takenEntry _ _ _).1 h]
  simp [takenEntry, hfirst, hcount]

theorem cancelled_length {first count f c : Nat} (hfirst : clampFirst first = f) (hcount : clampCount first count = c)
    {es : List BookEntry} (h : ∀ x ∈ es, 1 ≤ x.count) : (cancelled first count es).length = entriesLeft f c es := by
  subst hfirst hcount
  exact trimList_length _ _ (one_le_clampCount _ _) es h

/-- Settles O16: the gate's refusals in their order, then the capacity by the length of the new list. -/
theorem bookRequestRefusals : Obligations.BookRequestRefusals := by
  intro s t tag first count v
  refine ⟨fun code hcode => ?_, fun list h1 h2 hnew => ?_, fun i hclock hsealed hstore => ?_, fun i f c hclock hsealed hstore hf hc => ?_⟩
  · have hgate (l : ListName) := bookGate_closed hcode l (clampFirst first.toNat)
    refine ⟨fun hnew => exec_nominate_refused hnew (hgate _) t, fun hnew => exec_order_refused hnew (hgate _) t, fun list hlist hnew => ?_⟩
    obtain ⟨l, hl⟩ := listOfCode_some hlist
    exact exec_cancel_refused hl hnew (hgate l) t
  · exact exec_new rfl hnew (handleCancel_unknown (listOfCode_none h1 h2) _ _ _)
  · have hgate (l : ListName) := bookGate_timed hsealed hstore hclock l (clampFirst first.toNat)
    have hlate (l : ListName) (h : l.tooLate i (clampFirst first.toNat) = true) :
        bookGate l (clampFirst first.toNat) s = some .tooLate := by rw [hgate, h]; rfl
    have hopen (h : i < min first.toNat 4294967294) : bookGate .nominations (clampFirst first.toNat) s = none := by
      rw [hgate, ListName.tooLate, clampFirst_eq, decide_eq_false (Nat.not_le.mpr h)]
      rfl
    refine ⟨fun hle => ?_, fun hlt => ?_, fun hlt hnew hlist hroom hsame => ?_, fun hlt hnew hfull hfree hcount => ?_⟩
    · have h := hlate .nominations (decide_eq_true (clampFirst_eq _ ▸ hle))
      exact ⟨fun hnew => exec_nominate_refused hnew h t, fun hnew => exec_cancel_refused (l := .nominations) rfl hnew h t⟩
    · have h := hlate .orders (decide_eq_true (clampFirst_eq _ ▸ hlt))
      exact ⟨fun hnew => exec_order_refused hnew h t, fun hnew => exec_cancel_refused (l := .orders) rfl hnew h t⟩
    · have hlength := replaced_takenEntry_length rfl rfl v.toInt (first := first.toNat) (count := count.toNat) fun x hx => hlist.count hx
      rw [entriesLeft_of_same hlist (one_le_clampCount _ _) (by rwa [clampCount_eq])] at hlength
      exact ⟨_, exec_nominate hnew (hopen hlt) (hlength ▸ hroom), ⟨_, answered_owed _ _ _ _⟩, hlength⟩
    · refine exec_nominate_full hnew (hopen hlt) ?_ t
      rw [replaced_takenEntry_length rfl rfl v.toInt hcount, entriesLeft_of_free (fun e he => ⟨hcount e he, ?_⟩) (one_le_clampCount _ _), hfull]
      · omega
      · rw [clampCount_eq, clampFirst_eq]
        exact hfree e he
  · obtain ⟨hfirst, hcount⟩ := takenRange hf hc
    have hgate (l : ListName) (hl : l.tooLate i f = false) : bookGate l (clampFirst first.toNat) s = none := by
      rw [bookGate_timed hsealed hstore hclock, hfirst, hl]
      rfl
    refine ⟨fun hlt hlist hnew => ?_, fun hle hlist hnew => ?_, fun hlt hlist hnew => ?_, fun hle hlist hnew => ?_⟩
    · have hlength := replaced_takenEntry_length hfirst hcount v.toInt fun x hx => hlist.count hx
      have hopen := hgate .nominations (by simp [ListName.tooLate, hlt])
      exact ⟨fun hfull => exec_nominate_full hnew hopen (hlength ▸ hfull) t,
        fun hroom => ⟨_, exec_nominate hnew hopen (hlength ▸ hroom), ⟨_, answered_owed _ _ _ _⟩, hlength⟩⟩
    · have hlength := replaced_takenEntry_length hfirst hcount v.toInt fun x hx => hlist.count hx
      have hopen := hgate .orders (by simp [ListName.tooLate, hle])
      exact ⟨fun hfull => exec_order_full hnew hopen (hlength ▸ hfull) t,
        fun hroom => ⟨_, exec_order hnew hopen (hlength ▸ hroom), ⟨_, answered_owed _ _ _ _⟩, hlength⟩⟩
    · have hlength := cancelled_length hfirst hcount fun x hx => hlist.count hx
      have hopen := hgate .nominations (by simp [ListName.tooLate, hlt])
      exact ⟨fun hfull => exec_cancel_full (l := .nominations) rfl hnew hopen (hlength ▸ hfull) t,
        fun hroom => ⟨_, exec_cancel (l := .nominations) rfl hnew hopen (hlength ▸ hroom), ⟨_, answered_owed _ _ _ _⟩, hlength⟩⟩
    · have hlength := cancelled_length hfirst hcount fun x hx => hlist.count hx
      have hopen := hgate .orders (by simp [ListName.tooLate, hle])
      exact ⟨fun hfull => exec_cancel_full (l := .orders) rfl hnew hopen (hlength ▸ hfull) t,
        fun hroom => ⟨_, exec_cancel (l := .orders) rfl hnew hopen (hlength ▸ hroom), ⟨_, answered_owed _ _ _ _⟩, hlength⟩⟩

end Sys2Proof.Machine
end

section
/-! PROOFS. The capacities of the queues, lists and counts, and the order of both lists of the book, kept by every step (R9, R31, R41, R42, R143, R148,
R160). -/

namespace Sys2Proof.Machine

/-! ## The receive queue, the reports and the faults -/

/-- The receive queue holds at most 8 frames (R9). -/
def RxLaw (s : State) : Prop := s.bus.rx.length ≤ 8

theorem rxLaw_only : Only [.receiveQueue] RxLaw := by
  intro s u h hs
  have hrx : u.bus.rx = s.bus.rx := (h .receiveQueue (by simp)).1
  simpa [RxLaw, hrx] using hs

theorem rxLaw_endLeave (s : State) : RxLaw (endLeave s) := Nat.zero_le _

theorem rxLaw_enqueue (f : Frame) {s : State} (h : RxLaw s) : RxLaw (enqueue f s) := by
  unfold enqueue RxLaw
  split
  · next hroom =>
    have : s.bus.rx.length < 8 := hroom
    simp
    omega
  · split
    · exact h
    · simpa [RxLaw] using h

theorem rxLaw_arrival (bytes : List Byte) {s : State} (h : RxLaw s) : RxLaw (arrival bytes s) := by
  unfold arrival receiveFrame
  repeat' split
  · exact h
  · exact h
  · exact h
  · exact rxLaw_only.keeps (addressConflict_sameBut s) (by decide) h
  · exact rxLaw_enqueue _ h
  · exact h

theorem rxLaw_removeHead {s : State} (h : RxLaw s) : RxLaw (removeHead s) := by
  unfold RxLaw removeHead at *
  simp
  omega

theorem rxLaw_keptByEvents : KeptByEvents [.receiveQueue] [.receiveQueue] RxLaw RxLaw where
  only := rxLaw_only
  onlyWeak := rxLaw_only
  weaken := fun _ h => h
  read := fun s => rxLaw_only.readUpper (by decide) fun v _ => rxLaw_endLeave v
  leaveNow := fun s => .inr fun _ => rxLaw_endLeave s
  restart := fun s _ => .inr fun _ => Nat.zero_le _
  powerOn := fun s => .inr fun _ => Nat.zero_le _
  permitDown := fun s => .inr fun h => rxLaw_only.permitRemoved (by decide)
    (fun _ => rxLaw_only.keeps (enterStandby_sameBut _ _) (by decide) h)
    (fun _ _ => rxLaw_only.keeps (setpointIfFell_sameBut _ _) (by decide) (rxLaw_endLeave _)) fun _ _ _ => h
  arrived := fun bytes s => .inr (rxLaw_arrival bytes)
  head := fun s => .inr rxLaw_removeHead
  statusFrame := fun f tag arr rest s _ => .inr fun h =>
    rxLaw_only.keeps (statusFrameWork_sameBut f tag arr _) (by decide) (rxLaw_removeHead h)
  statusDue := fun s _ => .inr <| rxLaw_only.statusWork (by decide) fun v _ _ _ => rxLaw_endLeave v
  control := fun k s _ _ _ => .inr <| rxLaw_only.expiryStages (by decide) (fun v _ _ => rxLaw_endLeave v) fun v h _ _ _ =>
    rxLaw_only.keeps ((setWake_sameBut _ v).comp (enterStarting_sameBut _) (List.Subset.refl _)) (by decide) h

theorem reportLaw_only : Only [.reports] ReportLaw := by
  intro s u h hs
  obtain ⟨hreports, hno, -⟩ : Part.reports.same s u := h .reports (by simp)
  simpa [ReportLaw, hreports, hno] using hs

theorem reportLaw_keptByEvents : KeptByEvents [.reports] [.reports] ReportLaw ReportLaw where
  only := reportLaw_only
  onlyWeak := reportLaw_only
  weaken := fun _ h => h
  read := fun s => (readUpper_reports s).reportLaw
  sealing := fun s _ => .inr (acceptSeal_reports s).reportLaw
  record := fun form s _ _ => .inr (recordWork_reports _ s).reportLaw
  clear := fun s _ _ => .inr (clearWork_reports s).reportLaw
  leaveNow := fun s => .inr fun h =>
    reportLaw_only.keeps (sendSetpoint_sameBut _) (by decide) ((endLeave_reports s).reportLaw h)
  leaveRunning := fun s _ _ => .inr (startLeaving_reports s).reportLaw
  leaveStore := fun s _ => .inr (startStoreLeaving_reports s).reportLaw
  restart := fun s _ => .inr fun _ => ⟨Nat.zero_le _, Nat.zero_le _⟩
  queryState := fun s => .inr id
  transmitted := fun s => .inr fun h => by
    unfold transmit
    repeat' split
    · exact h
    · exact h
    · exact h
    · next r rs hrs =>
      have hlength : rs.length + 1 ≤ 16 := by simpa [hrs] using h.1
      exact ⟨by dsimp only; omega, h.2⟩
    · exact h
  powerOn := fun s => .inr fun _ => ⟨Nat.zero_le _, Nat.zero_le _⟩
  permitDown := fun s => .inr fun h => (permitRemoved_reports _).reportLaw (s := { s with permit := false }) h
  pulse := fun s => .inr (boundary_reports s).reportLaw
  advanced := fun i s _ => .inr (advance_reports i s).reportLaw
  arrived := fun bytes s => .inr (arrival_reports bytes s).reportLaw
  statusFrame := fun f tag arr rest s _ => .inr (statusFrameWork_reports f tag arr (removeHead s)).reportLaw
  lost := fun e s => .inr (loseWork_reports e s).reportLaw
  statusDue := fun s _ => .inr (statusWork_reports s).reportLaw
  freed := fun a s => .inr (freeWork_reports a s).reportLaw
  control := fun k s _ _ _ => .inr (expiryStages_reports k s).reportLaw
  window := fun s _ => .inr (endWindow_reports s).reportLaw
  started := fun s _ => .inr (enterRunning_reports s).reportLaw
  stoodBy := fun s _ => .inr (enterStandby_reports _ s).reportLaw
  stale := fun s _ => .inr (staleWork_reports s).reportLaw

/-- The link fault count stays at 65535 (R148). -/
def FaultLaw (s : State) : Prop := s.link.faults ≤ 65535

theorem faultLaw_only : Only [.faults] FaultLaw := by
  intro s u h hs
  have hfaults : u.link.faults = s.link.faults := h .faults (by simp)
  simpa [FaultLaw, hfaults] using hs

theorem faultLaw_keptByEvents : KeptByEvents [.faults] [.faults] FaultLaw FaultLaw where
  only := faultLaw_only
  onlyWeak := faultLaw_only
  weaken := fun _ h => h
  read := fun s => faultLaw_only.readUpper (by decide) fun v h =>
    faultLaw_only.keeps ((endLeave_sameBut v).comp (sendSetpoint_sameBut _) (List.Subset.refl _)) (by decide) h
  restart := fun s _ => .inr fun _ => Nat.zero_le _
  fault := fun s => .inr fun _ => Nat.min_le_left _ _
  powerOn := fun s => .inr fun _ => Nat.zero_le _

/-! ## The log, the lists and the counts -/

/-- The delivery log holds at most 48 records (R143). -/
def LogLaw (s : State) : Prop := s.account.log.length ≤ 48

theorem logLaw_only : Only [.log] LogLaw := by
  intro s u h hs
  have hlog : u.account.log = s.account.log := h .log (by simp)
  simpa [LogLaw, hlog] using hs

/-- A law that an interval change keeps, and that neither the clock nor a report touches, is kept at every pulse and advance. -/
theorem Only.boundary {ds : List Part} {P : State → Prop} (hP : Only ds P) (hd : ∀ p ∈ ds, p ∉ [Part.clock, .reports, .free])
    (hchange : ∀ n byFreeRun v, P v → P (changed n byFreeRun v)) {s : State} (h : P s) : P (boundary s) := by
  have hpulse (n : Nat) : P (pulseChange n s) := by
    unfold pulseChange
    rw [intervalChange_eq]
    refine hP.keepsWithin (produceEither_sameBut _ _ _) hd (by decide) (hchange n false _ ?_)
    exact hP.keepsWithin (setClock_sameBut _ s) hd (by decide) h
  unfold Machine.boundary
  repeat' split
  · exact h
  · exact h
  · exact hpulse _
  · exact hP.keepsWithin (setClock_sameBut _ s) hd (by decide) h
  · exact hpulse _
  · exact h
  · exact hpulse _

theorem Only.advance {ds : List Part} {P : State → Prop} (hP : Only ds P) (hd : ∀ p ∈ ds, p ∉ [Part.clock, .reports, .free])
    (hchange : ∀ n byFreeRun v, P v → P (changed n byFreeRun v)) (i : Nat) {s : State} (h : P s) : P (advance i s) := by
  have hclock (c : Clock) : P { s with clock := c } := hP.keepsWithin (setClock_sameBut _ s) hd (by decide) h
  unfold Machine.advance
  dsimp only
  rw [intervalChange_eq]
  refine hP.keepsWithin (produceEither_sameBut _ _ _) hd (by decide) (hchange _ true _ ?_)
  split
  · exact hclock _
  · exact hP.keepsWithin (produce_sameBut _ _) hd (by decide) (hclock _)

theorem logLaw_changed (n : Nat) (byFreeRun : Bool) {s : State} (h : LogLaw s) : LogLaw (changed n byFreeRun s) :=
  closedLog_length h byFreeRun

theorem logLaw_acceptSeal {s : State} (h : LogLaw s) : LogLaw (acceptSeal s) := by
  unfold acceptSeal LogLaw
  dsimp only
  split
  · simp [sealStore]
  · simpa [sealTrain, startStation, LogLaw] using h

theorem logLaw_keptByEvents : KeptByEvents [.log] [.log] LogLaw LogLaw where
  only := logLaw_only
  onlyWeak := logLaw_only
  weaken := fun _ h => h
  read := fun s => logLaw_only.readUpper (by decide) fun v h =>
    logLaw_only.keeps ((endLeave_sameBut v).comp (sendSetpoint_sameBut _) (List.Subset.refl _)) (by decide) h
  sealing := fun s _ => .inr logLaw_acceptSeal
  releaseLog := fun k s => .inr fun h => by
    unfold LogLaw at *
    simp [handleReleaseLog]
    omega
  powerOn := fun s => .inr fun _ => Nat.zero_le _
  pulse := fun s => .inr (logLaw_only.boundary (by decide) fun n b _ => logLaw_changed n b)
  advanced := fun i s _ => .inr (logLaw_only.advance (by decide) (fun n b _ => logLaw_changed n b) i)

/-- The lists of the book stay within their capacities (R31). -/
def ShelfLaw (s : State) : Prop := s.book.noms.length ≤ 32 ∧ s.book.orders.length ≤ 16

/-- Where both lists of the book are the same, so is a law of them alone. -/
theorem only_of_lists {Q : List BookEntry → List BookEntry → Prop} : Only [.noms, .orders] fun s => Q s.book.noms s.book.orders := by
  intro s u h hs
  have hnoms : u.book.noms = s.book.noms := h .noms (by simp)
  have horders : u.book.orders = s.book.orders := h .orders (by simp)
  simpa [hnoms, horders] using hs

section
variable {Q : List BookEntry → List BookEntry → Prop}

/-- A list replaced within its capacity, or left. -/
theorem replaceList_lists {l : ListName} {es : List BookEntry} {mark clamped : Bool} {s : State}
    (hnoms : l = .nominations → es.length ≤ 32 → Q es s.book.orders) (horders : l = .orders → es.length ≤ 16 → Q s.book.noms es)
    (h : Q s.book.noms s.book.orders) :
    Q (replaceList l es mark clamped s).state.book.noms (replaceList l es mark clamped s).state.book.orders := by
  by_cases hfull : l.capacity < es.length
  · rw [replaceList_full hfull]
    exact h
  · have hroom := Nat.not_lt.mp hfull
    rw [replaceList_room hroom]
    cases l
    · exact hnoms rfl hroom
    · exact horders rfl hroom

/-- A law of the two lists that a new entry, a cancelled range and a purge keep is kept by every step, where the empty lists have it. -/
theorem lists_keptByEvents (hnil : Q [] [])
    (hinsert : ∀ {e : BookEntry} {s : State}, EntryLaw e → Q s.book.noms s.book.orders →
      ((replaced e s.book.noms).length ≤ 32 → Q (replaced e s.book.noms) s.book.orders)
      ∧ ((replaced e s.book.orders).length ≤ 16 → Q s.book.noms (replaced e s.book.orders)))
    (hcancel : ∀ {first count : Nat} {s : State}, Q s.book.noms s.book.orders →
      ((cancelled first count s.book.noms).length ≤ 32 → Q (cancelled first count s.book.noms) s.book.orders)
      ∧ ((cancelled first count s.book.orders).length ≤ 16 → Q s.book.noms (cancelled first count s.book.orders)))
    (hpurge : ∀ {n : Nat} {noms orders : List BookEntry}, Q noms orders → Q (purgeList n noms) (purgeList n orders)) :
    KeptByEvents [.noms, .orders] [.noms, .orders] (fun s => Q s.book.noms s.book.orders) fun s => Q s.book.noms s.book.orders where
  only := only_of_lists
  onlyWeak := only_of_lists
  weaken := fun _ h => h
  read := fun s => only_of_lists.readUpper (by decide) fun v h =>
    only_of_lists.keeps ((endLeave_sameBut v).comp (sendSetpoint_sameBut _) (List.Subset.refl _)) (by decide) h
  sealing := fun s _ => .inr fun h => by
    unfold acceptSeal
    dsimp only
    split
    · simpa [sealStore] using hnil
    · simpa [sealTrain, startStation] using h
  insert := fun l first count amount s => .inr fun h => by
    cases hgate : bookGate l (clampFirst first) s with
    | some r => rw [handleInsert_refused hgate]; exact h
    | none =>
      rw [handleInsert_open hgate]
      have hnew := hinsert (entryLaw_takenEntry first count amount) h
      exact replaceList_lists (fun hl => hl ▸ hnew.1) (fun hl => hl ▸ hnew.2) h
  cancel := fun list first count s => .inr fun h => by
    cases hl : listOfCode list.toNat with
    | none => rw [handleCancel_unknown hl]; exact h
    | some l =>
      cases hgate : bookGate l (clampFirst first) s with
      | some r => rw [handleCancel_refused hl hgate]; exact h
      | none =>
        rw [handleCancel_open hl hgate]
        have hnew := hcancel (first := first) (count := count) h
        exact replaceList_lists (fun hl => hl ▸ hnew.1) (fun hl => hl ▸ hnew.2) h
  restart := fun s _ => .inr fun _ => hnil
  powerOn := fun s => .inr fun _ => hnil
  pulse := fun s => .inr <| only_of_lists.boundary (by decide) fun n b v h => by
    simpa [changed] using hpurge h
  advanced := fun i s _ => .inr <| only_of_lists.advance (by decide) (fun n b v h => by
    simpa [changed] using hpurge h) i

end

theorem shelfLaw_keptByEvents : KeptByEvents [.noms, .orders] [.noms, .orders] ShelfLaw ShelfLaw :=
  lists_keptByEvents (Q := fun noms orders => noms.length ≤ 32 ∧ orders.length ≤ 16) (by simp)
    (fun _ h => ⟨fun hroom => ⟨hroom, h.2⟩, fun hroom => ⟨h.1, hroom⟩⟩) (fun h => ⟨fun hroom => ⟨hroom, h.2⟩, fun hroom => ⟨h.1, hroom⟩⟩)
    fun h => ⟨Nat.le_trans (List.length_filter_le ..) h.1, Nat.le_trans (List.length_filter_le ..) h.2⟩

theorem bookLaw_keptByEvents : KeptByEvents [.noms, .orders] [.noms, .orders] BookLaw BookLaw :=
  lists_keptByEvents (Q := fun noms orders => ListLaw noms ∧ ListLaw orders) ⟨listLaw_nil, listLaw_nil⟩
    (fun he h => ⟨fun _ => ⟨listLaw_replaced he h.1, h.2⟩, fun _ => ⟨h.1, listLaw_replaced he h.2⟩⟩)
    (fun h => ⟨fun _ => ⟨listLaw_trimList h.1 (one_le_clampCount _ _), h.2⟩, fun _ => ⟨h.1, listLaw_trimList h.2 (one_le_clampCount _ _)⟩⟩)
    fun h => ⟨listLaw_purgeList h.1 _, listLaw_purgeList h.2 _⟩

/-- The settle count is at most 2 and the persistence count at most 3 (R41). -/
def CountLaw (s : State) : Prop := s.book.settle ≤ 2 ∧ s.book.persistence ≤ 3

theorem countLaw_only : Only [.agreement] CountLaw := by
  intro s u h hs
  obtain ⟨-, -, -, hpersistence, hsettle, -⟩ : Part.agreement.same s u := h .agreement (by simp)
  simpa [CountLaw, hpersistence, hsettle] using hs

theorem countLaw_judge {s : State} (h : CountLaw s) : CountLaw (judge s) := by
  have hjudged (i : Nat) : (s.book.judged s.view i).settle ≤ 2 ∧ (s.book.judged s.view i).persistence ≤ 3 := by
    unfold Book.judged
    dsimp only
    split
    · exact ⟨h.1, Nat.zero_le _⟩
    · exact h
  have hwith : CountLaw (judgeWith s).1 := by
    unfold judgeWith
    split
    · exact h
    · split
      · exact hjudged _
      · exact h
  obtain hj | ⟨r, hj⟩ := judge_cases s <;> rw [hj]
  · exact hwith
  · exact countLaw_only.keeps (produce_sameBut r _) (by decide) hwith

theorem countLaw_bookExpiry {s : State} (h : CountLaw s) : CountLaw (bookExpiry s) := by
  have hderive : CountLaw (deriveAtExpiry s) := by
    have hnoted (t : Option Int) : CountLaw (noteTarget t { s with book := { s.book with target := t } }) := by
      unfold noteTarget
      split <;> exact h
    unfold deriveAtExpiry
    dsimp only
    split
    · exact hnoted _
    · exact countLaw_judge (hnoted _)
  unfold bookExpiry
  generalize deriveAtExpiry s = v at hderive ⊢
  obtain ⟨hsettle, hpersistence⟩ := hderive
  unfold stepAgreement
  dsimp only
  repeat' split
  · exact ⟨by dsimp only; omega, hpersistence⟩
  · exact ⟨hsettle, hpersistence⟩
  · exact countLaw_only.keeps (produce_sameBut _ _) (by decide) ⟨hsettle, Nat.min_le_left _ _⟩
  · exact ⟨hsettle, Nat.min_le_left _ _⟩

theorem countLaw_endLeave (s : State) : CountLaw (endLeave s) := ⟨Nat.zero_le _, Nat.zero_le _⟩

theorem countLaw_changed (n : Nat) (byFreeRun : Bool) {s : State} (h : CountLaw s) : CountLaw (changed n byFreeRun s) := by
  obtain ⟨hsettle, hpersistence⟩ := changedBook_counts s n
  unfold CountLaw changed
  dsimp only
  rw [hsettle, hpersistence]
  obtain ⟨h1, h2⟩ := h
  split <;> omega

theorem countLaw_bookAtSeal {s : State} (h : CountLaw s) : CountLaw (bookAtSeal s) := by
  unfold bookAtSeal
  split
  · exact countLaw_judge h
  · exact countLaw_only.keeps (produce_sameBut _ _) (by decide) h

theorem countLaw_acceptSeal {s : State} (h : CountLaw s) : CountLaw (acceptSeal s) := by
  unfold acceptSeal
  refine countLaw_only.keeps (buildStatus_sameBut _) (by decide) ?_
  have henter : CountLaw (enterState .joining .sealed (startStation s)) := h
  split
  · exact henter
  · exact countLaw_only.keeps ((accountAtSeal_sameBut _).comp (decideMode_sameBut _) (List.Subset.refl _)) (by decide)
      (countLaw_bookAtSeal henter)

theorem countLaw_handOn (f : StatusFrame) (old : Option Entry) (arr : Nat) {s : State} (h : CountLaw s) :
    CountLaw (handOn f old arr s) := by
  unfold handOn
  split
  · exact countLaw_judge (countLaw_only.keeps (accountFrame_sameBut _ _ _ _ s) (by decide) h)
  · exact countLaw_only.keeps (accountDrop_sameBut _ _ s) (by decide) h
  · exact h

theorem countLaw_statusFrameWork (f : StatusFrame) (tag : Relation) (arr : Nat) {s : State} (h : CountLaw s) :
    CountLaw (statusFrameWork f tag arr s) := by
  have hreport := countLaw_only.keeps ((setView_sameBut (putEntry (entryFrom f tag arr (findEntry s.view f.address)) s.view) s).comp
    (produceOpt_sameBut (applyReport f.address (findEntry s.view f.address)) _) (List.Subset.refl _)) (by decide) h
  unfold statusFrameWork
  dsimp only
  split
  · exact countLaw_handOn _ _ _ hreport
  · exact hreport

theorem countLaw_expiryStages (k : Kind) {s : State} (h : CountLaw s) : CountLaw (expiryStages k s) := by
  rw [expiryStages_eq]
  refine countLaw_only.keeps (sendSetpoint_sameBut _) (by decide) ?_
  have hread := countLaw_only.keeps (readAtExpiry_sameBut (bookExpiry s)) (by decide) (countLaw_bookExpiry h)
  refine countLaw_only.expiryWork (by decide) (fun v _ _ => countLaw_endLeave v) (fun _ _ => ?_) hread
  exact countLaw_only.keeps ((setWake_sameBut _ _).comp (enterStarting_sameBut _) (List.Subset.refl _)) (by decide) hread

theorem countLaw_keptByEvents : KeptByEvents [.agreement] [.agreement] CountLaw CountLaw where
  only := countLaw_only
  onlyWeak := countLaw_only
  weaken := fun _ h => h
  read := fun s => countLaw_only.readUpper (by decide) fun v _ => countLaw_endLeave v
  sealing := fun s _ => .inr countLaw_acceptSeal
  leaveNow := fun s => .inr fun _ => countLaw_endLeave s
  restart := fun s _ => .inr fun _ => ⟨Nat.zero_le _, Nat.zero_le _⟩
  powerOn := fun s => .inr fun _ => ⟨Nat.zero_le _, Nat.zero_le _⟩
  permitDown := fun s => .inr fun h => countLaw_only.permitRemoved (by decide)
    (fun _ => countLaw_only.keeps (enterStandby_sameBut _ _) (by decide) h)
    (fun _ _ => countLaw_only.keeps (setpointIfFell_sameBut _ _) (by decide) (countLaw_endLeave _)) fun _ _ _ => h
  pulse := fun s => .inr (countLaw_only.boundary (by decide) fun n b _ => countLaw_changed n b)
  advanced := fun i s _ => .inr (countLaw_only.advance (by decide) (fun n b _ => countLaw_changed n b) i)
  statusFrame := fun f tag arr rest s _ => .inr fun h =>
    countLaw_statusFrameWork f tag arr (countLaw_only.keeps (removeHead_sameBut s) (by decide) h)
  statusDue := fun s _ => .inr <| countLaw_only.statusWork (by decide) fun v _ _ _ => countLaw_endLeave v
  control := fun k s _ _ _ => .inr (countLaw_expiryStages k)

/-! ## The zone table -/

/-- The zone table has its eight zones (R86). -/
def ZoneLaw (s : State) : Prop := s.heat.zones.length = 8

theorem zoneLaw_only : Only [.zones] ZoneLaw := by
  intro s u h hs
  obtain ⟨hzones, -⟩ : Part.zones.same s u := h .zones (by simp)
  simpa [ZoneLaw, hzones] using hs

theorem classifyZones_length (hot cold : Nat) (zs : List Zone) (ts : List Nat) : (classifyZones hot cold zs ts).length = zs.length := by
  induction zs generalizing ts with
  | nil => cases ts <;> rfl
  | cons z zs ih =>
    cases ts with
    | nil => rfl
    | cons t ts => simp [classifyZones, ih]

theorem zoneLaw_takeIn (r : Measurement) {s : State} (h : ZoneLaw s) : ZoneLaw (takeIn r s) := by
  cases r with
  | train o f p t v => exact zoneLaw_only.keeps ((holdRecord_sameBut _ s).comp (accountRecord_sameBut o _) (List.Subset.refl _)) (by decide) h
  | store zones =>
    unfold takeIn classifyRecord ZoneLaw
    dsimp only
    rw [classifyZones_length]
    exact zoneLaw_only.keeps (holdRecord_sameBut _ s) (by decide) h

theorem zoneLaw_acceptSeal (s : State) : ZoneLaw (acceptSeal s) := by
  unfold acceptSeal ZoneLaw
  dsimp only
  split <;> simp [sealStore, sealTrain, startStation]

theorem zoneLaw_keptByEvents : KeptByEvents [.zones] [.zones] ZoneLaw ZoneLaw where
  only := zoneLaw_only
  onlyWeak := zoneLaw_only
  weaken := fun _ h => h
  read := fun s => zoneLaw_only.readUpper (by decide) fun v h =>
    zoneLaw_only.keeps ((endLeave_sameBut v).comp (sendSetpoint_sameBut _) (List.Subset.refl _)) (by decide) h
  sealing := fun s _ => .inr fun _ => zoneLaw_acceptSeal s
  record := fun form s _ _ => .inr fun h =>
    have hjudged := zoneLaw_only.keeps (recordJudged_ofTakeIn (Measurement.ofForm form) s) (by decide) (zoneLaw_takeIn _ h)
    zoneLaw_only.recordWork (by decide) (fun _ _ => zoneLaw_only.keeps (trip_sameBut _ _) (by decide) hjudged) fun _ => hjudged
  restart := fun s _ => .inr fun _ => rfl
  powerOn := fun s => .inr fun _ => rfl

/-! ## The whole law -/

/-- The law of the capacities is that of each queue, list and count. -/
theorem capacityLaw_iff (s : State) : CapacityLaw s ↔
    RxLaw s ∧ ReportLaw s ∧ FaultLaw s ∧ LogLaw s ∧ ShelfLaw s ∧ CountLaw s ∧ ZoneLaw s := by
  unfold CapacityLaw RxLaw ReportLaw FaultLaw LogLaw ShelfLaw CountLaw ZoneLaw
  simp only [and_assoc]

theorem keptByStep_congr {P Q : State → Prop} (h : ∀ s, P s ↔ Q s) (hQ : KeptByStep Q) : KeptByStep P :=
  fun s u hs hu => (h u).mpr (hQ s u ((h s).mp hs) hu)

/-- Settles O55: each capacity, and the order of both lists, by the goals of its events. -/
theorem stepKeepsCapacitiesAndBook : Obligations.StepKeepsCapacitiesAndBook := by
  refine ⟨keptByStep_congr capacityLaw_iff ?_, bookLaw_keptByEvents.keptByStep⟩
  exact keptByStep_and rxLaw_keptByEvents.keptByStep <| keptByStep_and reportLaw_keptByEvents.keptByStep <|
    keptByStep_and faultLaw_keptByEvents.keptByStep <| keptByStep_and logLaw_keptByEvents.keptByStep <|
    keptByStep_and shelfLaw_keptByEvents.keptByStep <| keptByStep_and countLaw_keptByEvents.keptByStep zoneLaw_keptByEvents.keptByStep

end Sys2Proof.Machine
end

section
/-! PROOFS. The command stays at 0 or between m and U: the share computation gives no other value, and every read of U cuts to it (R47, R50, R53, R61 to
R64). -/

namespace Sys2Proof.Machine

/-! ## The values of the share computation -/

/-- A value that a train with this m and this U may take: 0, or from m to U. -/
def Settable (m u c : Nat) : Prop := c = 0 ∨ (m ≤ c ∧ c ≤ u)

theorem snap_zero_or_ge (m desired : Nat) : snap m desired = 0 ∨ m ≤ snap m desired := by
  unfold snap
  split
  · assumption
  · split
    · exact .inr (Nat.le_refl _)
    · exact .inl rfl

/-- The step down leaves 0 or a value above m (R53). -/
theorem stepDown_zero_or_ge (command r m : Nat) : stepDown command r m = 0 ∨ m ≤ stepDown command r m := by
  unfold stepDown
  split <;> omega

/-- The ramp leaves 0 or at least m of a desired value that is 0 or at least m (R62). -/
theorem ramp_zero_or_ge {command m r desired : Nat} (hc : command = 0 ∨ m ≤ command) (hd : desired = 0 ∨ m ≤ desired) :
    ramp command m r desired = 0 ∨ m ≤ ramp command m r desired := by
  unfold ramp
  split
  · exact hd
  · split <;> omega

theorem settable_cutTo {m u v : Nat} (hu : u = 0 ∨ m ≤ u) (hv : v = 0 ∨ m ≤ v) : Settable m u (cutTo u v) := by
  unfold Settable cutTo
  omega

theorem settable_allow {s : State} {k : Kind} {result : Nat} (hu : s.share.lastU = 0 ∨ s.inForce.minLoad ≤ s.share.lastU)
    (hc : s.share.command = 0 ∨ s.inForce.minLoad ≤ s.share.command) (h : Settable s.inForce.minLoad s.share.lastU result) :
    Settable s.inForce.minLoad s.share.lastU (allow s k result) := by
  unfold allow
  repeat' split
  · exact h
  · exact h
  · exact settable_cutTo hu hc

/-- The share computation gives 0 or a value from m to the U read (R52 to R64). -/
theorem newCommand_settable {s : State} (k : Kind) (hu : s.share.lastU = 0 ∨ s.inForce.minLoad ≤ s.share.lastU)
    (hc : s.share.command = 0 ∨ s.inForce.minLoad ≤ s.share.command) :
    Settable s.inForce.minLoad s.share.lastU (newCommand s k) := by
  unfold newCommand
  split
  · exact settable_allow hu hc (settable_cutTo hu (ramp_zero_or_ge hc (snap_zero_or_ge _ _)))
  · exact settable_cutTo hu (stepDown_zero_or_ge _ _ _)

/-! ## The law between the work of an event and its read of U -/

/-- The parts that the upper limit and the command depend on. -/
def commandParts : List Part := [.command, .state, .inForce, .holder, .view, .cooled, .cap]

/-- The command is 0, or that of a loaded train, and not below m. -/
def HeldCommandLaw (s : State) : Prop :=
  s.share.command = 0 ∨ (s.seq.state.loaded = true ∧ s.inForce.minLoad ≤ s.share.command ∧ s.isTrain = true)

theorem upperLimit_of_parts {s u : State} (h : ∀ p ∈ [Part.inForce, .holder, .view, .cooled, .cap], p.same s u) :
    upperLimit u = upperLimit s :=
  upperLimit_congr (h .inForce (by simp)) (h .holder (by simp)) (h .view (by simp)) (h .cooled (by simp)) (h .cap (by simp))

theorem SameBut.upperLimit {ps : List Part} {s u : State} (h : SameBut ps s u)
    (hd : ∀ p ∈ [Part.inForce, .holder, .view, .cooled, .cap], p ∉ ps) : upperLimit u = upperLimit s :=
  upperLimit_of_parts fun p hp => h p (hd p hp)

theorem commandLaw_only : Only commandParts CommandLaw := by
  intro s u h hs
  have hcommand : u.share.command = s.share.command := h .command (by decide)
  have hstate : u.seq.state = s.seq.state := h .state (by decide)
  have hforce : u.inForce = s.inForce := h .inForce (by decide)
  have hlimit : upperLimit u = upperLimit s := upperLimit_of_parts fun p hp => h p (by revert p; decide)
  simpa [CommandLaw, hcommand, hstate, hforce, hlimit] using hs

theorem heldCommandLaw_only : Only [.command, .state, .inForce] HeldCommandLaw := by
  intro s u h hs
  have hcommand : u.share.command = s.share.command := h .command (by decide)
  have hstate : u.seq.state = s.seq.state := h .state (by decide)
  have hforce : u.inForce = s.inForce := h .inForce (by decide)
  simpa [HeldCommandLaw, State.isTrain, hcommand, hstate, hforce] using hs

/-- Only a train has an upper limit above 0 (R49). -/
theorem isTrain_of_upperLimit {s : State} (h : upperLimit s ≠ 0) : s.isTrain = true := by
  have hheat : heatCap s ≠ 0 := by
    intro h0
    apply h
    unfold upperLimit leastCap
    rw [h0]
    split <;> simp
  unfold heatCap at hheat
  unfold State.isTrain
  split at hheat
  · next hk => simp [hk]
  · next hk => simp [hk]
  · exact absurd rfl hheat

theorem CommandLaw.held {s : State} (h : CommandLaw s) : HeldCommandLaw s := by
  by_cases h0 : s.share.command = 0
  · exact .inl h0
  · obtain h | ⟨hl, hm, hu⟩ := h
    · exact absurd h h0
    · exact .inr ⟨hl, hm, isTrain_of_upperLimit (by omega)⟩

theorem CommandLaw.zero_or_ge {s : State} (h : CommandLaw s) : s.share.command = 0 ∨ s.inForce.minLoad ≤ s.share.command :=
  h.imp id fun h => h.2.1

/-- Out of RUNNING and LEAVING the command is 0 (R47). -/
theorem CommandLaw.idle {s : State} (h : CommandLaw s) (hl : s.seq.state.loaded = false) : s.share.command = 0 := by
  obtain h | ⟨h, -⟩ := h
  · exact h
  · rw [hl] at h; cases h

theorem HeldCommandLaw.idle {s : State} (h : HeldCommandLaw s) (hl : s.seq.state.loaded = false) : s.share.command = 0 := by
  obtain h | ⟨h, -⟩ := h
  · exact h
  · rw [hl] at h; cases h

theorem commandLaw_of_zero {s : State} (h : s.share.command = 0) : CommandLaw s := .inl h

theorem heldCommandLaw_of_zero {s : State} (h : s.share.command = 0) : HeldCommandLaw s := .inl h

/-- A read of U brings the command to U or below (R50). -/
theorem commandLaw_readUpper {s : State} (h : HeldCommandLaw s) : CommandLaw (readUpper s) := by
  have hlimit : upperLimit (readU (decideMode s)) = upperLimit (decideMode s) := (readU_sameBut _).upperLimit (by decide)
  obtain ⟨hidle, hr⟩ | ⟨-, hr, hle⟩ | ⟨-, hl, hcut, hr⟩ := readUpper_cases s
  · rw [hr]
    refine commandLaw_of_zero ?_
    obtain h0 | ⟨hl, -, ht⟩ := h
    · exact h0
    · have hsealed : s.seq.state = .offline := by simpa [ht, State.isSealed] using hidle
      rw [hsealed] at hl
      cases hl
  · rw [hr]
    obtain h0 | ⟨hl, hm, -⟩ := h
    · exact commandLaw_of_zero (by simpa using h0)
    · refine .inr ⟨by simpa using hl, by simpa using hm, ?_⟩
      rw [hlimit]
      simpa using hle (by simpa using hl)
  · rw [hr]
    refine commandLaw_only.keeps (sendSetpoint_sameBut _) (by decide) ?_
    by_cases h0 : upperLimit (decideMode s) = 0
    · exact commandLaw_of_zero (by simp [h0])
    · have hstay : ¬ ((readU (decideMode s)).seq.state = .leaving ∧ upperLimit (decideMode s) = 0) := fun hl => h0 hl.2
      have hframe := setCommand_sameBut hstay
      refine .inr ⟨by rw [hframe.state (by decide)]; simpa using hl, ?_, ?_⟩
      · rw [setCommand_command, hframe.inForce (by decide)]
        simpa using (upperLimit_zero_or_ge (decideMode s)).resolve_left h0
      · exact Nat.le_of_eq (by rw [setCommand_command, hframe.upperLimit (by decide), hlimit])

/-! ## The events -/

theorem commandLaw_enterActive (cause : Cause) {s : State} (h : s.share.command = 0) : CommandLaw (enterActive cause s) :=
  commandLaw_of_zero ((enterActive_sameBut cause s .command (by decide)).trans h)

theorem heldCommandLaw_recordWork (r : Measurement) {s : State} (h : HeldCommandLaw s) : HeldCommandLaw (recordWork r s) :=
  heldCommandLaw_only.recordWork (by decide) (fun _ _ => heldCommandLaw_of_zero (by simp))
    fun _ => heldCommandLaw_only.keeps (recordJudged_sameBut r s) (by decide) h

theorem heldCommandLaw_staleWork {s : State} (h : HeldCommandLaw s) : HeldCommandLaw (staleWork s) :=
  heldCommandLaw_only.staleWork (by decide) (fun _ _ => heldCommandLaw_of_zero (by simp))
    fun _ => heldCommandLaw_only.keeps (staleJudged_sameBut s) (by decide) h

theorem heldCommandLaw_clearWork {s : State} (h : HeldCommandLaw s) : HeldCommandLaw (clearWork s) := by
  refine heldCommandLaw_only.clearWork (by decide) (fun ht _ => ?_) (fun _ => heldCommandLaw_of_zero (by simp)) h
  exact heldCommandLaw_of_zero ((enterActive_sameBut .clear _ .command (by decide)).trans (h.idle (by rw [ht]; rfl)))

theorem commandLaw_startLeaving {s : State} (h : CommandLaw s) : CommandLaw (startLeaving s) := by
  have hframe := startLeaving_sameBut s
  have hcommand : (startLeaving s).share.command = s.share.command := hframe .command (by decide)
  obtain h | ⟨-, hm, hu⟩ := h
  · exact commandLaw_of_zero (hcommand.trans h)
  · refine .inr ⟨rfl, ?_, ?_⟩
    · rw [hcommand, hframe.inForce (by decide)]; exact hm
    · rw [hcommand, hframe.upperLimit (by decide)]; exact hu

/-- The new command of a control period expiry obeys the law (R48, R63). -/
theorem commandLaw_loadedExpiry {k : Kind} {s : State} (hl : s.seq.state.loaded = true) (hread : s.share.lastU = upperLimit s)
    (hc : s.share.command = 0 ∨ s.inForce.minLoad ≤ s.share.command) : CommandLaw (loadedExpiry k s) := by
  have hsettable := newCommand_settable k (hread ▸ upperLimit_zero_or_ge s) hc
  unfold loadedExpiry
  generalize newCommand s k = c at hsettable
  obtain rfl | ⟨hm, hu⟩ := hsettable
  · exact commandLaw_of_zero (by simp)
  · by_cases hend : s.seq.state = .leaving ∧ c = 0
    · exact commandLaw_of_zero (by simp [hend.2])
    · have hset := setCommand_sameBut (c := c) (s := notePeriod s) (by simpa using hend)
      have hframe := (notePeriod_sameBut s).comp hset (List.Subset.refl _)
      refine .inr ⟨by rw [hframe.state (by decide)]; exact hl, ?_, ?_⟩
      · rw [setCommand_command, hframe.inForce (by decide)]; exact hm
      · rw [setCommand_command, hframe.upperLimit (by decide), ← hread]; exact hu

theorem commandLaw_expiryStages (k : Kind) {s : State} (h : CommandLaw s) : CommandLaw (expiryStages k s) := by
  have hread : (readAtExpiry (bookExpiry s)).share.lastU = upperLimit (readAtExpiry (bookExpiry s)) := by
    unfold readAtExpiry
    rw [(readU_sameBut _).upperLimit (by decide)]
    rfl
  have hheld := heldCommandLaw_only.keeps ((bookExpiry_sameBut s).comp (readAtExpiry_sameBut _) (List.Subset.refl _)) (by decide) h.held
  rw [expiryStages_eq]
  refine commandLaw_only.keeps (sendSetpoint_sameBut _) (by decide) ?_
  generalize readAtExpiry (bookExpiry s) = v at hread hheld ⊢
  unfold expiryWork
  split
  · next hl => exact commandLaw_loadedExpiry hl hread (hheld.imp id fun h => h.2.1)
  · next hl =>
    have h0 : v.share.command = 0 := hheld.idle (by simpa using hl)
    split
    · unfold standbyExpiry
      dsimp only
      split
      · exact commandLaw_of_zero (by simp [enterStarting])
      · exact commandLaw_of_zero h0
    · exact commandLaw_of_zero h0

theorem commandLaw_keptByEvents : KeptByEvents commandParts [.command, .state, .inForce] CommandLaw HeldCommandLaw where
  only := commandLaw_only
  onlyWeak := heldCommandLaw_only
  weaken := fun _ h => h.held
  read := fun _ => commandLaw_readUpper
  sealing := fun s _ => .inr fun _ => commandLaw_of_zero (by simp)
  record := fun form s _ _ => .inr fun h => heldCommandLaw_recordWork _ h.held
  clear := fun s _ _ => .inr fun h => heldCommandLaw_clearWork h.held
  leaveNow := fun s => .inr fun _ => commandLaw_of_zero (by simp [leaveAtOnce])
  leaveRunning := fun s _ _ => .inr commandLaw_startLeaving
  leaveStore := fun s ha => .inr fun h => commandLaw_of_zero (by simpa [startStoreLeaving] using h.idle (by rw [ha]; rfl))
  restart := fun s _ => .inr fun _ => commandLaw_of_zero rfl
  powerOn := fun s => .inr fun _ => commandLaw_of_zero rfl
  permitDown := fun s => .inr fun h => commandLaw_only.permitRemoved (by decide) (fun _ => commandLaw_of_zero (by simp))
    (fun _ _ => commandLaw_of_zero (by simp)) fun _ _ _ => h
  arrived := fun bytes s => .inr <| commandLaw_only.arrival (by decide) bytes fun _ => commandLaw_of_zero (by simp)
  statusDue := fun s _ => .inr <| commandLaw_only.statusWork (by decide) fun v _ _ _ => commandLaw_of_zero (by simp)
  control := fun k s _ _ _ => .inr (commandLaw_expiryStages k)
  window := fun s hj => .inr fun h => endWindow_induction (fun _ _ => commandLaw_enterActive _ (h.idle (by rw [hj]; rfl)))
    (fun _ _ => commandLaw_of_zero (by simp)) fun _ => commandLaw_of_zero (by simp)
  started := fun s hs => .inr fun h => commandLaw_of_zero (by simpa [enterRunning] using h.idle (by rw [hs]; rfl))
  stoodBy := fun s _ => .inr fun _ => commandLaw_of_zero (by simp)
  stale := fun s _ => .inr fun h => heldCommandLaw_staleWork h.held

/-- Settles O54: the command by the goals of its events, with the bound by U restored at each read. -/
theorem stepKeepsCommandLaw : Obligations.StepKeepsCommandLaw := commandLaw_keptByEvents.keptByStep

end Sys2Proof.Machine
end

section
/-! PROOFS. Each timer runs in the states it runs in: a change of state stops the timers of the state left and starts those of the state entered (R1, R46,
R99, R105 to R117, R126, R157). -/

namespace Sys2Proof.Machine

/-! ## The law with what it rests on -/

/-- The timers by the states they run in, with the command at 0 where it is not held, on which the standby timer turns. -/
structure ClockedLaw (s : State) : Prop where
  status : s.bus.statusTimer.isSome = true ↔ s.seq.state ≠ .offline ∧ s.seq.state ≠ .conflict
  share : s.share.timer.isSome = true ↔ s.seq.state ≠ .offline ∧ s.isTrain = true
  join : s.seq.joinTimer.isSome = true ↔ s.seq.state = .joining
  start : s.seq.startTimer.isSome = true ↔ s.seq.state = .starting
  standby : s.seq.standbyTimer.isSome = true ↔ s.seq.state = .running ∧ s.share.command = 0
  stale : s.link.staleTimer.isSome = true ↔ s.seq.state ≠ .offline ∧ s.link.staleMark = false
  blanking : s.bank.blankThermal.isSome = true ∨ s.bank.blankMargin.isSome = true → s.seq.state = .running ∨ s.seq.state = .leaving
  idle : s.seq.state.loaded = false → s.share.command = 0

theorem ClockedLaw.timerLaw {s : State} (h : ClockedLaw s) : TimerLaw s :=
  ⟨h.status, h.share, h.join, h.start, h.standby, h.stale, h.blanking⟩

theorem clockedLaw_of_timerLaw {s : State} (h : TimerLaw s) (hidle : s.seq.state.loaded = false → s.share.command = 0) :
    ClockedLaw s := by
  obtain ⟨hstatus, hshare, hjoin, hstart, hstandby, hstale, hblanking⟩ := h
  exact ⟨hstatus, hshare, hjoin, hstart, hstandby, hstale, hblanking, hidle⟩

/-- The parts of the law. -/
def clockedParts : List Part :=
  [.statusTimer, .shareTimer, .joinTimer, .startTimer, .standbyTimer, .staleTimer, .blanking, .state, .inForce, .command]

theorem clockedLaw_only : Only clockedParts ClockedLaw := by
  intro s u h hs
  have hstatus : u.bus.statusTimer = s.bus.statusTimer := h .statusTimer (by decide)
  have hshare : u.share.timer = s.share.timer := h .shareTimer (by decide)
  have hjoin : u.seq.joinTimer = s.seq.joinTimer := h .joinTimer (by decide)
  have hstart : u.seq.startTimer = s.seq.startTimer := h .startTimer (by decide)
  have hstandby : u.seq.standbyTimer = s.seq.standbyTimer := h .standbyTimer (by decide)
  have hstale : u.link.staleTimer = s.link.staleTimer ∧ u.link.staleMark = s.link.staleMark := h .staleTimer (by decide)
  have hblanking : u.bank.blankThermal = s.bank.blankThermal ∧ u.bank.blankMargin = s.bank.blankMargin := h .blanking (by decide)
  have hstate : u.seq.state = s.seq.state := h .state (by decide)
  have hforce : u.inForce = s.inForce := h .inForce (by decide)
  have hcommand : u.share.command = s.share.command := h .command (by decide)
  constructor
  · rw [hstatus, hstate]; exact hs.status
  · rw [hshare, hstate, State.isTrain, hforce]; exact hs.share
  · rw [hjoin, hstate]; exact hs.join
  · rw [hstart, hstate]; exact hs.start
  · rw [hstandby, hstate, hcommand]; exact hs.standby
  · rw [hstale.1, hstale.2, hstate]; exact hs.stale
  · rw [hblanking.1, hblanking.2, hstate]; exact hs.blanking
  · rw [hstate, hcommand]; exact hs.idle

theorem cooledLaw_only : Only [.cooled, .inForce, .state] CooledLaw := by
  intro s u h hs
  have hcooled : u.heat.cooled = s.heat.cooled := h .cooled (by decide)
  have hforce : u.inForce = s.inForce := h .inForce (by decide)
  have hstate : u.seq.state = s.seq.state := h .state (by decide)
  simpa [CooledLaw, hcooled, hforce, hstate] using hs

/-- The law of the timers and that of the cooled flag, which needs a running share timer to be sealed. -/
def TimedLaw (s : State) : Prop := ClockedLaw s ∧ CooledLaw s

/-- The parts of both laws. -/
def timedParts : List Part := .cooled :: clockedParts

theorem timedLaw_only : Only timedParts TimedLaw := (clockedLaw_only.mono (by decide)).and (cooledLaw_only.mono (by decide))

/-! ## The cooled flag -/

/-- The flag is set on a compressor in service alone, and a state that is entered keeps it only where it was set or is a compressor's. -/
theorem CooledLaw.sealed {s u : State} (h : CooledLaw s)
    (hcooled : u.heat.cooled = true → s.heat.cooled = true ∨ s.inForce.kind = some .C) (hforce : u.inForce = s.inForce)
    (hstate : u.seq.state ≠ .offline) : CooledLaw u := by
  intro hu
  refine ⟨?_, hstate⟩
  rw [hforce]
  exact (hcooled hu).elim (fun hs => (h hs).1) id

theorem decideMode_cooled_or {s : State} (h : (decideMode s).heat.cooled = true) : s.heat.cooled = true ∨ s.inForce.kind = some .C := by
  rw [decideMode_cooled] at h
  split at h
  · next hk => exact .inr hk
  · exact .inl h

theorem readIfCapChanged_cooled_or {cap : Nat} {s : State} (hl : s.seq.state.loaded = false)
    (h : (readIfCapChanged cap s).heat.cooled = true) : s.heat.cooled = true ∨ s.inForce.kind = some .C := by
  unfold readIfCapChanged at h
  split at h
  · exact .inl h
  · obtain hr | hr := readUpper_idle hl <;> rw [hr] at h
    · exact .inl h
    · exact decideMode_cooled_or (by simpa using h)

theorem enterStandby_cooled_or {cause : Cause} {s : State} (h : (enterStandby cause s).heat.cooled = true) :
    s.heat.cooled = true ∨ s.inForce.kind = some .C := by
  simpa [dropCommand, stopSequence] using readIfCapChanged_cooled_or (by simp [StationState.loaded]) h

theorem addressConflict_cooled_or {s : State} (h : (addressConflict s).heat.cooled = true) :
    s.heat.cooled = true ∨ s.inForce.kind = some .C := by
  simpa [dropCommand, stopSequence] using readIfCapChanged_cooled_or (by simp [StationState.loaded]) h

/-! ## A station at rest: STANDBY, ACTIVE, TRIPPED and CONFLICT -/

/-- What a change to a state without a running timer of the sequencer leaves: no timer of a state, no command, the periods as they ran. -/
structure Rested (s u : State) : Prop where
  join : u.seq.joinTimer = none
  start : u.seq.startTimer = none
  standby : u.seq.standbyTimer = none
  thermal : u.bank.blankThermal = none
  margin : u.bank.blankMargin = none
  command : u.share.command = 0
  share : u.share.timer = s.share.timer
  stale : u.link.staleTimer = s.link.staleTimer ∧ u.link.staleMark = s.link.staleMark
  inForce : u.inForce = s.inForce

/-- The law in such a state. -/
theorem ClockedLaw.rested {s u : State} (h : ClockedLaw s) (hs : s.seq.state ≠ .offline) (hr : Rested s u)
    (hu : u.seq.state = .standby ∨ u.seq.state = .active ∨ u.seq.state = .tripped ∨ u.seq.state = .conflict)
    (hstatus : u.bus.statusTimer.isSome = true ↔ u.seq.state ≠ .conflict) : ClockedLaw u := by
  have hshare : u.share.timer.isSome = true ↔ u.isTrain = true := by
    rw [hr.share, State.isTrain, hr.inForce]
    exact h.share.trans (and_iff_right hs)
  have hstale : u.link.staleTimer.isSome = true ↔ u.link.staleMark = false := by
    rw [hr.stale.1, hr.stale.2]
    exact h.stale.trans (and_iff_right hs)
  obtain hu | hu | hu | hu := hu
  all_goals
    exact {
      status := by simpa [hu] using hstatus
      share := by simpa [hu] using hshare
      join := by simp [hu, hr.join]
      start := by simp [hu, hr.start]
      standby := by simp [hu, hr.standby]
      stale := by simpa [hu] using hstale
      blanking := by simp [hr.thermal, hr.margin]
      idle := fun _ => hr.command }

/-- No blanking timer runs out of RUNNING and LEAVING. -/
theorem ClockedLaw.unblanked {s : State} (h : ClockedLaw s) (hl : s.seq.state.loaded = false) :
    s.bank.blankThermal = none ∧ s.bank.blankMargin = none := by
  have hnone : ¬ (s.bank.blankThermal.isSome = true ∨ s.bank.blankMargin.isSome = true) := fun hb => by
    obtain hs | hs := h.blanking hb <;> rw [hs] at hl <;> cases hl
  simpa using hnone

theorem ClockedLaw.fallen_unblanked {s : State} (h : ClockedLaw s) :
    (fallen s).bank.blankThermal = none ∧ (fallen s).bank.blankMargin = none := by
  rw [(fallen_blanking s).1, (fallen_blanking s).2]
  by_cases hl : s.seq.state.loaded = true
  · simp [hl]
  · simpa [hl] using h.unblanked (by simpa using hl)

theorem fallen_cooled (s : State) : (fallen s).heat.cooled = s.heat.cooled := by
  simp [fallen, dropCommand, stopSequence]

/-- A fall out of service leaves the station at rest. -/
theorem ClockedLaw.fall {ps : List Part} {s u : State} (h : ClockedLaw s) (hf : SameBut ps (fallen s) u)
    (hps : ∀ p ∈ [Part.shareTimer, .joinTimer, .startTimer, .standbyTimer, .staleTimer, .blanking, .inForce, .command], p ∉ ps) :
    Rested s u := by
  obtain ⟨hthermal, hmargin⟩ := h.fallen_unblanked
  obtain ⟨hth, hmar⟩ : u.bank.blankThermal = (fallen s).bank.blankThermal ∧ u.bank.blankMargin = (fallen s).bank.blankMargin :=
    hf .blanking (hps _ (by simp))
  have hfall := dropOut_sameBut s
  constructor
  · exact (hf .joinTimer (hps _ (by simp))).trans (by simp)
  · exact (hf .startTimer (hps _ (by simp))).trans (by simp)
  · exact (hf .standbyTimer (hps _ (by simp))).trans (by simp)
  · rw [hth, hthermal]
  · rw [hmar, hmargin]
  · exact (hf .command (hps _ (by simp))).trans (by simp)
  · exact (hf .shareTimer (hps _ (by simp))).trans (by simp)
  · exact Part.same_trans (p := .staleTimer) (hfall .staleTimer (by decide)) (hf .staleTimer (hps _ (by simp)))
  · exact (hf.inForce (hps _ (by simp))).trans (hfall.inForce (by decide))

theorem timedLaw_enterStandby (cause : Cause) {s : State} (h : TimedLaw s) (hs : s.seq.state ≠ .offline) (hc : s.seq.state ≠ .conflict) :
    TimedLaw (enterStandby cause s) := by
  have hrest := h.1.fall (enterStandby_ofFallen cause s) (by decide)
  have hstatus : (enterStandby cause s).bus.statusTimer = s.bus.statusTimer := enterStandby_sameBut cause s .statusTimer (by decide)
  refine ⟨h.1.rested hs hrest (by simp) ?_, h.2.sealed enterStandby_cooled_or hrest.inForce (by simp)⟩
  simpa [hstatus, hs, hc] using h.1.status

theorem timedLaw_trip (ms : List Monitor) {s : State} (h : TimedLaw s) (hs : s.seq.state ≠ .offline) (hc : s.seq.state ≠ .conflict) :
    TimedLaw (trip ms s) := by
  have hrest := h.1.fall (trip_ofFallen ms s) (by decide)
  have hstatus : (trip ms s).bus.statusTimer = s.bus.statusTimer := trip_sameBut ms s .statusTimer (by decide)
  have hcooled : (trip ms s).heat.cooled = s.heat.cooled := (trip_ofFallen ms s .cooled (by decide)).trans (fallen_cooled s)
  refine ⟨h.1.rested hs hrest (by simp) ?_, h.2.sealed (fun hu => .inl (hcooled ▸ hu)) hrest.inForce (by simp)⟩
  simpa [hstatus, hs, hc] using h.1.status

theorem timedLaw_addressConflict {s : State} (h : TimedLaw s) (hs : s.seq.state ≠ .offline) : TimedLaw (addressConflict s) := by
  have hrest := h.1.fall (addressConflict_ofFallen s) (by decide)
  exact ⟨h.1.rested hs hrest (by simp) (by simp), h.2.sealed addressConflict_cooled_or hrest.inForce (by simp)⟩

theorem timedLaw_enterActive (cause : Cause) {s : State} (h : TimedLaw s) (hs : s.seq.state ≠ .offline) (hc : s.seq.state ≠ .conflict)
    (hl : s.seq.state.loaded = false) : TimedLaw (enterActive cause s) := by
  have hactive := enterActive_ofStopped cause s
  have hframe := enterActive_sameBut cause s
  have hstatus : (enterActive cause s).bus.statusTimer = s.bus.statusTimer := hframe .statusTimer (by decide)
  have hcooled : (enterActive cause s).heat.cooled = s.heat.cooled := hframe .cooled (by decide)
  obtain ⟨hthermal, hmargin⟩ := h.1.unblanked hl
  have hblanking := hframe .blanking (by decide)
  have hrest : Rested s (enterActive cause s) := {
    join := hactive .joinTimer (by decide)
    start := hactive .startTimer (by decide)
    standby := hactive .standbyTimer (by decide)
    thermal := hblanking.1.trans hthermal
    margin := hblanking.2.trans hmargin
    command := (hframe .command (by decide)).trans (h.1.idle hl)
    share := hframe .shareTimer (by decide)
    stale := hframe .staleTimer (by decide)
    inForce := hframe.inForce (by decide) }
  refine ⟨h.1.rested hs hrest (by simp) ?_, h.2.sealed (fun hu => .inl (hcooled ▸ hu)) hrest.inForce (by simp)⟩
  simpa [hstatus, hs, hc] using h.1.status

/-! ## OFFLINE, JOINING and the states of a load -/

/-- The law in OFFLINE: nothing runs (R113, R163). -/
theorem timedLaw_of_offline {s : State} (hstate : s.seq.state = .offline) (hstatus : s.bus.statusTimer = none)
    (hshare : s.share.timer = none) (hseq : s.seq.joinTimer = none ∧ s.seq.startTimer = none ∧ s.seq.standbyTimer = none)
    (hstale : s.link.staleTimer = none) (hblanking : s.bank.blankThermal = none ∧ s.bank.blankMargin = none)
    (hcommand : s.share.command = 0) (hcooled : s.heat.cooled = false) : TimedLaw s := by
  refine ⟨?_, by simp [CooledLaw, hcooled]⟩
  obtain ⟨hjoin, hstart, hstandby⟩ := hseq
  obtain ⟨hthermal, hmargin⟩ := hblanking
  constructor <;> simp [*]

theorem timedLaw_endLeave (s : State) : TimedLaw (endLeave s) :=
  timedLaw_of_offline rfl rfl rfl ⟨rfl, rfl, rfl⟩ rfl ⟨rfl, rfl⟩ (by simp) rfl

theorem timedLaw_leaveAtOnce (s : State) : TimedLaw (leaveAtOnce s) :=
  timedLaw_only.keeps (sendSetpoint_sameBut _) (by decide) (timedLaw_endLeave s)

/-- A command that changes keeps the law: the standby timer follows it in RUNNING, and a leave that it ends leaves nothing running (R110, R113). -/
theorem timedLaw_setCommand (c : Nat) {s : State} (h : TimedLaw s) (hl : s.seq.state.loaded = true) : TimedLaw (setCommand c s) := by
  by_cases hend : s.seq.state = .leaving ∧ c = 0
  · obtain ⟨hleaving, rfl⟩ := hend
    by_cases h0 : s.share.command = 0
    · rwa [setCommand, if_pos h0.symm]
    · rw [setCommand_ends hleaving h0]
      exact timedLaw_endLeave _
  · by_cases hc : c = s.share.command
    · rwa [setCommand, if_pos hc]
    · rw [setCommand_stays hc hend]
      refine ⟨?_, h.2⟩
      have hstandby := h.1.standby
      refine { h.1 with standby := ?_, idle := ?_ }
      · dsimp only
        by_cases hr : s.seq.state = .running <;> by_cases h0 : c = 0 <;> by_cases h1 : s.share.command = 0 <;> simp_all
      · intro hidle
        rw [hl] at hidle
        cases hidle

theorem timedLaw_readAtExpiry {s : State} (h : TimedLaw s) (hs : s.seq.state ≠ .offline) : TimedLaw (readAtExpiry s) :=
  ⟨clockedLaw_only.keeps (readAtExpiry_sameBut s) (by decide) h.1,
    h.2.sealed (fun hc => decideMode_cooled_or (by simpa [readAtExpiry] using hc)) (by simp) (by simpa using hs)⟩

theorem timedLaw_readUpper {s : State} (h : TimedLaw s) : TimedLaw (readUpper s) := by
  obtain ⟨-, hr⟩ | ⟨hsealed, hr, -⟩ | ⟨hsealed, hl, -, hr⟩ := readUpper_cases s
  · rwa [hr]
  · rw [hr]
    exact timedLaw_readAtExpiry h (by simpa [State.isSealed] using (Bool.and_eq_true_iff.mp hsealed).2)
  · rw [hr]
    refine timedLaw_only.keeps (sendSetpoint_sameBut _) (by decide) (timedLaw_setCommand _ ?_ (by simpa using hl))
    exact timedLaw_readAtExpiry h (by simpa [State.isSealed] using (Bool.and_eq_true_iff.mp hsealed).2)

/-! ## The start of a station, of a train and of a leave -/

/-- The blocks as a SEAL starts them, with the status, share, join and stale timers (R1, R46, R105, R157). -/
theorem timedLaw_joining (s : State) : TimedLaw (enterState .joining .sealed (startStation s)) := by
  refine ⟨?_, by simp [CooledLaw, startStation]⟩
  constructor <;> simp [startStation, stopSequence, Bank.cleared]
  simp [State.isTrain]

theorem sealStore_book (s : State) :
    SameBut [.clock, .noms, .orders, .target, .openRecord, .energies, .ownPoint, .peerPoints, .log] s (sealStore s) := fun p hp => by
  cases p <;> simp_all [Part.same, sealStore]

theorem timedLaw_acceptSeal (s : State) : TimedLaw (acceptSeal s) := by
  have hjoining := timedLaw_joining s
  unfold acceptSeal
  refine timedLaw_only.keeps (buildStatus_sameBut _) (by decide) ?_
  split
  · exact timedLaw_only.keeps (sealStore_book _) (by decide) hjoining
  · have hbook := timedLaw_only.keeps ((bookAtSeal_sameBut _).comp (accountAtSeal_sameBut _) (List.Subset.refl _)) (by decide) hjoining
    exact ⟨clockedLaw_only.keeps (decideMode_sameBut _) (by decide) hbook.1,
      hbook.2.sealed decideMode_cooled_or (by simp) (by simp)⟩

theorem timedLaw_enterStarting {s : State} (h : TimedLaw s) (hs : s.seq.state = .standby) : TimedLaw (enterStarting s) := by
  obtain ⟨hclock, hcooled⟩ := h
  have hblank := hclock.unblanked (by rw [hs]; rfl)
  refine ⟨?_, by simpa [CooledLaw, enterStarting, hs] using hcooled⟩
  constructor
  · simpa [enterStarting, hs] using hclock.status
  · simpa [enterStarting, hs, State.isTrain] using hclock.share
  · simpa [enterStarting, hs] using hclock.join
  · simp [enterStarting]
  · simpa [enterStarting, hs] using hclock.standby
  · simpa [enterStarting, hs] using hclock.stale
  · simp [enterStarting, hblank]
  · simp [enterStarting]

theorem timedLaw_enterRunning {s : State} (h : TimedLaw s) (hs : s.seq.state = .starting) : TimedLaw (enterRunning s) := by
  obtain ⟨hclock, hcooled⟩ := h
  have hcommand := hclock.idle (by rw [hs]; rfl)
  refine ⟨?_, by simpa [CooledLaw, enterRunning, hs] using hcooled⟩
  constructor
  · simpa [enterRunning, hs] using hclock.status
  · simpa [enterRunning, hs, State.isTrain] using hclock.share
  · simpa [enterRunning, hs] using hclock.join
  · simp [enterRunning]
  · simpa [enterRunning] using hcommand
  · simpa [enterRunning, hs] using hclock.stale
  · simp [enterRunning]
  · simp [enterRunning, hcommand]

theorem timedLaw_startLeaving {s : State} (h : TimedLaw s) (hs : s.seq.state = .running) : TimedLaw (startLeaving s) := by
  obtain ⟨hclock, hcooled⟩ := h
  refine ⟨?_, by simpa [CooledLaw, startLeaving, hs] using hcooled⟩
  constructor
  · simpa [startLeaving, hs] using hclock.status
  · simpa [startLeaving, hs, State.isTrain] using hclock.share
  · simpa [startLeaving, hs] using hclock.join
  · simpa [startLeaving, hs] using hclock.start
  · simp [startLeaving]
  · simpa [startLeaving, hs] using hclock.stale
  · simp [startLeaving]
  · simp [startLeaving, StationState.loaded]

theorem timedLaw_startStoreLeaving {s : State} (h : TimedLaw s) (hs : s.seq.state = .active) : TimedLaw (startStoreLeaving s) := by
  obtain ⟨hclock, hcooled⟩ := h
  refine ⟨?_, by simpa [CooledLaw, startStoreLeaving, hs] using hcooled⟩
  constructor
  · simpa [startStoreLeaving, hs] using hclock.status
  · simpa [startStoreLeaving, hs, State.isTrain] using hclock.share
  · simpa [startStoreLeaving, hs] using hclock.join
  · simpa [startStoreLeaving, hs] using hclock.start
  · simpa [startStoreLeaving, hs] using hclock.standby
  · simpa [startStoreLeaving, hs] using hclock.stale
  · simp [startStoreLeaving]
  · simp [startStoreLeaving, StationState.loaded]

/-! ## The events -/

theorem timedLaw_expiryStages (k : Kind) {s : State} (h : TimedLaw s) (hs : s.seq.state ≠ .offline) : TimedLaw (expiryStages k s) := by
  have hbook := timedLaw_only.keeps (bookExpiry_sameBut s) (by decide) h
  have hread := timedLaw_readAtExpiry hbook (by simpa using hs)
  rw [expiryStages_eq]
  refine timedLaw_only.keeps (sendSetpoint_sameBut _) (by decide) ?_
  generalize readAtExpiry (bookExpiry s) = v at hread ⊢
  unfold expiryWork
  split
  · next hl =>
    exact timedLaw_setCommand _ (timedLaw_only.keeps (notePeriod_sameBut v) (by decide) hread) (by simpa using hl)
  · split
    · next hstandby =>
      have hwake := timedLaw_only.keeps (setWake_sameBut (nextWake v k) v) (by decide) hread
      unfold standbyExpiry
      dsimp only
      split
      · exact timedLaw_enterStarting hwake hstandby
      · exact hwake
    · exact hread

/-- A record restarts the stale timer and clears its mark (R157). -/
theorem timedLaw_recordJudged (r : Measurement) {s : State} (h : TimedLaw s) (hs : s.seq.state ≠ .offline) : TimedLaw (recordJudged r s).1 := by
  have hhold : TimedLaw (holdRecord r s) := ⟨{ h.1 with stale := by simpa [holdRecord] using hs }, h.2⟩
  have htaken : TimedLaw (takeIn r s) := by
    cases r with
    | train o f p t v => exact timedLaw_only.keeps (accountRecord_sameBut o _) (by decide) hhold
    | store zones => exact timedLaw_only.keeps (classifyRecord_sameBut zones _) (by decide) hhold
  exact timedLaw_only.keeps (recordJudged_ofTakeIn r s) (by decide) htaken

/-- The expiry of the stale timer sets its mark (R157). -/
theorem timedLaw_staleJudged {s : State} (h : TimedLaw s) : TimedLaw (staleJudged s).1 := by
  have hmark : TimedLaw (markStale s) := ⟨{ h.1 with stale := by simp [markStale] }, h.2⟩
  exact timedLaw_only.keeps (judgeStale_sameBut _) (by decide) hmark

/-- A blanking timer that runs out stops (R126). -/
theorem timedLaw_blankingExpiry (m : Monitor) {s : State} (h : TimedLaw s) : TimedLaw (blankingExpiry m s) := by
  unfold blankingExpiry
  split
  · exact ⟨{ h.1 with blanking := fun hb => h.1.blanking (by simp_all) }, h.2⟩
  · exact ⟨{ h.1 with blanking := fun hb => h.1.blanking (by simp_all) }, h.2⟩
  · exact h

/-- In a service state the station is sealed and no conflict stands. -/
theorem of_inService {x : StationState} (h : x.inService = true) : x ≠ .offline ∧ x ≠ .conflict := by
  cases x <;> simp_all [StationState.inService]

theorem timedLaw_keptByEvents : KeptByEvents timedParts timedParts TimedLaw TimedLaw where
  only := timedLaw_only
  onlyWeak := timedLaw_only
  weaken := fun _ h => h
  read := fun _ => timedLaw_readUpper
  sealing := fun s _ => .inr fun _ => timedLaw_acceptSeal s
  record := fun form s hsealed _ => .inr fun h =>
    have hjudged := timedLaw_recordJudged (Measurement.ofForm form) h (by simpa [State.isSealed] using hsealed)
    have hstate := (recordJudged_sameBut (Measurement.ofForm form) s).state (by decide)
    timedLaw_only.recordWork (by decide)
      (fun _ hs => timedLaw_trip _ hjudged (by rw [hstate]; exact (of_inService hs).1) (by rw [hstate]; exact (of_inService hs).2))
      fun _ => hjudged
  clear := fun s _ _ => .inr fun h =>
    have hcleared := timedLaw_only.keeps ((unlatchGone_sameBut s).comp (produce_sameBut .tripCleared _) (List.Subset.refl _)) (by decide) h
    timedLaw_only.clearWork (by decide)
      (fun ht _ => timedLaw_enterActive _ hcleared (by simp [ht]) (by simp [ht]) (by simp [ht, StationState.loaded]))
      (fun ht => timedLaw_enterStandby _ hcleared (by simp [ht]) (by simp [ht])) h
  leaveNow := fun s => .inr fun _ => timedLaw_leaveAtOnce s
  leaveRunning := fun s hs _ => .inr fun h => timedLaw_startLeaving h hs
  leaveStore := fun s hs => .inr fun h => timedLaw_startStoreLeaving h hs
  restart := fun s _ => .inr fun _ => timedLaw_of_offline rfl rfl rfl ⟨rfl, rfl, rfl⟩ rfl ⟨rfl, rfl⟩ rfl rfl
  powerOn := fun s => .inr fun _ => timedLaw_of_offline rfl rfl rfl ⟨rfl, rfl, rfl⟩ rfl ⟨rfl, rfl⟩ rfl rfl
  permitDown := fun s => .inr fun h =>
    have hdown := timedLaw_only.keeps (setPermit_sameBut false s) (by decide) h
    timedLaw_only.permitRemoved (by decide)
      (fun hs => timedLaw_enterStandby .permit hdown
        (by obtain hs | hs := hs <;> rw [hs] <;> simp) (by obtain hs | hs := hs <;> rw [hs] <;> simp))
      (fun _ _ => timedLaw_only.keeps (setpointIfFell_sameBut _ _) (by decide) (timedLaw_endLeave _)) fun _ _ _ => hdown
  arrived := fun bytes s => .inr fun h => timedLaw_only.arrival (by decide) bytes (timedLaw_addressConflict h) h
  statusTimed := fun d s ht => .inr fun h => ⟨{ h.1 with status := by simpa [ht] using h.1.status }, h.2⟩
  statusDue := fun s _ => .inr <| timedLaw_only.statusWork (by decide) fun v _ _ _ => timedLaw_endLeave v
  controlTimed := fun d s ht => .inr fun h => ⟨{ h.1 with share := by simpa [ht, State.isTrain] using h.1.share }, h.2⟩
  control := fun k s ht _ _ => .inr fun h => timedLaw_expiryStages k h (h.1.share.mp ht).1
  window := fun s hj => .inr fun h => endWindow_induction
    (fun _ _ => timedLaw_enterActive _ h (by simp [hj]) (by simp [hj]) (by simp [hj, StationState.loaded]))
    (fun _ _ => timedLaw_enterStandby _ h (by simp [hj]) (by simp [hj])) fun _ => timedLaw_trip _ h (by simp [hj]) (by simp [hj])
  started := fun s hs => .inr fun h => timedLaw_enterRunning h hs
  stoodBy := fun s hs => .inr fun h => timedLaw_enterStandby _ h (by simp [hs]) (by simp [hs])
  blanked := fun m s => .inr (timedLaw_blankingExpiry m)
  stale := fun s _ => .inr fun h =>
    have hstate := (staleJudged_sameBut s).state (by decide)
    timedLaw_only.staleWork (by decide)
      (fun _ hs => timedLaw_trip _ (timedLaw_staleJudged h) (by rw [hstate]; exact (of_inService hs).1)
        (by rw [hstate]; exact (of_inService hs).2))
      fun _ => timedLaw_staleJudged h

/-- Settles O59: the timers and the cooled flag with the idle command, which the command law gives; the command law is kept by itself (O54). -/
theorem stepKeepsTimerLaw : Obligations.StepKeepsTimerLaw := by
  rintro s u ⟨htimer, hcommand, hcooled⟩ hstep
  have hu := timedLaw_keptByEvents.keptByStep s u ⟨clockedLaw_of_timerLaw htimer hcommand.idle, hcooled⟩ hstep
  exact ⟨hu.1.timerLaw, stepKeepsCommandLaw s u hcommand hstep, hu.2⟩

end Sys2Proof.Machine
end

section
/-! PROOFS. SET ITEM and the refusals of the configuration: what an item number, a monitor byte and a value name, and what is taken of them (R69, R151 to
R156, R165). -/

namespace Sys2Proof.Machine

/-! ## A value taken into a range -/

theorem itemRange_fst (lo hi : Nat) (v : Int) : (itemRange lo hi v).1 = nearest lo hi v := by
  unfold itemRange clampInt nearest
  split
  · simp
  · split <;> simp

theorem itemRange_snd {lo hi : Nat} (_hle : lo ≤ hi) (v : Int) : (itemRange lo hi v).2 = decide (v < lo ∨ (hi : Int) < v) := by
  rw [Bool.eq_iff_iff, decide_eq_true_eq]
  simp only [itemRange, clampInt, bne_iff_ne, ne_eq]
  split
  · omega
  · split <;> omega

/-! ## What SET ITEM finds -/

/-- Every row of the item table is taken into its range. -/
theorem setItemValue_row (i : Items) (v : Int) :
    ∀ row ∈ itemTable, setItemValue i row.item.toNat row.monitor.toNat v = takeRange row.lo row.hi v (row.put i) := by
  simp only [itemTable, List.cons_append, List.nil_append, List.forall_mem_cons]
  repeat' constructor
  simp

theorem itemTable_range : ∀ row ∈ itemTable, row.lo ≤ row.hi := by decide

theorem setPlainItem_unknown_iff (i : Items) (item : Nat) (v : Int) : setPlainItem i item v = .unknown ↔
    item = 0 ∨ 40 < item ∨ item = 33 ∨ item = 34 ∨ item = 35 ∨ (item = 2 ∧ ¬ (1 ≤ v ∧ v ≤ 3))
      ∨ (item = 11 ∧ ¬ (0 ≤ v ∧ v ≤ 15) ∧ v ≠ 255) := by
  unfold setPlainItem
  split
  case h_2 =>
    split
    case h_4 h1 h2 h3 => exact iff_of_true rfl (by grind)
    all_goals exact iff_of_false (by simp) (by omega)
  case h_11 =>
    split
    · exact iff_of_false (by simp) (by omega)
    · split
      · exact iff_of_false (by simp) (by omega)
      · exact iff_of_true rfl (by omega)
  case h_38 => exact iff_of_true rfl (by grind)
  all_goals exact iff_of_false (by simp [takeRange]) (by omega)

theorem modeOfCode_eq_none_iff (v : Int) : modeOfCode v = none ↔ ¬ (1 ≤ v ∧ v ≤ 4) := by
  unfold modeOfCode
  split
  case h_5 => exact iff_of_true rfl (by grind)
  all_goals exact iff_of_false (by simp) (by omega)

theorem modeOfCode_code (mode : Mode) : modeOfCode mode.code = some mode := by cases mode <;> rfl

theorem setMode_ne_unknown (i : Items) (m : Monitor) (mode : Mode) : setMode i m mode ≠ .unknown := by
  cases m <;> simp [setMode]

theorem setDeglitch_unknown_iff (i : Items) (m : Monitor) (v : Int) : setDeglitch i m v = .unknown ↔ m = .stale := by
  cases m <;> simp [setDeglitch, takeRange]

theorem setBlanking_unknown_iff (i : Items) (m : Monitor) (v : Int) : setBlanking i m v = .unknown ↔ m ≠ .thermal ∧ m ≠ .margin := by
  cases m <;> simp [setBlanking, takeRange]

theorem setMonitorItem_unknown_iff (i : Items) (item : Nat) (m : Monitor) (v : Int) (h : item = 33 ∨ item = 34 ∨ item = 35) :
    setMonitorItem i item m v = .unknown ↔ (item = 33 ∧ ¬ (1 ≤ v ∧ v ≤ 4)) ∨ (item = 34 ∧ m = .stale)
      ∨ (item = 35 ∧ m ≠ .thermal ∧ m ≠ .margin) := by
  obtain rfl | rfl | rfl := h
  · simp only [setMonitorItem, ← modeOfCode_eq_none_iff]
    cases hmode : modeOfCode v <;> simp [setMode_ne_unknown]
  · simp [setMonitorItem, setDeglitch_unknown_iff]
  · simp [setMonitorItem, setBlanking_unknown_iff]

theorem monitorOfCode_none {n : Nat} (h : monitorOfCode n = none) : n = 0 ∨ 5 < n := by
  unfold monitorOfCode at h
  split at h
  case h_6 => grind
  all_goals cases h

theorem monitorOfCode_some {n : Nat} {m : Monitor} (h : monitorOfCode n = some m) :
    (1 ≤ n ∧ n ≤ 5) ∧ (m = .thermal ↔ n = 2) ∧ (m = .margin ↔ n = 3) ∧ (m = .stale ↔ n = 4) := by
  unfold monitorOfCode at h
  split at h <;> cases h <;> simp

/-- SET ITEM finds nothing exactly where the spec says that nothing is named (R152, R165). -/
theorem setItemValue_unknown_iff (i : Items) (item monitor : Nat) (v : Int) :
    setItemValue i item monitor v = .unknown ↔ NamesNothing item monitor v := by
  unfold setItemValue NamesNothing
  split
  · next hitem =>
    split
    · next m hm =>
      obtain ⟨hrange, hthermal, hmargin, hstale⟩ := monitorOfCode_some hm
      rw [setMonitorItem_unknown_iff _ _ _ _ hitem, ne_eq, ne_eq, hthermal, hmargin, hstale]
      omega
    · next hm =>
      have hrange := monitorOfCode_none hm
      exact iff_of_true rfl (by omega)
  · next hitem =>
    split
    · rw [setPlainItem_unknown_iff]
      omega
    · exact iff_of_true rfl (by omega)

/-! ## The handlers -/

theorem handleSetItem_unknown {item monitor : Byte} {value : Word} {s : State}
    (h : setItemValue s.items item.toNat monitor.toNat value.toInt = .unknown) :
    handle (.setItem item monitor value) s = ⟨s, .refuse .unknown⟩ := by
  simp [handle, handleSetItem, h, refuse]

theorem handleSetItem_taken {item monitor : Byte} {value : Word} {s : State} {items : Items} {clamped : Bool}
    (h : setItemValue s.items item.toNat monitor.toNat value.toInt = .taken items clamped) (hs : s.seq.state = .offline) :
    handle (.setItem item monitor value) s = ⟨{ s with items := items }, .accept clamped⟩ := by
  simp [handle, handleSetItem, h, State.isSealed, hs]

theorem handleSetItem_sealed {item monitor : Byte} {value : Word} {s : State}
    (h : setItemValue s.items item.toNat monitor.toNat value.toInt ≠ .unknown) (hs : s.seq.state ≠ .offline) :
    handle (.setItem item monitor value) s = ⟨s, .refuse .badState⟩ := by
  cases hvalue : setItemValue s.items item.toNat monitor.toNat value.toInt with
  | unknown => exact absurd hvalue h
  | taken items clamped => simp [handle, handleSetItem, hvalue, State.isSealed, hs, refuse]

/-- An item that is found in OFFLINE is taken. -/
theorem exec_setItem_taken {item monitor : Byte} {value : Word} {s : State} {tag : Byte} {items : Items} {clamped : Bool} (t : Nat)
    (hs : s.seq.state = .offline) (hn : IsNew s tag (.setItem item monitor value))
    (h : setItemValue s.items item.toNat monitor.toNat value.toInt = .taken items clamped) :
    exec (.setItem t tag item monitor value) s =
      .next (answered { s.atInstant t with items := items } tag (.setItem item monitor value) (.accept clamped)) :=
  exec_new rfl hn (handleSetItem_taken (s := s.atInstant t) h hs)

/-- Settles O4: each row of the table is taken into its range. -/
theorem numericItemsTakenInRange : Obligations.NumericItemsTakenInRange := by
  intro row hrow s t tag value hs hn
  refine exec_setItem_taken t hs hn ?_
  rw [setItemValue_row s.items value.toInt row hrow, ← itemRange_fst, ← itemRange_snd (itemTable_range row hrow)]
  rfl

/-- The nearest of the interval lengths, the lower of two that are equally near (R152). -/
theorem nearestInterval_spec (v : Int) : (nearestInterval v = 15 ∨ nearestInterval v = 30 ∨ nearestInterval v = 60)
    ∧ ∀ l' : Nat, l' = 15 ∨ l' = 30 ∨ l' = 60 → (v - nearestInterval v).natAbs < (v - l').natAbs
        ∨ ((v - nearestInterval v).natAbs = (v - l').natAbs ∧ nearestInterval v ≤ l') := by
  have hcases : (v ≤ 22 ∧ nearestInterval v = 15) ∨ (22 < v ∧ v ≤ 45 ∧ nearestInterval v = 30) ∨ (45 < v ∧ nearestInterval v = 60) := by
    unfold nearestInterval
    split
    · omega
    · split <;> omega
  refine ⟨by omega, fun l' hl => ?_⟩
  obtain ⟨hv, hn⟩ | ⟨hlo, hhi, hn⟩ | ⟨hv, hn⟩ := hcases <;> rw [hn] <;> obtain rfl | rfl | rfl := hl <;> omega

/-- Settles O5: each coded item by its number. -/
theorem codedItemsTaken : Obligations.CodedItemsTaken := by
  intro s t tag value hs
  have hmode (mode : Mode) (hv : value.toInt = mode.code) (m : Monitor) (code : Byte) (hcode : monitorOfCode code.toNat = some m) :
      setItemValue s.items (33 : Byte).toNat code.toNat value.toInt = setMode s.items m mode := by
    rw [hv]
    simp [setItemValue, hcode, setMonitorItem, modeOfCode_code]
  refine ⟨fun k hv hn => ?_, fun hn => ?_, fun a ha hv hn => ?_, fun hv hn => ?_, fun mode hv => ⟨?_, ?_, ?_, ?_, ?_⟩⟩
  · exact exec_setItem_taken t hs hn (by rw [hv]; cases k <;> rfl)
  · obtain ⟨hlength, hnearest⟩ := nearestInterval_spec value.toInt
    refine ⟨nearestInterval value.toInt, hlength, hnearest, ?_⟩
    exact exec_setItem_taken t hs hn (by simp [setItemValue, setPlainItem, bne, BEq.beq])
  · refine exec_setItem_taken t hs hn ?_
    have hbody : setItemValue s.items (11 : Byte).toNat (0 : Byte).toNat (a : Int) = setPlainItem s.items 11 a := rfl
    rw [hv, hbody]
    simp only [setPlainItem]
    rw [if_neg (by omega), if_pos (by omega), Int.toNat_natCast]
  · exact exec_setItem_taken t hs hn (by rw [hv]; rfl)
  all_goals exact fun hn => exec_setItem_taken t hs hn ((hmode mode hv _ _ rfl).trans (by cases mode <;> rfl))

/-! ## The refusals of SEAL and MEASURE -/

/-- A SEAL with a required item unset, or with a native pair that encloses no pressure, is incomplete (R69, R154). -/
theorem incomplete_of_unset {i : Items}
    (h : i.address = none ∨ i.kind = none
      ∨ (i.kind ≠ some .H ∧ (i.cavern = none ∨ i.rated = none ∨ i.minLoad = none ∨ i.nativeMin = none ∨ i.nativeMax = none
          ∨ ∃ lo hi, i.nativeMin = some lo ∧ i.nativeMax = some hi ∧ hi ≤ lo))
      ∨ (i.kind = some .H ∧ (i.qc = none ∨ i.qd = none ∨ i.sHot = none ∨ i.sCold = none))) :
    requiredSet i = false ∨ nativePairOk i = false := by
  obtain ha | hk | ⟨hk, hitems⟩ | ⟨hk, hitems⟩ := h
  · exact .inl (by simp [requiredSet, ha])
  · exact .inl (by simp [requiredSet, hk])
  · cases hkind : i.kind with
    | none => exact .inl (by simp [requiredSet, hkind])
    | some k =>
      have hset : requiredSet i = (i.address.isSome && (i.cavern.isSome && i.rated.isSome && i.minLoad.isSome && i.nativeMin.isSome
          && i.nativeMax.isSome)) := by
        unfold requiredSet
        cases k <;> simp_all
      obtain hc | hc | hc | hc | hc | ⟨lo, hi, hlo, hhi, hle⟩ := hitems
      case inr.inr.inr.inr.inr => exact .inr (by simp [nativePairOk, hk, hlo, hhi, hle])
      all_goals exact .inl (by simp [hset, hc])
  · refine .inl ?_
    obtain hc | hc | hc | hc := hitems <;> simp [requiredSet, hk, hc]

theorem handleSeal_sealed {s : State} (h : s.seq.state ≠ .offline) : handle .seal s = ⟨s, .refuse .badState⟩ := by
  simp [handle, handleSeal, h, refuse]

theorem handleSeal_incomplete {s : State} (hs : s.seq.state = .offline)
    (h : requiredSet s.items = false ∨ nativePairOk s.items = false) : handle .seal s = ⟨s, .refuse .incomplete⟩ := by
  obtain h | h := h <;> simp [handle, handleSeal, State.isSealed, hs, h, refuse]

theorem handleMeasure_unknown {form : MeasureForm} {s : State} (h : form.wellFormed = false) :
    handle (.measure form) s = ⟨s, .refuse .unknown⟩ := by
  simp [handle, handleMeasure, h, refuse]

theorem handleMeasure_offline {form : MeasureForm} {s : State} (h : form.wellFormed = true) (hs : s.seq.state = .offline) :
    handle (.measure form) s = ⟨s, .refuse .badState⟩ := by
  simp [handle, handleMeasure, h, State.isSealed, hs, refuse]

theorem handleMeasure_misfit {form : MeasureForm} {s : State} (h : form.wellFormed = true) (hs : s.seq.state ≠ .offline)
    (hfit : formFits form s = false) : handle (.measure form) s = ⟨s, .refuse .badKind⟩ := by
  simp [handle, handleMeasure, h, hs, hfit, refuse]

theorem handleMeasure_taken {form : MeasureForm} {s : State} (h : form.wellFormed = true) (hs : s.seq.state ≠ .offline)
    (hfit : formFits form s = true) :
    handle (.measure form) s = ⟨takeRecord (Measurement.ofForm form) s, .accept (formClamped form)⟩ := by
  have hsealed : s.isSealed = true := by simpa [State.isSealed] using hs
  simp [handle, handleMeasure, h, hsealed, hfit]

/-- Settles O9: each refusal by its handler. -/
theorem configurationRefusals : Obligations.ConfigurationRefusals := by
  refine ⟨fun s t tag item monitor value hn => ⟨fun h => ?_, fun h hs => ?_⟩, fun s t tag => ⟨fun hn hs => ?_, fun hn hs h => ?_,
    fun zones hz hn => ?_, fun form hform hn hs => ?_, fun o f p h m hstore hn hs => ?_, fun zones hz htrain hn hs => ?_⟩⟩
  · exact exec_new rfl hn (handleSetItem_unknown (s := s.atInstant t) ((setItemValue_unknown_iff _ _ _ _).mpr h))
  · exact exec_new rfl hn (handleSetItem_sealed (s := s.atInstant t) (fun hu => h ((setItemValue_unknown_iff _ _ _ _).mp hu)) hs)
  · exact exec_new rfl hn (handleSeal_sealed (s := s.atInstant t) hs)
  · exact exec_new rfl hn (handleSeal_incomplete (s := s.atInstant t) hs (incomplete_of_unset h))
  · exact exec_new rfl hn (handleMeasure_unknown (by simpa [MeasureForm.wellFormed] using hz))
  · exact exec_new rfl hn (handleMeasure_offline (s := s.atInstant t) hform hs)
  · exact exec_new rfl hn (handleMeasure_misfit (s := s.atInstant t) rfl hs (isTrain_of_isStore hstore))
  · exact exec_new rfl hn (handleMeasure_misfit (s := s.atInstant t) (by simpa [MeasureForm.wellFormed] using hz) hs
      (isStore_of_isTrain htrain))

end Sys2Proof.Machine
end

section
/-! PROOFS. The exchange of requests and the short requests: refusals, repeats, unknown and damaged records (R148, R150), SET TIME (R25), QUERY PEER
(R159). -/

namespace Sys2Proof.Machine

/-! ## The exchange -/

/-- Settles O25: a request's reply is kept and owed, and a handler that refuses leaves the station as it was. -/
theorem refusedRequestChangesNothing : Obligations.RefusedRequestChangesNothing := by
  intro c s t tag r hc hn
  refine ⟨_, (exec_of_asRequest hc s).trans (congrArg _ (request_new hn t)), (handle r (s.atInstant t)).answer, rfl, rfl, ?_⟩
  intro code hcode
  rw [handle_refused hcode, hcode]

theorem exchange_owed {s : State} (h : s.link.owed ≠ none) (code tag : Byte) (body : List Byte) (act : State → Handled) :
    exchange code tag body act s = counted s := by
  rw [exchange, if_pos (Option.isSome_iff_ne_none.mpr h)]
  rfl

theorem exchange_repeat {s : State} {k : Kept} (h : s.link.owed = none) (hk : s.link.kept = some k) (act : State → Handled) :
    exchange k.code k.tag k.body act s = { s with link := { s.link with owed := some k.reply } } := by
  simp [exchange, h, isRepeat, hk, resend]

theorem exchange_new {s : State} {code tag : Byte} {body : List Byte} (h : s.link.owed = none)
    (hk : ∀ k, s.link.kept = some k → ¬ (k.code = code ∧ k.tag = tag ∧ k.body = body)) (act : State → Handled) :
    exchange code tag body act s = oweReply code tag body (act s) := by
  have hrepeat : isRepeat code tag body s = false := by
    unfold isRepeat
    split
    · next k hkept => simpa [and_assoc] using hk k hkept
    · rfl
  simp [exchange, h, hrepeat]

theorem repeatKept_of_kept {s : State} {k : Kept} (h : s.link.kept = some k) :
    repeatKept s = exchange k.code k.tag k.body (refuse .unknown) s := by
  rw [repeatKept, h]

theorem goodRecord_owed {s : State} (h : s.link.owed ≠ none) (code tag : Byte) (body : List Byte) :
    goodRecord code tag body s = counted s := by
  unfold goodRecord
  split <;> exact exchange_owed h _ _ _ _

/-- A code and length that name no request decode to none. -/
theorem decodeRequest_none_of_unnamed {code : Byte} {body : List Byte} (h : namesRequest code body = false) :
    decodeRequest code body = none := by
  cases hdecode : decodeRequest code body with
  | none => rfl
  | some r => rw [namesRequest_of_decodes hdecode] at h; cases h

/-- Settles O26: each record by the branch of the exchange it meets. -/
theorem repeatedUnknownAndDamagedRecords : Obligations.RepeatedUnknownAndDamagedRecords := by
  refine ⟨fun s t k hk ho => ?_, fun s t k hk ho => ?_, fun c s t tag r k hc ho hk h1 h2 h3 => ?_, fun c s t tag r hc ho => ?_,
    fun s t code tag body hname ho hk => ?_, fun s t bytes h => ?_, fun s t code tag body ho => ?_⟩
  · exact congrArg _ ((repeatKept_of_kept (s := s.atInstant t) hk).trans (exchange_repeat (s := s.atInstant t) ho hk _))
  · exact congrArg _ ((repeatKept_of_kept (s := s.atInstant t) hk).trans (exchange_owed (s := s.atInstant t) ho _ _ _ _))
  · rw [exec_of_asRequest hc, request_repeat ho hk h1 h2 h3]
  · rw [exec_of_asRequest hc, request_early ho]
  · have hnew := exchange_new (s := s.atInstant t) ho hk (refuse .unknown)
    simp only [exec, execUnknownRequest, goodRecord, decodeRequest_none_of_unnamed hname]
    rw [hnew]
    rfl
  · simp only [exec, execLinkRecordDiscarded, recordArrival]
    split
    · rfl
    · next hgood =>
      have ho : s.link.owed ≠ none := h.resolve_left fun hbad => hgood (by simp [hbad])
      split
      · rw [goodRecord_owed (s := s.atInstant t) ho]
      · rfl
  · exact congrArg _ (goodRecord_owed (s := s.atInstant t) ho code tag body)

/-! ## SET TIME -/

theorem handleSetTime_train {s : State} (hs : s.seq.state ≠ .offline) (ht : s.isTrain = true) (number : Word) :
    handle (.setTime number) s = ⟨{ s with clock := { s.clock with pending := some (min number.toNat 4294967294) } },
      .accept (decide (number.toNat = 4294967295))⟩ := by
  have hsealed : s.isSealed = true := (isSealed_eq_true s).mpr hs
  have hclamped : decide (Config.lastInterval < number.toNat) = decide (number.toNat = 4294967295) := by
    congr 1
    exact propext (by simp only [Config.lastInterval]; omega)
  simp only [handle, handleSetTime, hsealed, isStore_of_isTrain ht, hclamped]
  rfl

theorem handleSetTime_offline {s : State} (hs : s.seq.state = .offline) (number : Word) :
    handle (.setTime number) s = ⟨s, .refuse .badState⟩ := by
  simp [handle, handleSetTime, State.isSealed, hs, refuse]

theorem handleSetTime_store {s : State} (hs : s.seq.state ≠ .offline) (hstore : s.isStore = true) (number : Word) :
    handle (.setTime number) s = ⟨s, .refuse .badKind⟩ := by
  simp [handle, handleSetTime, State.isSealed, hs, hstore, refuse]

@[simp] theorem produceEither_clock (x y : Option Report) (s : State) : (produceEither x y s).clock = s.clock :=
  produceEither_sameBut x y s .clock (by decide)

/-- The first pulse on an untimed train's clock sets the pending number (R26). -/
theorem boundary_untimed {s : State} {n : Nat} (hstore : s.isStore = false) (hcurrent : s.clock.current = none)
    (hpending : s.clock.pending = some n) : (boundary s).clock = { s.clock.pulsed s.now with current := some n } := by
  simp [boundary, hstore, hcurrent, hpending, pulseChange, intervalChange_eq, changed]

/-- Settles O12: the handler by the state and the kind, and the pulse that takes the pending number. -/
theorem setTimeWaitsForPulse : Obligations.SetTimeWaitsForPulse := by
  intro s t tag number hn
  refine ⟨fun hs => ?_, fun hs hstore => ?_, fun hs htrain => ⟨?_, fun t' _ hcurrent => ⟨_, rfl, ?_⟩⟩⟩
  · exact exec_new rfl hn (handleSetTime_offline (s := s.atInstant t) hs number)
  · exact exec_new rfl hn (handleSetTime_store (s := s.atInstant t) hs hstore number)
  · exact exec_new rfl hn (handleSetTime_train (s := s.atInstant t) hs htrain number)
  · have hpulse (v : State) (hv : v.isStore = false) (hc : v.clock.current = none)
        (hp : v.clock.pending = some (min number.toNat 4294967294)) :
        (boundary v).clock.current = some (min number.toNat 4294967294) ∧ (boundary v).clock.pending = none := by
      rw [boundary_untimed hv hc hp]
      exact ⟨rfl, rfl⟩
    exact hpulse _ (isStore_of_isTrain htrain) hcurrent rfl

/-! ## QUERY PEER -/

theorem findEntry_eq_none {view : List Entry} {a : Nat} (h : ∀ e ∈ view, e.address ≠ a) : findEntry view a = none :=
  List.find?_eq_none.mpr fun e he => by simpa using h e he

theorem findEntry_of_mem {view : List Entry} {a : Nat} {e : Entry} (h : Ordered view) (he : e ∈ view) (ha : e.address = a) :
    findEntry view a = some e := by
  cases hfind : findEntry view a with
  | none => exact absurd ha (by simpa using List.find?_eq_none.mp hfind e he)
  | some x => rw [eq_of_findEntry h hfind he ha]

theorem queryPeerBody_none {s : State} {a : Nat} (h : ∀ e ∈ s.view, e.address ≠ a) : queryPeerBody s a = [0] := by
  have hfind : (s.view.find? fun e => e.address == a) = none := findEntry_eq_none h
  simp [queryPeerBody, hfind]

/-- The times of an entry fit their fields. -/
theorem queryPeerBody_entry {s : State} {e : Entry} {a : Nat} (h : findEntry s.view a = some e)
    (harrival : s.now - e.arrival < 4294967296) (hhold : ∀ d, e.holdEnd = some d → d - s.now < 4294967296) : queryPeerBody s a =
      [byteOf e.status.code, byteOf e.relation.code] ++ bytes4 (s.now - e.arrival)
        ++ bytes4 (if e.status = .lost then (match e.holdEnd with | some d => d - s.now | none => 0) else 0)
        ++ statusBody e.address e.state e.fields := by
  have hfind : (s.view.find? fun e => e.address == a) = some e := h
  have hleft : (if e.status = .lost then timeLeft s e.holdEnd else bytes4 0) =
      bytes4 (if e.status = .lost then (match e.holdEnd with | some d => d - s.now | none => 0) else 0) := by
    split
    · cases hd : e.holdEnd with
      | none => rfl
      | some d => exact if_pos (hhold d hd)
    · rfl
  simp only [queryPeerBody, hfind, hleft, timeField, if_pos harrival]

/-- Settles O21: the answer by the entry of the address, where there is one. -/
theorem queryPeerShowsEntry : Obligations.QueryPeerShowsEntry := by
  intro s t tag address hn
  have hnone (h : ∀ e ∈ s.view, e.address ≠ address.toNat) :
      exec (.queryPeer t tag address) s = .next (answered (s.atInstant t) tag (.queryPeer address) (.data [0])) :=
    exec_new rfl hn (by simp [handle, handleQueryPeer, queryPeerBody_none (s := s.atInstant t) h])
  refine ⟨hnone, fun hview hcase => hnone fun e he ha => ?_, fun e he hview ha harrival hhold => ?_⟩
  · obtain ⟨-, hentries, -, hoffline⟩ := hview
    obtain ⟨hrange, hown⟩ := hentries e he
    obtain hbig | hself | hoff := hcase
    · omega
    · exact hown (ha.trans hself)
    · rw [(hoffline hoff).1] at he
      cases he
  · have hbody := queryPeerBody_entry (s := s.atInstant t) (findEntry_of_mem hview.1 he ha) harrival hhold
    refine exec_new rfl hn ?_
    rw [handle, handleQueryPeer, hbody]
    cases e.status <;> cases e.relation <;> rfl

end Sys2Proof.Machine
end

section
/-! PROOFS. The facts that the statements about events share: a whole block that a change misses, the read of U carried to the states around it, the published
allowances by R89's table, what an entry to STANDBY and the end of a leave leave behind (R47, R50, R89, R107, R113). -/

namespace Sys2Proof.Machine

/-! ## Reports in their places -/

/-- The first two reports of an operation, where there is room for both. -/
theorem Produces.append_two {r q : Report} {rs : List Report} {s u : State} (h : Produces (r :: q :: rs) s u)
    (hroom : s.link.reports.length + 2 ≤ 16) : ∃ more, u.link.reports =
      s.link.reports ++ [⟨s.link.reportNo, r⟩, ⟨(s.link.reportNo + 1) % 65536, q⟩] ++ more := by
  have hone : (produce r s).link.reports = s.link.reports ++ [⟨s.link.reportNo, r⟩] := produce_reports (by omega) r
  obtain ⟨more, hmore⟩ := h.cons.append_one (by rw [hone]; simp; omega)
  exact ⟨more, by rw [hmore, hone]; simp [produce_reportNo]⟩

/-! ## What an answer leaves -/

@[simp] theorem answered_keeps (u : State) (tag : Byte) (r : Request) (a : Answer) :
    (answered u tag r a).now = u.now ∧ (answered u tag r a).items = u.items ∧ (answered u tag r a).inForce = u.inForce
    ∧ (answered u tag r a).bus = u.bus ∧ (answered u tag r a).view = u.view ∧ (answered u tag r a).clock = u.clock
    ∧ (answered u tag r a).share = u.share ∧ (answered u tag r a).heat = u.heat ∧ (answered u tag r a).seq = u.seq
    ∧ (answered u tag r a).bank = u.bank ∧ (answered u tag r a).account = u.account ∧ (answered u tag r a).permit = u.permit
    ∧ (answered u tag r a).link.holder = u.link.holder ∧ (answered u tag r a).link.setpoint = u.link.setpoint
    ∧ (answered u tag r a).link.reports = u.link.reports ∧ (answered u tag r a).link.staleTimer = u.link.staleTimer
    ∧ (answered u tag r a).link.staleMark = u.link.staleMark :=
  ⟨rfl, rfl, rfl, rfl, rfl, rfl, rfl, rfl, rfl, rfl, rfl, rfl, rfl, rfl, rfl, rfl, rfl⟩

theorem answered_sameBut (u : State) (tag : Byte) (r : Request) (a : Answer) : SameBut [.exchange] u (answered u tag r a) :=
  fun p hp => by cases p <;> simp_all [Part.same, answered]

/-! ## Blocks that a change misses -/

section
variable {ps : List Part} {s u : State} (h : SameBut ps s u)
include h

theorem SameBut.book (hd : ∀ p ∈ [Part.noms, .orders, .target, .agreement, .orderMark], p ∉ ps) : u.book = s.book := by
  have hnoms : u.book.noms = s.book.noms := h .noms (hd _ (by simp))
  have horders : u.book.orders = s.book.orders := h .orders (hd _ (by simp))
  have htarget : u.book.target = s.book.target := h .target (hd _ (by simp))
  have hmark : u.book.orderChanged = s.book.orderChanged := h .orderMark (hd _ (by simp))
  obtain ⟨hagree, hn, ha, hpersistence, hsettle, hheld⟩ := h .agreement (hd _ (by simp))
  cases hu : u.book
  cases hs : s.book
  simp_all

theorem SameBut.monitor (hd : ∀ p ∈ [Part.native, .thermal, .margin, .stale, .zoneHigh], p ∉ ps) (m : Monitor) :
    u.bank.monitor m = s.bank.monitor m :=
  monitor_of_parts (ds := [.native, .thermal, .margin, .stale, .zoneHigh]) (by decide) (fun p hp => h p (hd p hp)) m

theorem SameBut.isStore (hd : Part.inForce ∉ ps) : u.isStore = s.isStore := by
  rw [State.isStore, h.inForce hd]
  rfl

theorem SameBut.isTrain (hd : Part.inForce ∉ ps) : u.isTrain = s.isTrain := by
  rw [State.isTrain, h.inForce hd]
  rfl

end

/-! ## The read of U, between other states -/

/-- A train that holds no command reads U without a cut (R50). -/
theorem readUpper_idle_sameBut {s : State} (h : s.seq.state.loaded = false) :
    SameBut [.cooled, .reports, .available, .lastU] s (readUpper s) := by
  obtain hr | hr := readUpper_idle h <;> rw [hr]
  · exact .refl _ s
  · exact readAtExpiry_sameBut s

/-- The parts of the station before a read of U that `CutAtRead` speaks of. -/
def cutBefore : List Part := [.inForce, .state, .command, .setpoint, .clock, .lastLoaded, .standbyTimer]

/-- The parts of the station after it. -/
def cutAfter : List Part :=
  [.inForce, .state, .command, .setpoint, .lastLoaded, .standbyTimer, .cooled, .lastU, .holder, .view, .cap]

/-- What a read of U does, said of the station before other work of the event and after it. -/
theorem CutAtRead.congr {s v u w : State} {limit : Nat} (h : CutAtRead v u limit) (hs : ∀ p ∈ cutBefore, p.same s v)
    (hu : ∀ p ∈ cutAfter, p.same u w) (hnow : w.now = u.now) : CutAtRead s w limit := by
  have hforce : v.inForce = s.inForce := hs .inForce (by decide)
  have hstate : v.seq.state = s.seq.state := hs .state (by decide)
  have hcommand : v.share.command = s.share.command := hs .command (by decide)
  have hsetpoint : v.link.setpoint = s.link.setpoint := hs .setpoint (by decide)
  have hclock : v.clock = s.clock := hs .clock (by decide)
  have hlast : v.share.lastLoaded = s.share.lastLoaded := hs .lastLoaded (by decide)
  have htimer : v.seq.standbyTimer = s.seq.standbyTimer := hs .standbyTimer (by decide)
  have wforce : w.inForce = u.inForce := hu .inForce (by decide)
  have wstate : w.seq.state = u.seq.state := hu .state (by decide)
  have wcommand : w.share.command = u.share.command := hu .command (by decide)
  have wsetpoint : w.link.setpoint = u.link.setpoint := hu .setpoint (by decide)
  have wlast : w.share.lastLoaded = u.share.lastLoaded := hu .lastLoaded (by decide)
  have wtimer : w.seq.standbyTimer = u.seq.standbyTimer := hu .standbyTimer (by decide)
  have wcooled : w.heat.cooled = u.heat.cooled := hu .cooled (by decide)
  have wlastU : w.share.lastU = u.share.lastU := hu .lastU (by decide)
  have wlimit : upperLimit w = upperLimit u := upperLimit_of_parts fun p hp => hu p (by revert p; decide)
  have htrain : v.isTrain = s.isTrain := by rw [State.isTrain, hforce]; rfl
  unfold CutAtRead at h ⊢
  rw [htrain, hforce, hstate, hcommand, hsetpoint, hclock, hlast, htimer] at h
  rw [wforce, wstate, wcommand, wsetpoint, wlast, wtimer, wcooled, wlastU, wlimit, hnow]
  exact h

/-- The limit read depends on the values in force and the cooled flag alone, beside what it is given. -/
theorem limitRead_congr {s v : State} (hforce : v.inForce = s.inForce) (hcooled : v.heat.cooled = s.heat.cooled)
    (holder : Option Holder) (view : List Entry) (cap : Nat) : limitRead v holder view cap = limitRead s holder view cap := by
  unfold limitRead
  have hstore : storeCapC { v with view := view, link := { v.link with holder := holder }, bank := { v.bank with cap := cap } } =
      storeCapC { s with view := view, link := { s.link with holder := holder }, bank := { s.bank with cap := cap } } := by
    unfold storeCapC linkedStore heatReservation State.ownKind
    rw [hforce]
  refine upperLimit_congr hforce rfl rfl ?_ rfl
  dsimp only
  rw [hstore, hforce, hcooled]

/-- An event whose last work is a read of U, with the parts of the read missed before it (R50). -/
theorem cutAtRead_of_readUpper {s v w : State} (hoff : s.seq.state ≠ .offline) (hs : ∀ p ∈ .cooled :: cutBefore, p.same s v)
    (hw : ∀ p ∈ cutAfter, p.same (readUpper v) w) (hnow : w.now = v.now) :
    CutAtRead s w (limitRead s v.link.holder v.view v.bank.cap) := by
  have hstate : v.seq.state = s.seq.state := hs .state (by decide)
  rw [← limitRead_congr (hs .inForce (by decide)) (hs .cooled (by decide))]
  refine (readUpper_cutAtRead (hstate ▸ hoff)).congr (fun p hp => hs p (List.mem_cons_of_mem _ hp)) hw ?_
  rw [hnow]
  simp

/-! ## Published allowances -/

/-- A store in ACTIVE publishes by R89's table. -/
theorem publishedByTable_formPublished {s : State} (hstore : s.isStore = true) (hs : s.seq.state = .active) :
    PublishedByTable (formPublished s) := by
  have hretry (m : Monitor) : activeRetry s m = true ↔ (s.bank.monitor m).cond = .active ∧ s.inForce.modes.get m = .retry := by
    simp [activeRetry]
  have hstale := hretry .stale
  have hzone := hretry .zoneHigh
  simp only [Bank.monitor, Modes.get] at hstale hzone
  unfold formPublished PublishedByTable publishedOf
  rw [if_pos hstore]
  simp only [hs, ← hstale, ← hzone]
  by_cases h1 : activeRetry s .stale = true <;> by_cases h2 : activeRetry s .zoneHigh = true <;> simp [h1, h2]

/-- Out of ACTIVE a store publishes nothing (R89). -/
theorem formPublished_idle {s : State} (hstore : s.isStore = true) (hs : s.seq.state ≠ .active) :
    (formPublished s).heat.pubCharge = 0 ∧ (formPublished s).heat.pubDischarge = 0 := by
  simp [formPublished, hstore, publishedOf, hs]

/-- A store reads no U. -/
theorem readUpper_of_store {s : State} (h : s.isStore = true) : readUpper s = s := by
  simp [readUpper, isTrain_of_isStore h]

/-! ## SETPOINTs at a change of state -/

theorem setpointNow_eq (s : State) :
    setpointNow s = ⟨s.share.command, decide (s.inForce.kind = some .C ∧ s.heat.cooled = true), s.seq.state⟩ :=
  Option.some.inj (sendSetpoint_setpoint s)

theorem setpointIfFell_setpoint (old : Nat) (s : State) :
    (setpointIfFell old s).link.setpoint = if old ≠ 0 ∧ s.isTrain = true then some (setpointNow s) else s.link.setpoint := by
  unfold setpointIfFell
  split <;> rfl

/-- A train's entry to STANDBY sends a SETPOINT where the command fell (R47, R65). -/
theorem enterStandby_setpoint (cause : Cause) (s : State) : (enterStandby cause s).link.setpoint =
    if s.share.command ≠ 0 ∧ s.isTrain = true then some ⟨0, decide (s.inForce.kind = some .C ∧ s.heat.cooled = true), .standby⟩
    else s.link.setpoint := by
  have hread (v : State) (hl : v.seq.state.loaded = false) : (readIfCapChanged s.bank.cap v).link.setpoint = v.link.setpoint :=
    readIfCapChanged_sameBut s.bank.cap hl .setpoint (by decide)
  unfold enterStandby
  dsimp only
  rw [hread _ (by simp [StationState.loaded]), setpointIfFell_setpoint]
  have htrain (v : State) (hv : v.inForce = s.inForce) : v.isTrain = s.isTrain := by rw [State.isTrain, hv]; rfl
  rw [htrain _ (by simp [dropCommand, stopSequence])]
  split
  · rw [setpointNow_eq]
    simp [dropCommand, stopSequence]
  · simp [dropCommand, stopSequence]

/-- AVAILABLE is clear where a condition of R51 fails. -/
theorem AvailableLaw.clear {s : State} (h : AvailableLaw s) (hs : s.permit = false ∨ s.seq.state.mayBeAvailable = false) :
    s.seq.available = false := by
  cases ha : s.seq.available with
  | false => rfl
  | true =>
    obtain ⟨hstate, hpermit, -⟩ := h.mp ha
    obtain hs | hs := hs
    · rw [hpermit] at hs; cases hs
    · rw [(mayBeAvailable_iff _).mpr hstate] at hs; cases hs

/-! ## PERMIT -/

@[simp] theorem endLeave_alert (s : State) : (endLeave s).bus.pendingAlert = some ⟨s.inForce.address, .leave, cutReport s⟩ := rfl

theorem permitTo_false {s : State} (h : s.permit = true) : permitTo false s = permitRemoved { s with permit := false } := by
  simp [permitTo, h]

theorem permitRemoved_leaving {s : State} (hs : s.seq.state = .leaving) (ht : s.isTrain = true) :
    permitRemoved s = setpointIfFell s.share.command (endLeave { s with share := { s.share with command := 0 } }) := by
  simp [permitRemoved, hs, ht]

/-- Out of STARTING, RUNNING and a train's LEAVING the removal makes the station unavailable and no more (R51). -/
theorem permitRemoved_idle {s : State} (h1 : s.seq.state ≠ .starting) (h2 : s.seq.state ≠ .running)
    (h3 : s.seq.state = .leaving → s.isTrain = false) : permitRemoved s = evalAvailable s := by
  unfold permitRemoved
  split <;> simp_all

/-- Settles O28: by the state that the removal finds. -/
theorem permitChangeMovesTrain : Obligations.PermitChangeMovesTrain := by
  intro s t
  refine ⟨fun hp => ?_, fun hp hrun => ?_, fun hp hl ht => ?_, fun hp h1 h2 h3 => ?_⟩
  · refine ⟨evalAvailable { s.atInstant t with permit := true }, ?_, rfl, rfl, evalAvailable_law _, rfl⟩
    simp [exec, execPermitChange, permitTo, hp]
  · have hstep : exec (.permitChange t false) s = .next (enterStandby .permit { s.atInstant t with permit := false }) := by
      refine congrArg _ ((permitTo_false (s := s.atInstant t) hp).trans ?_)
      obtain hrun | hrun := hrun <;> simp [permitRemoved, hrun]
    have hfallen := enterStandby_ofFallen .permit { s.atInstant t with permit := false }
    have hframe := enterStandby_sameBut .permit { s.atInstant t with permit := false }
    have hsetpoint := enterStandby_setpoint .permit { s.atInstant t with permit := false }
    obtain ⟨more, hreports, -⟩ := enterStandby_produces .permit { s.atInstant t with permit := false }
    refine ⟨_, hstep, by simp, by simp, (enterStandby_availableLaw _ _).clear (.inl (by simp)), by simp, ?_, ?_, ?_, ?_, fun ht h0 => ?_,
      hreports.queued, by simp, by simp, by simp, hframe.book (by decide), hframe .view (by decide), hframe.account (by decide)⟩
    · exact (hfallen .wake (by decide)).trans (by simp)
    · exact (hfallen .startTimer (by decide)).trans (by simp)
    · exact (hfallen .standbyTimer (by decide)).trans (by simp)
    · refine (hfallen .blanking (by decide)).1.trans ((fallen_blanking _).1.trans ?_)
      obtain hrun | hrun := hrun <;> simp [hrun, StationState.loaded]
    · exact ⟨_, hsetpoint.trans (if_pos ⟨h0, ht⟩), rfl, rfl⟩
  · have hstep : exec (.permitChange t false) s = .next (setpointIfFell s.share.command
        (endLeave { s.atInstant t with permit := false, share := { s.share with command := 0 } })) :=
      congrArg _ ((permitTo_false (s := s.atInstant t) hp).trans
        (permitRemoved_leaving (s := { s.atInstant t with permit := false }) hl ht))
    refine ⟨_, hstep, by simp, by simp, by simp, ⟨_, (setpointIfFell_sameBut _ _ .pendingAlert (by decide)).trans (endLeave_alert _)⟩,
      fun h0 => ?_, ?_⟩
    · refine (setpointIfFell_setpoint _ _).trans ((if_pos ⟨h0, ?_⟩).trans (by rw [setpointNow_eq]; simp))
      simpa [State.isTrain] using ht
    · have hreports := (endLeave_produces { s.atInstant t with permit := false, share := { s.share with command := 0 } }).then_sameBut
        (setpointIfFell_sameBut s.share.command _) (by decide)
      have hqueued : Queued s _ (.stateChange s.seq.state .offline .leaveEnd) := hreports.queued
      rwa [hl] at hqueued
  · refine congrArg _ ((permitTo_false (s := s.atInstant t) hp).trans
      ((permitRemoved_idle (s := { s.atInstant t with permit := false }) h1 h2 h3).trans ?_))
    simp [evalAvailable, availableNow]

end Sys2Proof.Machine
end

section
/-! PROOFS. LEAVE (R112, R113) and CLEAR (R116, R134): by the state that the request finds. -/

namespace Sys2Proof.Machine

/-! ## The end of a leave -/

/-- The cut report of a train names its last loaded interval (R39). -/
theorem cutReport_last {s : State} (ht : s.isTrain = true) : (cutReport s).last = s.share.lastLoaded := by
  unfold cutReport
  rw [if_pos ht]
  split <;> rfl

/-- The cut report of a train from the nomination that covers the current interval (R39). -/
theorem cutReport_covered {s : State} {i : Nat} {e : BookEntry} (ht : s.isTrain = true) (hi : s.clock.current = some i)
    (he : coveringEntry s.book.noms i = some e) : (cutReport s).first = some e.first ∧ (cutReport s).toRun = e.first + e.count - i := by
  simp [cutReport, ht, hi, he]

theorem endLeave_openRec (s : State) :
    (endLeave s).account.openRec = s.account.openRec.map fun o => { o with cut := some ⟨.leave, cutReport s⟩ } := by
  simp [endLeave, standDown, noteCut, accountLeave]

theorem endLeave_points (s : State) : (endLeave s).account.ownPoint = none ∧ (endLeave s).account.peerPoints = [] := ⟨rfl, rfl⟩

theorem leaveAtOnce_setpoint (s : State) : (leaveAtOnce s).link.setpoint = some ⟨0, false, .offline⟩ := by
  simp [leaveAtOnce]

theorem leaveAtOnce_produces (s : State) : Produces [.stateChange s.seq.state .offline .leaveEnd] s (leaveAtOnce s) :=
  (endLeave_produces s).then_sameBut (sendSetpoint_sameBut _) (by decide)

/-! ## The entries to LEAVING -/

theorem startLeaving_produces (s : State) : Produces [.stateChange s.seq.state .leaving .leave] s (startLeaving s) := .refl _

theorem startStoreLeaving_produces (s : State) : Produces [.stateChange s.seq.state .leaving .leave] s (startStoreLeaving s) := by
  have hcount := produces_of_frame (setLeaveCount_sameBut 0 s) (by decide)
  have henter := hcount.trans (enterState_produces .leaving .leave _)
  exact (henter.then_sameBut (evalAvailable_sameBut _) (by decide)).then_sameBut (formPublished_sameBut _) (by decide)

theorem startStoreLeaving_published {s : State} (h : s.isStore = true) :
    (startStoreLeaving s).heat.pubCharge = 0 ∧ (startStoreLeaving s).heat.pubDischarge = 0 :=
  formPublished_idle h (by simp)

theorem handleLeave_ends {s : State} (h : s.seq.state = .standby ∨ s.seq.state = .starting ∨ (s.seq.state = .running ∧ s.share.command = 0)) :
    handle .leave s = ⟨leaveAtOnce s, .accept false⟩ := by
  obtain h | h | ⟨h, h0⟩ := h
  · simp [handle, handleLeave, h]
  · simp [handle, handleLeave, h]
  · simp [handle, handleLeave, h, h0]

/-- Settles O18: by the state. -/
theorem leaveByState : Obligations.LeaveByState := by
  intro s t tag hn
  refine ⟨fun h => ?_, fun h => ?_, fun h => ?_, fun hr h0 => ?_, fun ha hstore => ?_⟩
  · refine exec_new rfl hn ?_
    obtain h | h | h | h := h <;> simp [handle, handleLeave, h, refuse]
  · exact exec_new rfl hn (by simp [handle, handleLeave, h])
  · have hhandle : handle .leave (s.atInstant t) = ⟨leaveAtOnce (s.atInstant t), .accept false⟩ := handleLeave_ends (s := s.atInstant t) h
    have hcut := endLeave_openRec (s.atInstant t)
    refine ⟨_, exec_new rfl hn hhandle, rfl, rfl, rfl, rfl, rfl, rfl, rfl, rfl, ⟨cutReport (s.atInstant t), rfl, fun ht => ?_,
      fun i hi e he ht => ?_, fun o ho => ?_⟩, ?_, rfl, rfl, leaveAtOnce_setpoint _, rfl, rfl, rfl, rfl, ?_, rfl, rfl, rfl, rfl, rfl, rfl, rfl,
      rfl, (leaveAtOnce_produces _).queued⟩
    · exact cutReport_last (s := s.atInstant t) ht
    · exact cutReport_covered (s := s.atInstant t) ht hi he
    · refine ⟨_, hcut.trans (congrArg _ ho), rfl, rfl⟩
    · rfl
    · exact (leaveAtOnce_sameBut (s.atInstant t) .log (by decide))
  · have hhandle : handle .leave (s.atInstant t) = ⟨startLeaving (s.atInstant t), .accept false⟩ := by
      simp [handle, handleLeave, hr, h0]
    have hqueued : Queued s _ (.stateChange s.seq.state .leaving .leave) := (startLeaving_produces (s.atInstant t)).queued
    rw [hr] at hqueued
    exact ⟨_, exec_new rfl hn hhandle, rfl, rfl, rfl, rfl, rfl, rfl, rfl, rfl, rfl, rfl, hqueued⟩
  · have hhandle : handle .leave (s.atInstant t) = ⟨startStoreLeaving (s.atInstant t), .accept false⟩ := by
      simp [handle, handleLeave, ha]
    have hqueued : Queued s _ (.stateChange s.seq.state .leaving .leave) := (startStoreLeaving_produces (s.atInstant t)).queued
    rw [ha] at hqueued
    obtain ⟨hcharge, hdischarge⟩ := startStoreLeaving_published (s := s.atInstant t) hstore
    exact ⟨_, exec_new rfl hn hhandle, startStoreLeaving_state _, by simp [startStoreLeaving], hcharge, hdischarge,
      by simp [startStoreLeaving], by simp [startStoreLeaving], by simp [startStoreLeaving], rfl, hqueued⟩

/-! ## CLEAR -/

theorem handleClear_refused {s : State} (h : s.seq.state = .offline ∨ (s.seq.state = .tripped ∧ latchedPresent s = true)) :
    handle .clear s = ⟨s, .refuse .badState⟩ := by
  obtain h | ⟨h, hp⟩ := h
  · simp [handle, handleClear, State.isSealed, h, refuse]
  · simp [handle, handleClear, State.isSealed, h, hp, refuse]

theorem handleClear_taken {s : State} (hs : s.seq.state ≠ .offline) (h : s.seq.state = .tripped → latchedPresent s = false) :
    handle .clear s = ⟨acceptClear s, .accept false⟩ := by
  have hsealed : s.isSealed = true := (isSealed_eq_true s).mpr hs
  have hpresent : ¬ (s.seq.state = .tripped ∧ latchedPresent s = true) := fun hp => by rw [h hp.1] at hp; cases hp.2
  simp [handle, handleClear, hsealed, hpresent]

theorem clearWork_now (s : State) : (clearWork s).now = s.now := by
  unfold clearWork
  split <;> simp

theorem clearWork_tripped {s : State} (h : s.seq.state = .tripped) :
    clearWork s = formPublished (evalAvailable (leaveTripped (unlatchGone s))) := by
  rw [clearWork, if_pos h]

theorem clearWork_latched {s : State} (h : s.seq.state ≠ .tripped) : clearWork s = formPublished (evalAvailable (unlatchGone s)) := by
  rw [clearWork, if_neg h]

/-- Out of TRIPPED a CLEAR unlatches and no more. -/
theorem clearWork_frame {s : State} (h : s.seq.state ≠ .tripped) :
    SameBut [.available, .published] (unlatchGone s) (clearWork s) := by
  rw [clearWork_latched h]
  exact (evalAvailable_sameBut _).comp (formPublished_sameBut _) (List.Subset.refl _)

/-- A store in ACTIVE after a CLEAR publishes by R89's table. -/
theorem clearWork_published {s : State} (hstore : s.isStore = true) (ha : (clearWork s).seq.state = .active) :
    PublishedByTable (clearWork s) := by
  have hstore' (v : State) (hv : v.inForce = s.inForce) : v.isStore = true := by rwa [State.isStore, hv]
  unfold clearWork at ha ⊢
  exact publishedByTable_formPublished (hstore' _ (by split <;> simp)) (by simpa using ha)

/-- A CLEAR from TRIPPED leaves each monitor as the unlatching does (R134). -/
theorem clearWork_monitor (s : State) (m : Monitor) : (clearWork s).bank.monitor m = unlatch (s.bank.monitor m) := by
  rw [← unlatchGone_monitor]
  by_cases ht : s.seq.state = .tripped
  · rw [clearWork_tripped ht]
    have hform (v : State) : (formPublished (evalAvailable v)).bank = v.bank := by simp
    rw [hform]
    unfold leaveTripped
    dsimp only
    split
    · exact (enterActive_sameBut .clear _).monitor (by decide) m
    · refine ((enterStandby_ofFallen .clear _).monitor (by decide) m).trans ((fallen_monitor _ m).trans ?_)
      simp [ht, StationState.loaded]
  · exact (clearWork_frame ht).monitor (by decide) m

/-- The station after a CLEAR from TRIPPED, but for what its read of U may change. -/
theorem acceptClear_tripped {s : State} (h : s.seq.state = .tripped) :
    SameBut [.cooled, .reports, .available, .lastU] (clearWork s) (acceptClear s) := by
  rw [acceptClear_eq]
  refine readUpper_idle_sameBut ?_
  rw [clearWork_state, if_pos h]
  split <;> rfl

theorem acceptClear_produces {s : State} (h : s.seq.state = .tripped) : ∃ rs, Produces
    (.tripCleared :: .stateChange .tripped (if s.isStore then .active else .standby) .clear :: rs) s (acceptClear s) := by
  have hgone := (produces_of_frame (unlatchGone_sameBut s) (by decide)).trans (produces_produce .tripCleared _)
  have hleft : ∃ rs, Produces (.tripCleared :: .stateChange .tripped (if s.isStore then .active else .standby) .clear :: rs) s
      (leaveTripped (unlatchGone s)) := by
    have hkind : (unlatchGone s).isStore = s.isStore := rfl
    unfold leaveTripped
    dsimp only
    rw [hkind]
    by_cases hstore : s.isStore = true
    · rw [if_pos hstore, if_pos hstore]
      exact ⟨[], by simpa [h] using hgone.trans (enterActive_produces .clear _)⟩
    · rw [if_neg hstore, if_neg hstore]
      obtain ⟨rs, hstandby, -⟩ := enterStandby_produces .clear (produce .tripCleared (unlatchGone s))
      exact ⟨rs, by simpa [h] using hgone.trans hstandby⟩
  obtain ⟨rs, hleft⟩ := hleft
  have hform := (hleft.then_sameBut (evalAvailable_sameBut _) (by decide)).then_sameBut (formPublished_sameBut _) (by decide)
  obtain ⟨qs, hread, -⟩ := readUpper_produces (clearWork s)
  rw [acceptClear_eq]
  rw [← clearWork_tripped h] at hform
  exact ⟨rs ++ qs, hform.trans hread⟩

theorem leaveTripped_share {s : State} (h : s.isStore = false) : (leaveTripped s).share.command = 0 ∧ (leaveTripped s).share.wake = 0 := by
  unfold leaveTripped
  dsimp only
  rw [if_neg (by simp [h])]
  exact ⟨enterStandby_command _ _, (enterStandby_ofFallen _ _ .wake (by decide)).trans (by simp)⟩

theorem leaveTripped_tripOut (s : State) : (leaveTripped s).seq.tripOut = false := by
  unfold leaveTripped
  dsimp only
  split <;> simp

/-- Settles O17: refused, from TRIPPED, and from the other states. -/
theorem clearUnlatches : Obligations.ClearUnlatches := by
  intro s t tag hn
  refine ⟨fun hs => ?_, fun hs ⟨m, hm, hmark⟩ => ?_, fun hs hmarks => ?_, fun hs ht => ?_⟩
  · exact exec_new rfl hn (handleClear_refused (s := s.atInstant t) (.inl hs))
  · refine exec_new rfl hn (handleClear_refused (s := s.atInstant t) (.inr ⟨hs, ?_⟩))
    exact (latchedPresent_iff _).mpr ⟨m, hm, hmark⟩
  · have hpresent : latchedPresent (s.atInstant t) = false := by
      rw [Bool.eq_false_iff, ne_eq, latchedPresent_iff]
      rintro ⟨m, hm, hmark⟩
      exact Bool.false_ne_true ((hmarks m hm).symm.trans hmark)
    have hread := acceptClear_tripped (s := s.atInstant t) hs
    have hwork := clearWork_tripped (s := s.atInstant t) hs
    have hframe := (clearWork_sameBut (s.atInstant t)).comp hread (List.Subset.refl _)
    obtain ⟨rs, hreports⟩ := acceptClear_produces (s := s.atInstant t) hs
    have hidle (hstore : s.isStore = false) :
        (clearWork (s.atInstant t)).share.command = 0 ∧ (clearWork (s.atInstant t)).share.wake = 0 := by
      rw [hwork]
      simpa using leaveTripped_share (s := unlatchGone (s.atInstant t)) hstore
    refine ⟨_, exec_new rfl hn (handleClear_taken (s := s.atInstant t) (by simp [hs]) fun _ => hpresent), ?_, ?_, fun hstore => ⟨?_, ?_⟩,
      fun hstore => ?_, fun m => ?_, rfl, fun hroom => ?_, hframe .items (by decide), hframe .inForce (by decide), hframe .clock (by decide),
      hframe.book (by decide), hframe .view (by decide), hframe.account (by decide), hframe .permit (by decide)⟩
    · exact (hread.state (by decide)).trans ((clearWork_state _).trans (if_pos hs))
    · refine (hread .tripOut (by decide)).trans ?_
      rw [hwork]
      simpa using leaveTripped_tripOut _
    · exact (hread .command (by decide)).trans (hidle hstore).1
    · exact (hread .wake (by decide)).trans (hidle hstore).2
    · have hactive : (clearWork (s.atInstant t)).seq.state = .active :=
        (clearWork_state _).trans ((if_pos hs).trans (if_pos hstore))
      have hpublished := clearWork_published (s := s.atInstant t) hstore hactive
      rwa [← readUpper_of_store (s := clearWork (s.atInstant t)) (((clearWork_sameBut _).isStore (by decide)).trans hstore), ← acceptClear_eq] at hpublished
    · refine (hread.monitor (by decide) m).trans ((clearWork_monitor _ m).trans ?_)
      by_cases hm : (s.bank.monitor m).cond = .latched
      · rw [if_pos hm]
        exact if_pos ⟨hm, hmarks m hm⟩
      · rw [if_neg hm]
        exact if_neg fun h => hm h.1
    · exact hreports.append_two (by simpa using hroom)
  · have hs' : (s.atInstant t).seq.state ≠ .tripped := ht
    have hwork := (unlatchGone_sameBut (s.atInstant t)).comp (clearWork_frame hs') (List.Subset.refl _)
    have hframe := (atInstant_sameBut t s).comp hwork (List.Subset.refl _)
    have hholder : (clearWork (s.atInstant t)).link.holder = s.link.holder := hframe .holder (by decide)
    have hview : (clearWork (s.atInstant t)).view = s.view := hframe .view (by decide)
    have hcap : (clearWork (s.atInstant t)).bank.cap = s.bank.cap := hframe .cap (by decide)
    have hstate := hframe.state (by decide)
    have hchanges := readUpper_changes (clearWork (s.atInstant t))
    rw [← acceptClear_eq] at hchanges
    refine ⟨_, exec_new rfl hn (handleClear_taken (s := s.atInstant t) hs fun h => absurd h ht), rfl, ?_, fun hend m => ?_, ?_,
      fun hstore ha => ?_, ?_, ?_, ?_, ?_⟩
    · obtain hsame | ⟨hleaving, hoff, -⟩ := hchanges
      · exact .inl ((hsame.state (by decide)).trans hstate)
      · exact .inr ⟨hstate.symm.trans hleaving, hoff⟩
    · obtain hsame | ⟨-, hoff, -⟩ := hchanges
      · exact (hsame.monitor (by decide) m).trans (clearWork_monitor _ m)
      · exact absurd hoff hend
    · have hcut := cutAtRead_of_readUpper (s := s) (v := clearWork (s.atInstant t)) hs (fun p hp => hframe p (by revert p; decide))
        (fun p hp => answered_sameBut (acceptClear (s.atInstant t)) tag .clear (.accept false) p (by revert p; decide)) (by simp [clearWork_now])
      rwa [hholder, hview, hcap] at hcut
    · have hstore' : (clearWork (s.atInstant t)).isStore = true := (hframe.isStore (by decide)).trans hstore
      have hread : acceptClear (s.atInstant t) = clearWork (s.atInstant t) := readUpper_of_store hstore'
      have hpublished := clearWork_published (s := s.atInstant t) hstore (hread ▸ ha)
      rwa [← hread] at hpublished
    · exact acceptClear_command_le (s.atInstant t)
    · simp
    · simp
    · simp

end Sys2Proof.Machine
end

section
/-! PROOFS. The interval clock: BOUNDARY pulses and free run (R26 to R29), and what every interval change does to the book and the account (R30, R140 to
R144). -/

namespace Sys2Proof.Machine

/-! ## Energies -/

theorem kWh_nonneg {acc : Int} (h : 0 ≤ acc) : kWh acc = (acc + 18000) / 36000 := by
  unfold kWh
  rw [if_neg (by omega)]
  omega

theorem kWh_neg (acc : Int) : kWh (-acc) = -kWh acc := by
  unfold kWh
  by_cases h0 : acc = 0
  · simp [h0]
  · by_cases h : acc < 0
    · rw [if_neg (by omega), if_pos h, Int.neg_neg]
    · rw [if_pos (by omega), if_neg h, Int.neg_neg]

/-! ## The reports of a change -/

/-- Whichever order two blocks take, a report for which there is room is queued. -/
theorem mem_produceEither {r : Report} (y : Option Report) {s : State} (h : s.link.reports.length + 2 ≤ 16) :
    ∃ k, ⟨k, r⟩ ∈ (produceEither (some r) y s).link.reports := by
  cases y with
  | none => exact (produces_produce r s).mem (pre := []) (by simp; omega)
  | some q =>
    have hfirst : Produces [r, q] s (produce q (produce r { s with free := s.free + 1 })) := ⟨rfl, rfl, rfl⟩
    have hsecond : Produces [q, r] s (produce r (produce q { s with free := s.free + 1 })) := ⟨rfl, rfl, rfl⟩
    unfold produceEither
    dsimp only
    split
    · exact hfirst.mem (pre := []) (by simp; omega)
    · exact hsecond.mem (pre := [q]) (by simp; omega)

/-! ## What a change takes -/

theorem pushRecord_eq (log : List DeliveryRecord) (r : DeliveryRecord) :
    pushRecord log r = (if log.length < 48 then log else log.drop 1) ++ [r] := by
  unfold pushRecord Config.logCapacity
  split <;> rfl

/-- The record of the interval that closes, from the station before the change (R142, R143). -/
theorem recordWritten_intervalChange {s v : State} (n : Nat) (b : Bool)
    (hv : v = { s with now := v.now, clock := v.clock, link := v.link }) (hroom : v.link.reports.length ≤ s.link.reports.length + 1) :
    RecordWritten s (intervalChange n b v) v.now b := by
  have haccount : v.account = s.account := by rw [hv]
  have hforce : v.inForce = s.inForce := by rw [hv]
  have hbook : v.book = s.book := by rw [hv]
  have hlog : (intervalChange n b v).account.log = closedLog b v := by simp [intervalChange_eq, changed, closedAccount]
  refine ⟨fun hnone => ?_, fun o ho span hspan own plant hown hplant => ⟨?_, fun hthree => ?_⟩⟩
  · rw [hlog, closedLog, haccount, hnone]
  · have hopen : v.account.openRec ≠ none := by rw [haccount, ho]; simp
    have hspan' : span = ownSpan v.ownKind v.account.ownPoint v.now := by
      rw [(ownEnergyIs_iff s v.now span).mp hspan, haccount, State.ownKind, State.ownKind, hforce]
    obtain ⟨howns, hplants⟩ := creditAll_energies hopen
    have howned : (creditAll v).ownAcc = own := by rw [howns, hown, haccount, hspan', haccount]
    have hplanted : (creditAll v).plantAcc = plant := by
      rw [hplants, hplant, peerSpans_eq_peersEnergy, haccount, hspan', haccount]
    have hrecord : closedLog b v = pushRecord s.account.log (closedRecord o b v) := by
      rw [closedLog, haccount, ho]
    have hdropped : (!decide (s.account.log.length < Config.logCapacity)) = decide (48 ≤ s.account.log.length) := by
      rw [← decide_not]
      exact decide_eq_decide.mpr Nat.not_lt
    rw [hlog, hrecord, pushRecord_eq, closedRecord, howned, hplanted, hforce, hbook, haccount, hdropped]
    rfl
  · rw [hlog, intervalChange_eq, closedReport, haccount, ho]
    exact mem_produceEither _ (by simp [changed]; omega)

/-- The counts of R40 are those of the spec's filters. -/
theorem agreementN_eq (view : List Entry) : agreementN view = (view.filter fun e => match e.fields with
    | .train x => decide (e.status ≠ .lost ∧ x.interval ≠ 4294967295)
    | .store _ => false).length + 1 := by
  rw [agreementN, List.countP_eq_length_filter]
  congr 3
  funext e
  unfold Entry.countsForAgreement
  cases e.fields <;> simp [bne, Config.untimedCode, Bool.beq_eq_decide_eq]

theorem agreementA_eq (view : List Entry) (i : Nat) (target : Option Int) : agreementA view i target =
    (view.filter fun e => match e.fields with
      | .train x => decide (e.status ≠ .lost ∧ x.interval ≠ 4294967295 ∧ x.interval = i ∧ x.target = target)
      | .store _ => false).length + 1 := by
  rw [agreementA, List.countP_eq_length_filter]
  congr 3
  funext e
  unfold Entry.countsForAgreement Entry.sharesTarget
  cases e.fields <;> simp [bne, Config.untimedCode, Bool.beq_eq_decide_eq, Bool.and_assoc]

/-- A judgement by the table of R40, R42 and R43. -/
theorem judged_spec (b : Book) (view : List Entry) (i : Nat) :
    (b.judged view i).n = agreementN view ∧ (b.judged view i).a = agreementA view i b.target
    ∧ ((b.judged view i).agree = true ↔ (b.judged view i).n < 2 * (b.judged view i).a)
    ∧ ((b.judged view i).agree = true → (b.judged view i).held = none ∧ (b.judged view i).persistence = 0)
    ∧ ((b.judged view i).agree = false → (b.judged view i).held = b.held.map (fun _ => .disagree)
        ∧ (b.judged view i).persistence = b.persistence)
    ∧ (b.judged view i).settle = b.settle := by
  unfold Book.judged
  dsimp only
  split
  · next h => simpa using h
  · next h => simpa using h

theorem changedBook_sealed {s : State} (h : s.seq.state ≠ .offline) (n : Nat) :
    changedBook s n = (settlingBook s.book n).judged s.view n := by
  rw [changedBook, if_pos ((isSealed_eq_true s).mpr h)]

theorem changedBook_offline {s : State} (h : s.seq.state = .offline) (n : Nat) : changedBook s n = purgedBook s.book n := by
  rw [changedBook, if_neg (by simp [h])]

/-- From JOINING onward a change judges agreement with the target it derives (R40, R41). -/
theorem judgedIn_changed {s : State} (h : s.seq.state ≠ .offline) (n : Nat) (b : Bool) : JudgedIn s (changed n b s) n := by
  have hbook : (changed n b s).book = (settlingBook s.book n).judged s.view n := changedBook_sealed h n
  obtain ⟨hn, ha, hagree, hyes, hno, -⟩ := judged_spec (settlingBook s.book n) s.view n
  have htarget : (changed n b s).book.target = (settlingBook s.book n).target := by rw [hbook]; simp
  unfold JudgedIn
  rw [htarget, hbook]
  exact ⟨hn.trans (agreementN_eq s.view), ha.trans (agreementA_eq s.view n _), hagree, fun hy => (hyes hy).1, fun hy => (hno hy).1⟩

/-- The judgement of a change, of a station whose blocks are those of another. -/
theorem JudgedIn.congr {s v u w : State} {n : Nat} (h : JudgedIn v u n) (hbook : v.book = s.book) (hw : w.book = u.book)
    (hview : w.view = u.view) : JudgedIn s w n := by
  unfold JudgedIn at h ⊢
  rwa [hw, hview, ← hbook]

/-- What a change derives is the amounts of the purged lists, in range (R36, R38). -/
theorem changedBook_target_eq (s : State) (n : Nat) : (changedBook s n).target =
    some (max (-3000) (min (amountAt (changedBook s n).noms n + amountAt (changedBook s n).orders n) 3000)) := by
  rw [changedBook_target, changedBook_noms, changedBook_orders, clampPower_eq]

theorem openedRecord_of_sealed {s : State} (h : s.seq.state ≠ .offline) (n : Nat) (b : Bool) : openedRecord s n b = some {
    interval := n, target := (changedBook s n).target.getD 0, periods := 0, heldSeen := (changedBook s n).held.isSome
    trippedSeen := decide (s.seq.state = .tripped ∨ s.seq.state = .conflict), clockFreeSeen := b || s.clock.free, cut := none } := by
  rw [openedRecord, if_pos ((isSealed_eq_true s).mpr h), Bool.decide_or]
  rfl

theorem openedRecord_of_offline {s : State} (h : s.seq.state = .offline) (n : Nat) (b : Bool) : openedRecord s n b = none := by
  rw [openedRecord, if_neg (by simp [h])]

/-- An interval change takes all that the spec names, from the station just before it (R30, R36, R38, R41, R66, R140). -/
theorem takesChange_of_untouched {s : State} (n : Nat) (b : Bool) (hfree : s.clock.free = true → b = true) :
    TakesChange s (intervalChange n b s) s.now n b := by
  have hw := recordWritten_intervalChange (s := s) (v := s) n b rfl (by omega)
  have hseen : (b || s.clock.free) = b := by
    cases hf : s.clock.free
    · simp
    · simp [hfree hf]
  have haccount : (intervalChange n b s).account = { closedAccount b s with openRec := openedRecord s n b } := by
    simp [intervalChange_eq, changed]
  have hbook : (intervalChange n b s).book = changedBook s n := by simp [intervalChange_eq, changed]
  have hshare : (intervalChange n b s).share =
      { s.share with lastLoaded := if s.share.command = 0 then s.share.lastLoaded else some n } := by simp [intervalChange_eq, changed]
  have hseq : (intervalChange n b s).seq = s.seq := by simp [intervalChange_eq, changed]
  have hview : (intervalChange n b s).view = s.view := by simp [intervalChange_eq, changed]
  refine ⟨hw, ?_⟩
  rw [haccount, hbook, hshare]
  refine ⟨rfl, rfl, rfl, rfl, changedBook_noms s n, changedBook_orders s n, changedBook_target_eq s n,
    changedBook_orderChanged s n, fun hoff => ?_, fun hon => ?_, rfl, rfl, hseq, hview⟩
  · rw [changedBook_offline hoff]
    exact ⟨openedRecord_of_offline hoff n b, rfl, rfl, rfl⟩
  · obtain ⟨hsettle, hpersistence⟩ := changedBook_counts s n
    rw [if_pos ((isSealed_eq_true s).mpr hon)] at hsettle hpersistence
    refine ⟨hsettle, hpersistence, (judgedIn_changed hon n b).congr rfl hbook hview, ?_⟩
    have hopened := openedRecord_of_sealed hon n b
    rwa [hseen] at hopened

/-- An interval change takes all that the spec names, also from the station as it was but for its instant, clock and reports. -/
theorem takesChange_intervalChange {s v : State} (n : Nat) (b : Bool)
    (hv : v = { s with now := v.now, clock := v.clock, link := v.link }) (hfree : v.clock.free = true → b = true)
    (hroom : v.link.reports.length ≤ s.link.reports.length + 1) : TakesChange s (intervalChange n b v) v.now n b := by
  have hw := recordWritten_intervalChange n b hv hroom
  obtain ⟨-, hrest⟩ := takesChange_of_untouched n b hfree
  have haccount : v.account = s.account := by rw [hv]
  have hbook : v.book = s.book := by rw [hv]
  have hshare : v.share = s.share := by rw [hv]
  have hseq : v.seq = s.seq := by rw [hv]
  have hview : v.view = s.view := by rw [hv]
  refine ⟨hw, ?_⟩
  unfold JudgedIn at hrest ⊢
  rwa [haccount, hbook, hshare, hseq, hview] at hrest

end Sys2Proof.Machine
end

section
/-! PROOFS. BOUNDARY pulses and free run (R26 to R29), and every way to an interval change (R30). -/

namespace Sys2Proof.Machine

theorem Gives.of_next {c : Instr} {s v u : State} {P : State → Prop} (hexec : exec c s = .next v) (h : v = u) (hP : P u) : Gives c s P :=
  ⟨u, h ▸ hexec, hP⟩

/-! ## The clock after a change -/

theorem intervalChange_clock (n : Nat) (b : Bool) (s : State) :
    (intervalChange n b s).clock = { s.clock with current := some n } := by simp [intervalChange_eq, changed]

theorem pulseChange_clock (n : Nat) (s : State) : (pulseChange n s).clock = ⟨some n, none, some s.now, none, false⟩ := by
  simp [pulseChange, intervalChange_clock, Clock.pulsed]

/-! ## A pulse, case by case -/

variable {s : State}

theorem boundary_store (h : s.isStore = true) : boundary s = s := by simp [boundary, h]

theorem boundary_untimed_idle (hstore : s.isStore = false) (hc : s.clock.current = none) (hp : s.clock.pending = none) :
    boundary s = s := by simp [boundary, hstore, hc, hp]

theorem boundary_untimed_change {n : Nat} (hstore : s.isStore = false) (hc : s.clock.current = none)
    (hp : s.clock.pending = some n) : boundary s = pulseChange n s := by simp [boundary, hstore, hc, hp]

theorem boundary_early {i p : Nat} (hstore : s.isStore = false) (hc : s.clock.current = some i) (hf : s.clock.free = false)
    (hp : s.clock.lastPulse = some p) (hnear : 2 * (s.now - p) < s.inForce.intervalMs) : boundary s = s := by
  simp [boundary, hstore, hc, hf, within, hp, hnear]

theorem boundary_pulse {i p : Nat} (hstore : s.isStore = false) (hc : s.clock.current = some i) (hf : s.clock.free = false)
    (hp : s.clock.lastPulse = some p) (hfar : s.inForce.intervalMs ≤ 2 * (s.now - p)) :
    boundary s = pulseChange (numberAfter s.clock i) s := by
  simp [boundary, hstore, hc, hf, within, hp, Nat.not_lt.mpr hfar]

theorem boundary_afterAdvance {i a : Nat} (hstore : s.isStore = false) (hc : s.clock.current = some i) (hf : s.clock.free = true)
    (ha : s.clock.lastAdvance = some a) (hnear : 2 * (s.now - a) < s.inForce.intervalMs) (hp : s.clock.pending = none) :
    boundary s = { s with clock := ⟨some i, none, some s.now, none, false⟩ } := by
  simp [boundary, hstore, hc, hf, within, ha, hnear, hp, Clock.pulsed]

theorem boundary_endsFreeRun {i a : Nat} (hstore : s.isStore = false) (hc : s.clock.current = some i) (hf : s.clock.free = true)
    (ha : s.clock.lastAdvance = some a) (h : s.clock.pending ≠ none ∨ s.inForce.intervalMs ≤ 2 * (s.now - a)) :
    boundary s = pulseChange (numberAfter s.clock i) s := by
  have hstays : (within s s.clock.lastAdvance && s.clock.pending.isNone) = false := by
    obtain hp | hfar := h
    · simp [Option.isNone_eq_false_iff.mpr (Option.isSome_iff_ne_none.mpr hp)]
    · simp [within, ha, Nat.not_lt.mpr hfar]
  simp [boundary, hstore, hc, hf, hstays]

theorem numberAfter_eq (c : Clock) (i : Nat) : numberAfter c i = c.pending.getD (if 4294967294 ≤ i then 0 else i + 1) := rfl

/-- Settles O29: the pulse case by case. -/
theorem boundaryPulseOnClock : Obligations.BoundaryPulseOnClock := by
  refine ⟨fun s t hstore => congrArg _ (boundary_store (s := s.atInstant t) hstore), fun s t hstore => ⟨fun hc hp => ?_, fun n hc hp => ?_,
    fun i p hc hf hp => ⟨fun hnear => ?_, fun hfar => ?_⟩, fun i a hc hf ha => ⟨fun hnear hp => ?_, fun n hp => ?_, fun hfar hp => ?_⟩⟩⟩
  · exact congrArg _ (boundary_untimed_idle (s := s.atInstant t) hstore hc hp)
  · exact Gives.of_next rfl (boundary_untimed_change (s := s.atInstant t) hstore hc hp) (pulseChange_clock n _)
  · exact congrArg _ (boundary_early (s := s.atInstant t) hstore hc hf hp hnear)
  · exact Gives.of_next rfl (boundary_pulse (s := s.atInstant t) hstore hc hf hp hfar) (pulseChange_clock _ _)
  · exact congrArg _ (boundary_afterAdvance (s := s.atInstant t) hstore hc hf ha hnear hp)
  · refine Gives.of_next rfl (boundary_endsFreeRun (s := s.atInstant t) hstore hc hf ha (.inl ?_)) ?_
    · exact fun hnone => nomatch hp.symm.trans hnone
    · have hnumber : numberAfter s.clock i = n := by simp [numberAfter, hp]
      exact (pulseChange_clock _ _).trans (by rw [← hnumber]; rfl)
  · refine Gives.of_next rfl (boundary_endsFreeRun (s := s.atInstant t) hstore hc hf ha (.inr hfar)) ?_
    have hnumber : numberAfter s.clock i = if 4294967294 ≤ i then 0 else i + 1 := by rw [numberAfter_eq, hp]; rfl
    exact (pulseChange_clock _ _).trans (by rw [← hnumber]; rfl)

/-! ## An advance in free run -/

/-- The station at an advance, before the change. -/
def advanced (i : Nat) (s : State) : State :=
  let s₁ := { s with clock := { s.clock with pending := none, lastAdvance := some s.now, free := true } }
  if s.clock.free then s₁ else produce (.clockFree (numberAfter s.clock i)) s₁

theorem advance_eq (i : Nat) (s : State) : advance i s = intervalChange (numberAfter s.clock i) true (advanced i s) := rfl

theorem advanced_clock (i : Nat) (s : State) :
    (advanced i s).clock = { s.clock with pending := none, lastAdvance := some s.now, free := true } := by
  unfold advanced
  dsimp only
  split <;> rfl

theorem advance_clock (i : Nat) (s : State) : (advance i s).clock =
    { s.clock with current := some (numberAfter s.clock i), pending := none, lastAdvance := some s.now, free := true } := by
  rw [advance_eq, intervalChange_clock, advanced_clock]

theorem advance_now (i : Nat) (s : State) : (advance i s).now = s.now := by
  rw [advance_eq, intervalChange_eq]
  simp [changed, advanced]
  split <;> rfl

theorem produceEither_produces {p : Report → Prop} {x y : Option Report} (hx : ∀ r, x = some r → p r) (hy : ∀ r, y = some r → p r)
    (s : State) : ∃ rs, Produces rs s (produceEither x y s) ∧ ∀ r ∈ rs, p r := by
  cases x with
  | none =>
    cases y with
    | none => exact ⟨[], .refl s, by simp⟩
    | some q => exact ⟨[q], produces_produce q s, by simpa using hy q rfl⟩
  | some r =>
    cases y with
    | none => exact ⟨[r], produces_produce r s, by simpa using hx r rfl⟩
    | some q =>
      unfold produceEither
      dsimp only
      split
      · exact ⟨[r, q], ⟨rfl, rfl, rfl⟩, by simpa using ⟨hx r rfl, hy q rfl⟩⟩
      · exact ⟨[q, r], ⟨rfl, rfl, rfl⟩, by simpa using ⟨hy q rfl, hx r rfl⟩⟩

/-- A report of an interval change: the record that closed, or the end of HELD (R42, R140). -/
def ofChange (r : Report) : Prop := r = .heldEnd ∨ ∃ i k, r = .intervalClosed i k

theorem ofChange_closedReport {b : Bool} {r : Report} (h : closedReport b s = some r) : ofChange r := by
  obtain ⟨o, -, rfl⟩ := Option.map_eq_some_iff.mp h
  exact .inr ⟨_, _, rfl⟩

theorem ofChange_changeReport {n : Nat} {r : Report} (h : changeReport s n = some r) : ofChange r := by
  unfold changeReport at h
  split at h
  · split at h
    · exact .inl (Option.some.inj h).symm
    · cases h
  · cases h

theorem intervalChange_produces (n : Nat) (b : Bool) (s : State) :
    ∃ rs, Produces rs s (intervalChange n b s) ∧ ∀ r ∈ rs, ofChange r := by
  obtain ⟨rs, hrs, hall⟩ := produceEither_produces (fun _ => ofChange_closedReport) (fun _ => ofChange_changeReport) (changed n b s)
  have hlink : Produces [] s (changed n b s) := produces_of_link rfl
  rw [intervalChange_eq]
  exact ⟨rs, hlink.trans hrs, hall⟩

theorem advanced_produces (i : Nat) (s : State) :
    Produces (if s.clock.free then [] else [.clockFree (numberAfter s.clock i)]) s (advanced i s) := by
  unfold advanced
  dsimp only
  split
  · exact produces_of_link rfl
  · exact (produces_of_link (s := s) rfl).trans (produces_produce _ _)

/-- Free run that starts reports CLOCK FREE first; a further advance does not report it (R28). -/
theorem advance_produces (i : Nat) (s : State) : ∃ rs, (∀ r ∈ rs, ofChange r) ∧
    Produces ((if s.clock.free then [] else [.clockFree (numberAfter s.clock i)]) ++ rs) s (advance i s) := by
  obtain ⟨rs, hrs, hall⟩ := intervalChange_produces (numberAfter s.clock i) true (advanced i s)
  exact ⟨rs, hall, (advanced_produces i s).trans hrs⟩

theorem freeRunDeadline_stands {i p : Nat} (hstore : s.isStore = false) (hc : s.clock.current = some i) (hp : s.clock.lastPulse = some p)
    (hf : s.clock.free = false) : freeRunStart s = advance i (s.atInstant (p + s.inForce.intervalMs * 3 / 2)) := by
  simp [freeRunStart, freeRunDue, hc, hp, hf, hstore]

theorem freeRunStart_idle (hf : s.clock.free = true) : freeRunStart s = s := by
  unfold freeRunStart
  split
  · rw [if_pos (by simp [hf])]
  · rfl

theorem freeRunOn_idle (hf : s.clock.free = false) : freeRunOn s = s := by
  unfold freeRunOn
  split
  · rw [if_neg (by simp [hf])]
  · rfl

/-- The next advance is at the first whole L past the last one (R28). -/
theorem freeRunOn_stands {i p a k : Nat} (hstore : s.isStore = false) (hc : s.clock.current = some i) (hp : s.clock.lastPulse = some p)
    (hf : s.clock.free = true) (ha : s.clock.lastAdvance = some a)
    (hlo : p + k * s.inForce.intervalMs ≤ a) (hhi : a < p + (k + 1) * s.inForce.intervalMs) :
    freeRunOn s = advance i (s.atInstant (p + (k + 1) * s.inForce.intervalMs)) := by
  have hk : (a - p) / s.inForce.intervalMs = k := by
    have hle : k * s.inForce.intervalMs ≤ a - p := by omega
    have hlt : a - p < (k + 1) * s.inForce.intervalMs := by omega
    exact Nat.div_eq_of_lt_le hle hlt
  simp [freeRunOn, nextAdvanceDue, hc, hp, ha, hf, hstore, hk]

/-- Settles O32: the two deadlines, and the first of the reports. -/
theorem freeRunAdvances : Obligations.FreeRunAdvances := by
  intro s i p hstore hc hp
  refine ⟨fun hf => Gives.of_next rfl (freeRunDeadline_stands hstore hc hp hf) ⟨advance_now _ _, ?_, ?_⟩,
    fun hf => congrArg _ (freeRunStart_idle hf), fun hf => congrArg _ (freeRunOn_idle hf), fun a ha hf _ k hlo hhi =>
      Gives.of_next rfl (freeRunOn_stands hstore hc hp hf ha hlo hhi) ⟨advance_now _ _, ?_, ?_⟩⟩
  · exact (advance_clock _ _).trans (by simp [numberAfter_eq, hp, State.atInstant])
  · obtain ⟨rs, -, hrs⟩ := advance_produces i (s.atInstant (p + s.inForce.intervalMs * 3 / 2))
    rw [if_neg (by simp [hf])] at hrs
    exact hrs.queued
  · exact (advance_clock _ _).trans (by simp [numberAfter_eq, hp, State.atInstant])
  · obtain ⟨rs, hall, hrs⟩ := advance_produces i (s.atInstant (p + (k + 1) * s.inForce.intervalMs))
    rintro x hx ⟨m, hm⟩
    obtain hold | hnew := hrs.mem_or hx
    · exact hold
    · have hchange : ofChange x.report := hall _ (by simpa [hf] using hnew)
      rw [hm] at hchange
      obtain h | ⟨_, _, h⟩ := hchange <;> cases h

end Sys2Proof.Machine
end

section
/-! PROOFS. Every way to an interval change has the change's whole effect (R26 to R30, R140 to R144), and the end of a leave credits every span
and keeps the interval open (R139). -/

namespace Sys2Proof.Machine

variable {s : State}

/-! ## The ways to a change -/

/-- An accepted pulse is a change not by free run. -/
theorem pulseChange_takes (t n : Nat) (s : State) : (pulseChange n (s.atInstant t)).clock.current = some n
    ∧ TakesChange s (pulseChange n (s.atInstant t)) (max s.now t) n false :=
  ⟨by rw [pulseChange_clock], takesChange_intervalChange (v := { s.atInstant t with clock := s.clock.pulsed (max s.now t) }) n false rfl
    (fun h => nomatch h) (Nat.le_succ _)⟩

theorem advanced_frame (i t : Nat) (s : State) : advanced i (s.atInstant t) = { s with
    now := (advanced i (s.atInstant t)).now
    clock := (advanced i (s.atInstant t)).clock
    link := (advanced i (s.atInstant t)).link } := by
  unfold advanced
  dsimp only
  split <;> rfl

theorem produce_reports_le (r : Report) (s : State) : (produce r s).link.reports.length ≤ s.link.reports.length + 1 := by
  by_cases h : s.link.reports.length < 16
  · rw [produce_reports h]
    simp
  · rw [produce_full (by omega)]
    exact Nat.le_succ _

theorem advanced_reports_le (i : Nat) (s : State) : (advanced i s).link.reports.length ≤ s.link.reports.length + 1 := by
  unfold advanced
  dsimp only
  split
  · exact Nat.le_succ _
  · exact produce_reports_le _ _

theorem advanced_now (i : Nat) (s : State) : (advanced i s).now = s.now := by
  unfold advanced
  dsimp only
  split <;> rfl

/-- An advance is a change by free run. -/
theorem advance_takes (i t : Nat) (s : State) : (advance i (s.atInstant t)).clock.current = some (numberAfter s.clock i)
    ∧ TakesChange s (advance i (s.atInstant t)) (max s.now t) (numberAfter s.clock i) true := by
  have hnow : (advanced i (s.atInstant t)).now = max s.now t := advanced_now _ _
  have htakes := takesChange_intervalChange (s := s) (v := advanced i (s.atInstant t)) (numberAfter s.clock i) true (advanced_frame i t s)
    (fun _ => rfl) (advanced_reports_le i _)
  rw [hnow] at htakes
  exact ⟨by rw [advance_clock]; rfl, htakes⟩

/-! ## A pulse that closes an interval -/

/-- On a train the energy of the own held output has the sign of a heat transformer or a compressor. -/
theorem energyOf_train (ht : s.isTrain = true) (output since upto : Nat) : energyOf s.inForce.kind output since upto =
    (if s.inForce.kind = some .C then -1 else 1) * ((output : Int) * ((upto - since : Nat) : Int)) := by
  have hkind : s.inForce.kind = some .C ∨ s.inForce.kind = some .X := by simpa [State.isTrain] using ht
  obtain h | h := hkind <;> simp [energyOf, h]

theorem ownSpan_none (k : Kind) (upto : Nat) : ownSpan k none upto = 0 := rfl

theorem ownSpan_train (ht : s.isTrain = true) (q : OwnPoint) (upto : Nat) : ownSpan s.ownKind (some q) upto =
    (if s.inForce.kind = some .C then -1 else 1) * ((q.output : Int) * ((upto - q.since : Nat) : Int)) := by
  have hkind : s.inForce.kind = some s.ownKind := by
    have h : s.inForce.kind = some .C ∨ s.inForce.kind = some .X := by simpa [State.isTrain] using ht
    obtain h | h := h <;> simp [State.ownKind, h]
  rw [ownSpan, spanEnergy_eq_energyOf, ← hkind, energyOf_train ht]

theorem peersEnergy_eq (ps : List PeerPoint) (upto : Nat) : peersEnergy ps upto =
    (ps.map fun p => (if p.kind = .C then -1 else if p.kind = .X then 1 else 0)
      * ((p.output : Int) * ((upto - p.since : Nat) : Int))).sum := by
  simp [peersEnergy, energyOf]

/-- The report of the close, as an accepted pulse leaves it. -/
theorem pulseChange_closed {o : OpenRecord} (ho : s.account.openRec = some o) (n : Nat) (hroom : s.link.reports.length + 2 ≤ 16) :
    ∃ k, ⟨k, .intervalClosed o.interval (pulseChange n s).account.log.length⟩ ∈ (pulseChange n s).link.reports := by
  have hlog : (pulseChange n s).account.log = closedLog false { s with clock := s.clock.pulsed s.now } := by
    simp [pulseChange, intervalChange_eq, changed, closedAccount]
  rw [hlog, pulseChange, intervalChange_eq, closedReport, ho]
  exact mem_produceEither _ hroom

theorem pulseChange_log_length (h : s.account.log.length ≤ 48) (n : Nat) : (pulseChange n s).account.log.length ≤ 48 := by
  have hlog : (pulseChange n s).account.log = closedLog false { s with clock := s.clock.pulsed s.now } := by
    simp [pulseChange, intervalChange_eq, changed, closedAccount]
  rw [hlog]
  exact closedLog_length h false

/-! ## The end of a leave -/

/-- The end of a leave credits every span of an interval that is open (R139). -/
theorem leaveAtOnce_energies (h : s.account.openRec ≠ none) :
    (leaveAtOnce s).account.ownAcc = s.account.ownAcc + ownSpan s.ownKind s.account.ownPoint s.now
    ∧ (leaveAtOnce s).account.plantAcc = s.account.plantAcc + ownSpan s.ownKind s.account.ownPoint s.now
        + peerSpans s.account.peerPoints s.now :=
  creditAll_energies (s := noteCut .leave (cutReport s) s) (by simpa [noteCut] using h)

/-- Settles O30: each way ends in one change, which takes what the spec names; the energies by the spans. -/
theorem intervalChangeClosesRecord : Obligations.IntervalChangeClosesRecord := by
  refine ⟨⟨fun _ => kWh_nonneg, kWh_neg⟩, fun s t i n o ht hc hf hlast hn ho hlog => ?_, fun s t hstore => ⟨fun n hc hp => ?_,
    fun i p n hc hf hp hfar hn => ?_, fun i a n hc hf ha hends hn => ?_⟩, fun s i p n hstore hc hp hn => ⟨fun hf => ?_,
    fun a k hf ha _ hlo hhi => ?_⟩, fun s t tag o span hnew ho hs hspan => ?_⟩
  · obtain ⟨p, hp, hfar⟩ := hlast
    subst hn
    have hpulse : boundary (s.atInstant t) = pulseChange (numberAfter s.clock i) (s.atInstant t) :=
      boundary_pulse (s := s.atInstant t) (isStore_of_isTrain ht) hc hf hp hfar
    refine Gives.of_next rfl hpulse ?_
    obtain ⟨-, hrecord, hown0, hplant0, hpoint, -, hnoms, horders, htarget, hmark, hoff, hon, hloaded, -⟩ :=
      pulseChange_takes t (numberAfter s.clock i) s
    refine ⟨⟨ownSpan s.ownKind s.account.ownPoint (max s.now t), fun h => by rw [h, ownSpan_none], fun q hq => by
      rw [hq, ownSpan_train ht], _, rfl, _, rfl, ?_⟩, pulseChange_log_length (s := s.atInstant t) hlog _, hown0, hplant0, fun q hq => ?_, fun e => ?_,
      fun e => ?_, htarget, hmark, fun h => ?_, fun h => (hoff h).1, fun h => ?_, pulseChange_closed (s := s.atInstant t) ho _⟩
    · have hwritten := (hrecord.2 o ho _ ((ownEnergyIs_iff s _ _).mpr rfl) _ _ rfl rfl).1
      rw [Bool.or_false, peersEnergy_eq] at hwritten
      exact hwritten
    · exact hpoint.trans (by rw [hq]; rfl)
    · rw [hnoms, List.mem_filter, decide_eq_true_iff]
      rfl
    · rw [horders, List.mem_filter, decide_eq_true_iff]
      rfl
    · obtain ⟨hsettle, hpersistence, -, hopened⟩ := hon h
      exact ⟨hsettle, hpersistence, _, hopened, rfl, rfl, rfl, rfl⟩
    · exact hloaded.trans (if_neg h)
  · exact Gives.of_next rfl (boundary_untimed_change (s := s.atInstant t) hstore hc hp) (pulseChange_takes t n s)
  · subst hn
    exact Gives.of_next rfl (boundary_pulse (s := s.atInstant t) hstore hc hf hp hfar) (pulseChange_takes t _ s)
  · subst hn
    exact Gives.of_next rfl (boundary_endsFreeRun (s := s.atInstant t) hstore hc hf ha hends) (pulseChange_takes t _ s)
  · subst hn
    exact Gives.of_next rfl (freeRunDeadline_stands hstore hc hp hf) (advance_takes i _ s)
  · subst hn
    exact Gives.of_next rfl (freeRunOn_stands hstore hc hp hf ha hlo hhi) (advance_takes i _ s)
  · have hopen := endLeave_openRec (s.atInstant t)
    obtain ⟨hown, hplant⟩ := leaveAtOnce_energies (s := s.atInstant t) (ho ▸ Option.some_ne_none o)
    rw [(ownEnergyIs_iff s _ _).mp hspan, ← peerSpans_eq_peersEnergy]
    exact ⟨_, exec_new rfl hnew (handleLeave_ends (s := s.atInstant t) hs), rfl, hown, hplant, _, hopen.trans (congrArg _ ho), rfl⟩

end Sys2Proof.Machine
end

section
/-! PROOFS. Agreement and HELD (R40 to R44): at an applied TRAIN STATUS and at a control period expiry. -/

namespace Sys2Proof.Machine

variable {s : State}

/-! ## A judgement -/

theorem produceOpt_produces (r : Option Report) (s : State) : Produces r.toList s (produceOpt r s) := by
  cases r with
  | none => exact .refl s
  | some r => exact produces_produce r s

theorem judge_timed {i : Nat} (hs : s.seq.state ≠ .offline) (hc : s.clock.current = some i) :
    judge s = produceOpt (judgeReport s i) { s with book := s.book.judged s.view i } := by
  have hsealed : s.isSealed = true := (isSealed_eq_true s).mpr hs
  unfold judge
  simp only [judgeWith, hc, hsealed, if_true]
  cases judgeReport s i <;> rfl

theorem judge_timed_book {i : Nat} (hs : s.seq.state ≠ .offline) (hc : s.clock.current = some i) :
    (judge s).book = s.book.judged s.view i := by
  rw [judge_timed hs hc]
  cases judgeReport s i <;> rfl

theorem judge_timed_produces {i : Nat} (hs : s.seq.state ≠ .offline) (hc : s.clock.current = some i) :
    Produces (judgeReport s i).toList s (judge s) := by
  rw [judge_timed hs hc]
  exact (produces_of_link (s := s) (u := { s with book := s.book.judged s.view i }) rfl).trans (produceOpt_produces _ _)

theorem judgeReport_held {i : Nat} (h : (s.book.judged s.view i).agree = true) (hheld : s.book.held ≠ none) :
    judgeReport s i = some .heldEnd := by
  simp [judgeReport, h, Option.isSome_iff_ne_none.mpr hheld]

theorem judgeReport_none {i : Nat} (h : (s.book.judged s.view i).agree = false) : judgeReport s i = none := by simp [judgeReport, h]

theorem judged_agree {b : Book} {view : List Entry} {i : Nat} (h : agreementN view < 2 * agreementA view i b.target) :
    b.judged view i = { b with
      n := agreementN view, a := agreementA view i b.target, agree := true, persistence := 0, held := none } := by
  simp [Book.judged, h]

theorem judged_disagree {b : Book} {view : List Entry} {i : Nat} (h : 2 * agreementA view i b.target ≤ agreementN view) :
    b.judged view i = { b with
      n := agreementN view, a := agreementA view i b.target, agree := false, held := b.held.map fun _ => .disagree } := by
  simp [Book.judged, Nat.not_lt.mpr h]

/-! ## An applied TRAIN STATUS -/

/-- The station as a TRAIN STATUS leaves it before the judgement (R12, R138). -/
def trainTaken (f : StatusFrame) (g : TrainFields) (tag : Relation) (arr : Nat) (s : State) : State :=
  accountFrame f.address g.clamp.kind g.clamp.output arr (produceOpt (applyReport f.address (findEntry s.view f.address))
    { s with view := putEntry (entryFrom f tag arr (findEntry s.view f.address)) s.view })

theorem clamp_train {f : StatusFrame} {g : TrainFields} (h : f.fields = .train g) : f.fields.clamp = .train g.clamp := by
  rw [h]
  rfl

theorem statusFrameWork_train {f : StatusFrame} {g : TrainFields} (ht : s.isTrain = true) (hf : f.fields = .train g) (tag : Relation)
    (arr : Nat) : statusFrameWork f tag arr s = judge (trainTaken f g tag arr s) := by
  unfold statusFrameWork handOn
  rw [if_pos ht, clamp_train hf]
  rfl

theorem trainTaken_sameBut (f : StatusFrame) (g : TrainFields) (tag : Relation) (arr : Nat) (s : State) :
    SameBut [.view, .reports, .energies, .peerPoints] s (trainTaken f g tag arr s) := by
  have hview := setView_sameBut (putEntry (entryFrom f tag arr (findEntry s.view f.address)) s.view) s
  exact (hview.comp (produceOpt_sameBut _ _) (rs := [.view, .reports]) (by decide)).comp (accountFrame_sameBut _ _ _ _ _) (by decide)

theorem trainTaken_produces (f : StatusFrame) (g : TrainFields) (tag : Relation) (arr : Nat) (s : State) :
    Produces (applyReport f.address (findEntry s.view f.address)).toList s (trainTaken f g tag arr s) := by
  have hview := produces_of_frame (setView_sameBut (putEntry (entryFrom f tag arr (findEntry s.view f.address)) s.view) s) (by decide)
  exact (hview.trans (produceOpt_produces _ _)).then_sameBut (accountFrame_sameBut _ _ _ _ _) (by decide)

/-- A read of U, unless it ends a leave, leaves the book and the view. -/
theorem readUpper_book (h : (readUpper s).seq.state ≠ .offline) : (readUpper s).book = s.book ∧ (readUpper s).view = s.view := by
  obtain hread | ⟨-, hoff, -⟩ := readUpper_changes s
  · exact ⟨hread.book (by decide), hread .view (by decide)⟩
  · exact absurd hoff h

theorem applyHeadStatus_eq {f : StatusFrame} {tag : Relation} {arr : Nat} {rest : List RxFrame}
    (h : s.bus.rx = ⟨.status f, tag, arr⟩ :: rest) : applyHeadStatus s = applyStatus f tag arr (removeHead s) := by
  unfold applyHeadStatus
  rw [h]

/-- What an applied TRAIN STATUS does to the book of a timed train (R12, R40, R42, R43). -/
theorem applyStatus_judges {f : StatusFrame} {g : TrainFields} {i : Nat} (hf : f.fields = .train g) (ht : s.isTrain = true)
    (hs : s.seq.state ≠ .offline) (hc : s.clock.current = some i) (tag : Relation) (arr : Nat)
    (hu : (applyStatus f tag arr s).seq.state ≠ .offline) :
    (applyStatus f tag arr s).book = s.book.judged (applyStatus f tag arr s).view i
    ∧ ((s.book.judged (applyStatus f tag arr s).view i).agree = true → s.book.held ≠ none → s.link.reports.length + 2 ≤ 16 →
        ∃ k, ⟨k, .heldEnd⟩ ∈ (applyStatus f tag arr s).link.reports) := by
  rw [applyStatus_eq] at hu ⊢
  obtain ⟨hbook, hview⟩ := readUpper_book hu
  have hframe := trainTaken_sameBut f g tag arr s
  have hforce : (trainTaken f g tag arr s).book = s.book := hframe.book (by decide)
  have hs' : (trainTaken f g tag arr s).seq.state ≠ .offline := by rwa [hframe.state (by decide)]
  have hc' : (trainTaken f g tag arr s).clock.current = some i := (congrArg Clock.current (hframe .clock (by decide))).trans hc
  rw [hbook, hview, statusFrameWork_train ht hf, judge_timed_book hs' hc', hforce]
  have hseen : (judge (trainTaken f g tag arr s)).view = (trainTaken f g tag arr s).view := by simp
  rw [hseen]
  refine ⟨rfl, fun hagree hheld hroom => ?_⟩
  obtain ⟨rs, hread⟩ := readUpper_reports (judge (trainTaken f g tag arr s))
  have hheldEnd : judgeReport (trainTaken f g tag arr s) i = some .heldEnd :=
    judgeReport_held (by rwa [hforce]) (by rwa [hforce])
  have hall := ((trainTaken_produces f g tag arr s).trans (judge_timed_produces hs' hc')).trans hread
  rw [hheldEnd, List.append_assoc] at hall
  refine hall.mem ?_
  have hone : (applyReport f.address (findEntry s.view f.address)).toList.length ≤ 1 := Option.length_toList_le
  omega

/-! ## A control period expiry: the target -/

theorem deriveAtExpiry_same (h : deriveTarget s.book s.clock.current = s.book.target) :
    deriveAtExpiry s = noteTarget (deriveTarget s.book s.clock.current) s := by
  unfold deriveAtExpiry
  dsimp only
  rw [if_pos h, h]

theorem noteTarget_book (t : Option Int) (s : State) : (noteTarget t s).book = s.book := by cases t <;> rfl

theorem noteTarget_produces (t : Option Int) (s : State) : Produces [] s (noteTarget t s) := by cases t <;> exact .refl s

/-- The station with a new target. -/
def retarget (v : Int) (s : State) : State := { s with book := { s.book with target := some v } }

theorem deriveAtExpiry_changed {v : Int} (h : deriveTarget s.book s.clock.current = some v) (hne : s.book.target ≠ some v) :
    deriveAtExpiry s = judge (noteTarget (some v) (retarget v s)) := by
  unfold deriveAtExpiry
  dsimp only
  rw [h, if_neg (Ne.symm hne)]
  rfl

/-- At a control period expiry at which the target changes, agreement is judged with the new one (R38, R40). -/
theorem deriveAtExpiry_judges {v : Int} {i : Nat} (h : deriveTarget s.book s.clock.current = some v) (hne : s.book.target ≠ some v)
    (hs : s.seq.state ≠ .offline) (hc : s.clock.current = some i) :
    (deriveAtExpiry s).book = (retarget v s).book.judged s.view i
    ∧ Produces (judgeReport (retarget v s) i).toList s (deriveAtExpiry s) := by
  rw [deriveAtExpiry_changed h hne]
  have hlink : Produces [] s (noteTarget (some v) (retarget v s)) := produces_of_link rfl
  exact ⟨judge_timed_book (s := noteTarget (some v) (retarget v s)) hs hc,
    hlink.trans (judge_timed_produces (s := noteTarget (some v) (retarget v s)) hs hc)⟩

/-! ## A control period expiry: the counts -/

theorem stepAgreement_settling (h : 0 < s.book.settle) :
    stepAgreement s = { s with book := { s.book with settle := s.book.settle - 1 } } := by
  rw [stepAgreement, if_pos h]

theorem stepAgreement_agree (h0 : s.book.settle = 0) (ha : s.book.agree = true) : stepAgreement s = s := by
  rw [stepAgreement, if_neg (by omega), if_pos ha]

theorem stepAgreement_counts (h0 : s.book.settle = 0) (ha : s.book.agree = false)
    (h : s.book.persistence + 1 < 3 ∨ s.book.held ≠ none) :
    stepAgreement s = { s with book := { s.book with persistence := min 3 (s.book.persistence + 1) } } := by
  have hno : ¬ (min 3 (s.book.persistence + 1) = 3 ∧ s.book.held = none) := by
    rintro ⟨hthree, hnone⟩
    obtain h | h := h
    · omega
    · exact h hnone
  rw [stepAgreement, if_neg (by omega), if_neg (by simp [ha])]
  dsimp only
  rw [if_neg hno]

/-- The third disagreement in a row sets HELD with its report, and HELD SEEN in the interval that is open (R42, R141). -/
theorem stepAgreement_holds (h0 : s.book.settle = 0) (ha : s.book.agree = false) (hp : 2 ≤ s.book.persistence)
    (hheld : s.book.held = none) : stepAgreement s = produce (.held .disagree s.book.n s.book.a)
      (noteHeld { s with book := { s.book with persistence := 3, held := some .disagree } }) := by
  have hthree : min 3 (s.book.persistence + 1) = 3 := by omega
  rw [stepAgreement, if_neg (by omega), if_neg (by simp [ha])]
  dsimp only
  rw [hthree, if_pos ⟨rfl, hheld⟩]

/-! ## A control period expiry: what comes after the book -/

theorem setCommand_same (s : State) : setCommand s.share.command s = s := by
  rw [setCommand, if_pos rfl]

/-- The open record after a computation counts its period (R141). -/
theorem loadedExpiry_rest {k : Kind} (h : (loadedExpiry k s).seq.state ≠ .offline) : (loadedExpiry k s).book = s.book
    ∧ (loadedExpiry k s).account.openRec = s.account.openRec.map fun o => { o with periods := o.periods + 1 } := by
  unfold loadedExpiry at h ⊢
  by_cases hl : s.seq.state = .leaving ∧ newCommand s k = 0
  · by_cases h0 : s.share.command = 0
    · have hsame : setCommand (newCommand s k) (notePeriod s) = notePeriod s :=
        (congrArg (setCommand · _) (hl.2.trans h0.symm)).trans (setCommand_same (notePeriod s))
      rw [hsame]
      exact ⟨rfl, rfl⟩
    · rw [hl.2, setCommand_ends (by simpa using hl.1) (by simpa using h0)] at h
      exact absurd rfl h
  · have hset := setCommand_sameBut (s := notePeriod s) (c := newCommand s k) (by simpa using hl)
    exact ⟨hset.book (by decide), hset .openRecord (by decide)⟩

theorem expiryWork_rest {k : Kind} (h : (expiryWork k s).seq.state ≠ .offline) : (expiryWork k s).book = s.book
    ∧ ∃ n : Nat → Nat, (expiryWork k s).account.openRec = s.account.openRec.map fun o => { o with periods := n o.periods } := by
  have hidle : s.account.openRec = s.account.openRec.map fun o => { o with periods := id o.periods } := by
    cases s.account.openRec <;> rfl
  unfold expiryWork at h ⊢
  by_cases hl : s.seq.state.loaded = true
  · rw [if_pos hl] at h ⊢
    obtain ⟨hbook, hopen⟩ := loadedExpiry_rest h
    exact ⟨hbook, (· + 1), hopen⟩
  · rw [if_neg hl]
    split
    · have hstandby := standbyExpiry_sameBut k s
      exact ⟨hstandby.book (by decide), id, (hstandby .openRecord (by decide)).trans hidle⟩
    · exact ⟨rfl, id, hidle⟩

/-- After the book's stage a control period expiry leaves the book, and the open record but for its periods, unless it ends a leave. -/
theorem expiryStages_rest {k : Kind} (h : (expiryStages k s).seq.state ≠ .offline) :
    (expiryStages k s).book = (bookExpiry s).book
    ∧ ∃ n : Nat → Nat, (expiryStages k s).account.openRec = (bookExpiry s).account.openRec.map fun o => { o with periods := n o.periods } := by
  have hread := readAtExpiry_sameBut (bookExpiry s)
  have hsend := sendSetpoint_sameBut (expiryWork k (readAtExpiry (bookExpiry s)))
  rw [expiryStages_eq] at h ⊢
  obtain ⟨hbook, n, hopen⟩ := expiryWork_rest (k := k) (s := readAtExpiry (bookExpiry s)) (by rwa [hsend.state (by decide)] at h)
  refine ⟨(hsend.book (by decide)).trans (hbook.trans (hread.book (by decide))), n, ?_⟩
  rw [hread .openRecord (by decide)] at hopen
  exact (hsend .openRecord (by decide)).trans hopen

/-- The first report of the book's stage is the first of the expiry. -/
theorem expiryStages_queued {k : Kind} {r : Report} {rs : List Report} (h : Produces (r :: rs) s (bookExpiry s)) :
    Queued s (expiryStages k s) r := by
  rw [expiryStages_eq]
  obtain ⟨ps, hread⟩ := readAtExpiry_reports (bookExpiry s)
  obtain ⟨qs, hwork⟩ := expiryWork_reports k (readAtExpiry (bookExpiry s))
  exact (((h.trans hread).trans hwork).then_sameBut (sendSetpoint_sameBut _) (by decide)).queued

/-- The station at the expiry of its share timer, which runs on (R46). -/
def expiring (d : Nat) (s : State) : State :=
  { s.atInstant d with share := { s.share with timer := some (d + s.inForce.p) } }

theorem exec_controlPeriodExpiry_train {d : Nat} {P : State → Prop} (hd : s.share.timer = some d) (ht : s.isTrain = true)
    (h : ∀ k, s.inForce.kind = some k → P (expiryStages k (expiring d s))) : Gives .controlPeriodExpiry s P := by
  have hkind : s.inForce.kind = some .C ∨ s.inForce.kind = some .X := by simpa [State.isTrain] using ht
  have hstages (k : Kind) (hk : s.inForce.kind = some k) : controlExpiry s = expiryStages k (expiring d s) := by
    simp [controlExpiry, hd, hk, ht, expiring]
  obtain hk | hk := hkind
  · exact .of_next rfl (hstages _ hk) (h _ hk)
  · exact .of_next rfl (hstages _ hk) (h _ hk)

theorem judge_account (s : State) : (judge s).account = s.account := by simp

theorem deriveAtExpiry_open {o : OpenRecord} (h : s.account.openRec = some o) :
    ∃ o', (deriveAtExpiry s).account.openRec = some o' := by
  have hnoted (t : Option Int) (v : State) (hv : v.account = s.account) : ∃ o', (noteTarget t v).account.openRec = some o' := by
    cases t with
    | none => exact ⟨o, (congrArg Account.openRec hv).trans h⟩
    | some x => exact ⟨{ o with target := x }, congrArg (Option.map _) ((congrArg Account.openRec hv).trans h)⟩
  unfold deriveAtExpiry
  dsimp only
  split
  · exact hnoted _ _ rfl
  · rw [judge_account]
    exact hnoted _ _ rfl

/-- The book that the counts of an expiry find, and what they make of it (R41, R42). -/
theorem expiryStages_steps {b : Book} {k : Kind} (hb : (deriveAtExpiry s).book = b) (hu : (expiryStages k s).seq.state ≠ .offline) :
    (0 < b.settle → (expiryStages k s).book = { b with settle := b.settle - 1 })
    ∧ (b.settle = 0 → b.agree = true → (expiryStages k s).book = b)
    ∧ (b.settle = 0 → b.agree = false → b.persistence + 1 < 3 ∨ b.held ≠ none →
        (expiryStages k s).book = { b with persistence := min 3 (b.persistence + 1) })
    ∧ (b.settle = 0 → b.agree = false → 2 ≤ b.persistence → b.held = none → Produces [] s (deriveAtExpiry s) →
        (expiryStages k s).book = { b with persistence := 3, held := some .disagree }
        ∧ Queued s (expiryStages k s) (.held .disagree b.n b.a)
        ∧ ∀ o, s.account.openRec = some o → ∃ o', (expiryStages k s).account.openRec = some o' ∧ o'.heldSeen = true) := by
  subst hb
  obtain ⟨hbook, n, hopen⟩ := expiryStages_rest hu
  have hstep : bookExpiry s = stepAgreement (deriveAtExpiry s) := rfl
  rw [hbook]
  refine ⟨fun h => ?_, fun h0 ha => ?_, fun h0 ha h => ?_, fun h0 ha hp hheld hq => ?_⟩
  · rw [hstep, stepAgreement_settling h]
  · rw [hstep, stepAgreement_agree h0 ha]
  · rw [hstep, stepAgreement_counts h0 ha h]
  · have hholds := hstep.trans (stepAgreement_holds h0 ha hp hheld)
    have hproduces : Produces [.held .disagree (deriveAtExpiry s).book.n (deriveAtExpiry s).book.a] s (bookExpiry s) := by
      rw [hholds]
      exact (hq.trans (produces_of_link rfl)).trans (produces_produce _ _)
    refine ⟨congrArg State.book hholds, expiryStages_queued hproduces, fun o ho => ?_⟩
    obtain ⟨o', ho'⟩ := deriveAtExpiry_open ho
    have hseen : (bookExpiry s).account.openRec = some { o' with heldSeen := true } :=
      (congrArg (fun v => v.account.openRec) hholds).trans (congrArg (Option.map _) ho')
    exact ⟨_, hopen.trans (congrArg (Option.map _) hseen), rfl⟩

/-- Settles O31: the judgement at the frame, and the counts after the target's stage of an expiry. -/
theorem agreementDecidesHeld : Obligations.AgreementDecidesHeld := by
  refine ⟨fun s t i arr f g tag rest hrx hf ht hs hc => ?_, fun s d hd ht htarget => ?_, fun s d i n a v hd ht hs hc hv hne hn ha => ?_⟩
  · refine .of_next rfl (applyHeadStatus_eq (s := s.atInstant t) hrx) fun hu => ?_
    obtain ⟨hbook, hend⟩ := applyStatus_judges (s := removeHead (s.atInstant t)) hf ht hs hc tag arr hu
    have hbefore : (removeHead (s.atInstant t)).book = s.book := rfl
    have hlink : (removeHead (s.atInstant t)).link = s.link := rfl
    rw [hbefore, hlink] at hend
    rw [hbook, hbefore]
    obtain ⟨hn, ha, hagree, hyes, hno, hsettle⟩ := judged_spec s.book (applyStatus f tag arr (removeHead (s.atInstant t))).view i
    exact ⟨hn.trans (agreementN_eq _), ha.trans (agreementA_eq _ _ _), hagree,
      fun h => ⟨(hyes h).1, (hyes h).2, hend h⟩, hno, hsettle⟩
  · refine exec_controlPeriodExpiry_train hd ht fun k _ hu => ?_
    have hsame := deriveAtExpiry_same (s := expiring d s) htarget
    have hbook : (deriveAtExpiry (expiring d s)).book = s.book := by rw [hsame, noteTarget_book]; rfl
    have hquiet : Produces [] (expiring d s) (deriveAtExpiry (expiring d s)) := by rw [hsame]; exact noteTarget_produces _ _
    obtain ⟨h1, h2, h3, h4⟩ := expiryStages_steps hbook hu
    exact ⟨h1, h2, h3, fun h0 hno hp hheld => h4 h0 hno hp hheld hquiet⟩
  · refine exec_controlPeriodExpiry_train hd ht fun k _ hu => ?_
    obtain ⟨hbook, hreports⟩ := deriveAtExpiry_judges (s := expiring d s) hv hne hs hc
    obtain rfl : n = agreementN s.view := hn.trans (agreementN_eq _).symm
    obtain rfl : a = agreementA s.view i (some v) := ha.trans (agreementA_eq _ _ _).symm
    have hdisagree (hge : 2 * agreementA s.view i (some v) ≤ agreementN s.view) :=
      expiryStages_steps (hbook.trans (judged_disagree (b := { s.book with target := some v }) hge)) hu
    refine ⟨fun hlt => ?_, fun hge => (hdisagree hge).1, fun hge h0 hcounts => (hdisagree hge).2.2.1 h0 rfl ?_,
      fun hge h0 hp hheld => (hdisagree hge).2.2.2 h0 rfl hp (congrArg (Option.map _) hheld) ?_⟩
    · have hjudged := judged_agree (b := { s.book with target := some v }) hlt
      obtain ⟨hsettling, hagree, -, -⟩ := expiryStages_steps (hbook.trans hjudged) hu
      refine ⟨?_, fun hheld => ?_⟩
      · by_cases h0 : s.book.settle = 0
        · have hzero : s.book.settle - 1 = s.book.settle := by omega
          rw [hzero]
          exact hagree h0 rfl
        · exact hsettling (Nat.pos_of_ne_zero h0)
      · obtain ⟨rs, hstep⟩ := stepAgreement_reports (deriveAtExpiry (expiring d s))
        rw [judgeReport_held (s := retarget v (expiring d s)) (congrArg Book.agree hjudged) hheld] at hreports
        exact expiryStages_queued (hreports.trans hstep)
    · exact hcounts.imp_right (mt Option.map_eq_none_iff.mp)
    · rwa [judgeReport_none (s := retarget v (expiring d s)) (congrArg Book.agree (judged_disagree (b := { s.book with target := some v }) hge))] at hreports

end Sys2Proof.Machine
end

section
/-! PROOFS. Arrivals on the bus (R7 to R9) and the frame from the station's own address (R19, R117). -/

namespace Sys2Proof.Machine

variable {s : State}

/-! ## Arrivals, by what the frame decodes to -/

theorem arrival_offline (h : s.seq.state = .offline) (bytes : List Byte) : arrival bytes s = s := by
  rw [arrival, if_neg (by simp [h])]

theorem arrival_undecoded {bytes : List Byte} (h : decodeFrame bytes = .checkBad ∨ decodeFrame bytes = .unknownKind) :
    arrival bytes s = s := by
  unfold arrival
  obtain h | h := h <;> simp [h]

theorem arrival_decoded {bytes : List Byte} {f : Frame} (h : decodeFrame bytes = .frame f) (hs : s.seq.state ≠ .offline) :
    arrival bytes s = receiveFrame f s := by
  rw [arrival, if_pos ((isSealed_eq_true s).mpr hs), h]

theorem receiveFrame_peer {f : Frame} (h : f.address ≠ s.inForce.address) : receiveFrame f s = enqueue f s := if_neg h

theorem receiveFrame_own {f : Frame} (h : f.address = s.inForce.address) :
    receiveFrame f s = if s.seq.state = .conflict then s else addressConflict s := if_pos h

theorem enqueue_room (f : Frame) (h : s.bus.rx.length < 8) :
    enqueue f s = { s with bus := { s.bus with rx := s.bus.rx ++ [⟨f, tagOf f s, s.now⟩] } } := if_pos h

/-! ## The tag (R7) -/

/-- The tag of a frame that is, or is not, from a store: test 4 on the linked store. -/
theorem tagOf_storeFrame {f : Frame} (hlinked : isLinkedFrame f s = (s.isTrain && s.inForce.items.linked == some f.address))
    (hcavern : isCavernFrame f s = false) :
    tagOf f s = if s.isTrain = true ∧ s.inForce.items.linked = some f.address then .linkedStore else .other := by
  simp [tagOf, hlinked, hcavern]

/-- The tag of a frame from a train: test 5 on the cavern group. -/
theorem tagOf_trainFrame {f : Frame} {cavern : Nat} (hlinked : isLinkedFrame f s = false)
    (hcavern : isCavernFrame f s = (s.isTrain && cavern == s.inForce.cavern)) :
    tagOf f s = if s.isTrain = true ∧ cavern = s.inForce.cavern then .sameCavern else .other := by
  simp [tagOf, hlinked, hcavern]

theorem tagOf_unknownAlert {al : Alert} (h : findEntry s.view al.address = none) : tagOf (.alert al) s = .other := by
  have hlinked : isLinkedFrame (.alert al) s = false := by simp [isLinkedFrame, h]
  have hcavern : isCavernFrame (.alert al) s = false := by simp [isCavernFrame, h]
  simp [tagOf, hlinked, hcavern]

theorem tagOf_storeAlert {al : Alert} {e : Entry} {g : StoreFields} (h : findEntry s.view al.address = some e) (hg : e.fields = .store g) :
    tagOf (.alert al) s = if s.isTrain = true ∧ s.inForce.items.linked = some al.address then .linkedStore else .other :=
  tagOf_storeFrame (by simp [isLinkedFrame, h, hg, Frame.address]) (by simp [isCavernFrame, h, hg])

theorem tagOf_trainAlert {al : Alert} {e : Entry} {g : TrainFields} (h : findEntry s.view al.address = some e) (hg : e.fields = .train g) :
    tagOf (.alert al) s = if s.isTrain = true ∧ g.cavern = s.inForce.cavern then .sameCavern else .other :=
  tagOf_trainFrame (by simp [isLinkedFrame, h, hg]) (by simp [isCavernFrame, h, hg])

/-- Settles O33: by the frame, with its tag by the two tests. -/
theorem arrivalsAreTaggedAndQueued : Obligations.ArrivalsAreTaggedAndQueued := by
  intro s t bytes
  refine ⟨fun hoff => congrArg _ (arrival_offline (s := s.atInstant t) hoff bytes),
    fun h => congrArg _ (arrival_undecoded (s := s.atInstant t) h), fun f hf hs ha hroom => ⟨tagOf f (s.atInstant t), ?_, ?_, ?_, ?_, ?_, ?_⟩⟩
  · exact congrArg _ ((arrival_decoded (s := s.atInstant t) hf hs).trans
      ((receiveFrame_peer (s := s.atInstant t) ha).trans (enqueue_room (s := s.atInstant t) f hroom)))
  · rintro a st g rfl
    exact tagOf_storeFrame (s := s.atInstant t) (by simp [isLinkedFrame]) (by simp [isCavernFrame])
  · rintro a st g rfl
    exact tagOf_trainFrame (s := s.atInstant t) (by simp [isLinkedFrame]) (by simp [isCavernFrame])
  · rintro al rfl hnone
    exact tagOf_unknownAlert (s := s.atInstant t) hnone
  · rintro al rfl e he g hg
    exact tagOf_storeAlert (s := s.atInstant t) he hg
  · rintro al rfl e he g hg
    exact tagOf_trainAlert (s := s.atInstant t) he hg

/-! ## The own address -/

theorem bus_of_parts {u : State} {b : Bus} (htimer : u.bus.statusTimer = b.statusTimer) (hstatus : u.bus.pendingStatus = b.pendingStatus)
    (halert : u.bus.pendingAlert = b.pendingAlert) (hmedium : u.bus.onBus = b.onBus) (hrx : u.bus.rx = b.rx ∧ u.bus.overrun = b.overrun) :
    u.bus = b := by
  obtain ⟨hrx, hoverrun⟩ := hrx
  cases hu : u.bus
  cases b
  simp_all

/-- The bus at a conflict: ALERT CONFLICT pending in place of any other, the status frame stopped (R19). -/
theorem addressConflict_bus (s : State) : (addressConflict s).bus = { s.bus with
    pendingAlert := some ⟨s.inForce.address, .conflict, {}⟩, statusTimer := none, pendingStatus := none } := by
  have hframe := addressConflict_sameBut s
  have hread (v : State) (hl : v.seq.state.loaded = false) : SameBut [.cooled, .reports, .available, .lastU] v (readIfCapChanged s.bank.cap v) :=
    readIfCapChanged_sameBut s.bank.cap hl
  refine bus_of_parts (by simp) ?_ ?_ (by simp) (hframe .receiveQueue (by decide))
  · unfold addressConflict
    exact (hread _ (by simp [StationState.loaded]) .pendingStatus (by decide)).trans
      (setpointIfFell_sameBut _ _ .pendingStatus (by decide))
  · unfold addressConflict
    exact (hread _ (by simp [StationState.loaded]) .pendingAlert (by decide)).trans
      (setpointIfFell_sameBut _ _ .pendingAlert (by decide))

/-- A train's fall to CONFLICT sends a SETPOINT (R47, R65). -/
theorem addressConflict_setpoint (ht : s.isTrain = true) (h0 : s.share.command ≠ 0) : (addressConflict s).link.setpoint =
    some ⟨0, decide (s.inForce.kind = some .C ∧ s.heat.cooled = true), .conflict⟩ := by
  have hread (v : State) (hl : v.seq.state.loaded = false) : (readIfCapChanged s.bank.cap v).link.setpoint = v.link.setpoint :=
    readIfCapChanged_sameBut s.bank.cap hl .setpoint (by decide)
  unfold addressConflict
  refine (hread _ (by simp [StationState.loaded])).trans ((setpointIfFell_setpoint _ _).trans ((if_pos ⟨h0, ?_⟩).trans ?_))
  · rw [setpointNow_eq]
    simp [dropCommand, stopSequence]
  · simpa [State.isTrain, dropCommand, stopSequence] using ht

/-- Settles O35: in CONFLICT nothing, otherwise the conflict with its two reports first. -/
theorem ownAddressIsConflict : Obligations.OwnAddressIsConflict := by
  intro s t bytes f hf ha
  refine ⟨fun hs => ?_, fun hoff hs => ?_⟩
  · have hsealed : s.seq.state ≠ .offline := by rw [hs]; decide
    exact congrArg _ ((arrival_decoded (s := s.atInstant t) hf hsealed).trans
      ((receiveFrame_own (s := s.atInstant t) ha).trans (if_pos hs)))
  · have hconflict : arrival bytes (s.atInstant t) = addressConflict (s.atInstant t) :=
      (arrival_decoded (s := s.atInstant t) hf hoff).trans ((receiveFrame_own (s := s.atInstant t) ha).trans (if_neg hs))
    have hframe := addressConflict_sameBut (s.atInstant t)
    have hfallen := addressConflict_ofFallen (s.atInstant t)
    obtain ⟨more, hreports, -⟩ := addressConflict_produces (s.atInstant t)
    have hcalm : (addressConflict (s.atInstant t)).seq.available = false :=
      (addressConflict_availableLaw _).clear (.inr (by simp [StationState.mayBeAvailable]))
    refine .of_next rfl hconflict ⟨by simp, by simp, hcalm, ?_, ?_, ?_, ?_, ?_, ?_, hframe .shareTimer (by decide), addressConflict_bus _,
      hframe .view (by decide), by simp, hframe.book (by decide), by simp, by simp,
      fun ht h0 => ⟨_, addressConflict_setpoint (s := s.atInstant t) ht h0, rfl, rfl⟩, fun hroom => hreports.append_two hroom⟩
    · exact (hfallen .joinTimer (by decide)).trans (by simp)
    · exact (hfallen .startTimer (by decide)).trans (by simp)
    · exact (hfallen .standbyTimer (by decide)).trans (by simp)
    · exact (hfallen .tripHeld (by decide)).trans (by simp)
    · exact (hfallen .leaveCount (by decide)).trans (by simp)
    · exact (hfallen .command (by decide)).trans (by simp)

end Sys2Proof.Machine
end

section
/-! PROOFS. The frames applied to the peer table: status frames (R11 to R13, R138), alerts (R17, R18), with the read of U after them (R50). -/

namespace Sys2Proof.Machine

variable {s : State}

/-! ## The entry of an address -/

theorem findEntry_putEntry (e : Entry) (view : List Entry) : findEntry (putEntry e view) e.address = some e := by
  induction view with
  | nil => simp [putEntry, findEntry]
  | cons x xs ih =>
    unfold putEntry
    split
    · simp [findEntry]
    · split
      · simp [findEntry]
      · next hne => simpa [findEntry, Ne.symm hne] using ih

theorem findEntry_putEntry_other {e : Entry} {a : Nat} (h : a ≠ e.address) (view : List Entry) :
    findEntry (putEntry e view) a = findEntry view a := by
  induction view with
  | nil => simp [putEntry, findEntry, Ne.symm h]
  | cons x xs ih =>
    unfold putEntry
    split
    · simp [findEntry, Ne.symm h]
    · split
      · next heq => simp [findEntry, Ne.symm h, ← heq]
      · by_cases hx : x.address = a
        · simp [findEntry, hx]
        · simpa [findEntry, hx] using ih

theorem clampNat_upper (hi v : Nat) : clampNat 0 hi v = min v hi := by
  unfold clampNat
  split
  · omega
  · split <;> omega

theorem clampNat_eq {lo hi : Nat} (h : lo ≤ hi) (v : Nat) : clampNat lo hi v = max lo (min v hi) := by
  unfold clampNat
  split
  · omega
  · split <;> omega

/-- The ranges of a TRAIN STATUS (R13). -/
theorem trainClamp_eq (g : TrainFields) : g.clamp = { g with
    cavern := max 1 (min g.cavern 4), vcode := min g.vcode 31, command := min g.command 2500, output := min g.output 2500
    upper := min g.upper 2500, minLoad := min g.minLoad 2500, massFlow := min g.massFlow 1000, heatFlow := min g.heatFlow 5000
    target := if g.interval = 4294967295 then none else g.target.map fun v => max (-3000) (min v 3000) } := by
  have hpower : clampPower = fun v => max (-3000) (min v 3000) := funext clampPower_eq
  rw [TrainFields.clamp, hpower, clampNat_eq (by decide)]
  simp only [clampNat_upper]
  rfl

/-- The ranges of a STORE STATUS (R13). -/
theorem storeClamp_eq (g : StoreFields) : g.clamp = { g with
    vcode := min g.vcode 31, charge := min g.charge 5000, discharge := min g.discharge 5000, outlet := min g.outlet 800
    hotZones := min g.hotZones 8 } := by
  rw [StoreFields.clamp]
  simp only [clampNat_upper]

/-! ## The points of the account (R138) -/

theorem addPlant_ownAcc (a : Account) (e : Int) : (a.addPlant e).ownAcc = a.ownAcc := by
  unfold Account.addPlant
  split <;> rfl

theorem addPlant_peerPoints (a : Account) (e : Int) : (a.addPlant e).peerPoints = a.peerPoints := by
  unfold Account.addPlant
  split <;> rfl

/-- The account of another station of the same account. -/
theorem accountFrame_congr {v : State} (h : v.account = s.account) (a : Nat) (k : Kind) (output arr : Nat) :
    (accountFrame a k output arr v).account = (accountFrame a k output arr s).account := by
  unfold accountFrame
  rw [h]
  split
  · rfl
  · rfl

theorem accountDrop_congr {v : State} (h : v.account = s.account) (a upto : Nat) :
    (accountDrop a upto v).account = (accountDrop a upto s).account := by
  unfold accountDrop
  rw [h]
  split
  · exact h
  · rfl

theorem findPoint_none {ps : List PeerPoint} {a : Nat} (h : ∀ p ∈ ps, p.address ≠ a) : findPoint ps a = none :=
  List.find?_eq_none.mpr fun p hp => by simpa using h p hp

theorem accountFrame_only {p : PeerPoint} (h : OnlyPoint s.account.peerPoints p) (k : Kind) (output arr : Nat) :
    PlantCredited s (accountFrame p.address k output arr s) (energyOf (some p.kind) p.output p.since arr)
    ∧ (accountFrame p.address k output arr s).account.peerPoints = s.account.peerPoints.map fun q =>
        if q.address = p.address then ⟨p.address, output, k, max arr p.since⟩ else q := by
  unfold accountFrame
  rw [findPoint_of_only h]
  dsimp only
  rw [spanEnergy_eq_energyOf]
  refine ⟨⟨addPlant_plantAcc _ _, addPlant_ownAcc _ _⟩, ?_⟩
  simp only [beq_iff_eq]

theorem accountFrame_first {a : Nat} (h : ∀ p ∈ s.account.peerPoints, p.address ≠ a) (k : Kind) (output arr : Nat) :
    PlantCredited s (accountFrame a k output arr s) 0
    ∧ (accountFrame a k output arr s).account.peerPoints = s.account.peerPoints ++ [⟨a, output, k, arr⟩] := by
  unfold accountFrame
  rw [findPoint_none h]
  exact ⟨⟨by simp, rfl⟩, rfl⟩

theorem accountDrop_only {p : PeerPoint} (h : OnlyPoint s.account.peerPoints p) (upto : Nat) :
    PlantCredited s (accountDrop p.address upto s) (energyOf (some p.kind) p.output p.since upto)
    ∧ (accountDrop p.address upto s).account.peerPoints = s.account.peerPoints.filter fun q => q.address ≠ p.address := by
  unfold accountDrop
  rw [findPoint_of_only h]
  dsimp only
  rw [spanEnergy_eq_energyOf]
  refine ⟨⟨addPlant_plantAcc _ _, addPlant_ownAcc _ _⟩, ?_⟩
  simp [dropPoint, bne, Bool.beq_eq_decide_eq]

theorem accountDrop_unpointed {a : Nat} (h : ∀ p ∈ s.account.peerPoints, p.address ≠ a) (upto : Nat) : accountDrop a upto s = s := by
  unfold accountDrop
  rw [findPoint_none h]

theorem PlantCredited.congr {u w : State} {e : Int} (h : PlantCredited s u e) (hw : w.account = u.account) : PlantCredited s w e := by
  unfold PlantCredited at h ⊢
  rwa [hw]

/-! ## The read of U after other work -/

/-- An event whose last work is a read of U, in every state (R50). -/
theorem cutAtRead_after {v w : State} (hs : ∀ p ∈ .cooled :: cutBefore, p.same s v) (hw : ∀ p ∈ cutAfter, p.same (readUpper v) w)
    (hnow : w.now = v.now) : CutAtRead s w (limitRead s v.link.holder v.view v.bank.cap) := by
  by_cases hoff : s.seq.state = .offline
  · have hstate : v.seq.state = s.seq.state := hs .state (by decide)
    have hidle := readUpper_idle_sameBut (s := v) (by rw [hstate, hoff]; rfl)
    refine ⟨fun _ hrun => ?_, fun _ => ⟨?_, ?_, ?_⟩⟩
    · rw [hoff] at hrun
      obtain h | h := hrun <;> cases h
    · exact (hw .command (by decide)).trans ((hidle .command (by decide)).trans (hs .command (by decide)))
    · exact (hw .state (by decide)).trans ((hidle .state (by decide)).trans hstate)
    · exact (hw .setpoint (by decide)).trans ((hidle .setpoint (by decide)).trans (hs .setpoint (by decide)))
  · exact cutAtRead_of_readUpper hoff hs hw hnow

/-! ## An applied status frame -/

/-- The table with a status frame's entry in it. -/
def framedView (f : StatusFrame) (tag : Relation) (arr : Nat) (s : State) : List Entry :=
  putEntry (entryFrom f tag arr (findEntry s.view f.address)) s.view

theorem statusFrameWork_view (f : StatusFrame) (tag : Relation) (arr : Nat) (s : State) :
    (statusFrameWork f tag arr s).view = framedView f tag arr s := by
  have hput (r : Option Report) (v : State) : (produceOpt r v).view = v.view := produceOpt_sameBut r v .view (by decide)
  unfold statusFrameWork
  dsimp only
  split
  · exact (handOn_sameBut _ _ _ _ .view (by decide)).trans (hput _ _)
  · exact hput _ _

theorem statusFrameWork_produces (f : StatusFrame) (tag : Relation) (arr : Nat) (s : State) :
    ∃ rs, Produces ((applyReport f.address (findEntry s.view f.address)).toList ++ rs) s (statusFrameWork f tag arr s) := by
  have hview := produces_of_frame (setView_sameBut (framedView f tag arr s) s) (by decide)
  have hput := hview.trans (produceOpt_produces (applyReport f.address (findEntry s.view f.address)) _)
  unfold statusFrameWork
  dsimp only
  split
  · obtain ⟨rs, hhand⟩ := handOn_reports f (findEntry s.view f.address) arr _
    exact ⟨rs, hput.trans hhand⟩
  · exact ⟨[], by rw [List.append_nil]; exact hput⟩

theorem produceOpt_account (r : Option Report) (s : State) : (produceOpt r s).account = s.account := by cases r <;> rfl

/-- The account after the work of a TRAIN STATUS is that after its span. -/
theorem statusFrameWork_train_account {f : StatusFrame} {g : TrainFields} (ht : s.isTrain = true) (hf : f.fields = .train g)
    (tag : Relation) (arr : Nat) : (statusFrameWork f tag arr s).account =
      (accountFrame f.address g.kind (min g.output 2500) arr s).account := by
  rw [statusFrameWork_train ht hf, judge_account, trainTaken, accountFrame_congr (produceOpt_account _ _), trainClamp_eq]
  exact accountFrame_congr (v := { s with view := framedView f tag arr s }) (s := s) rfl _ _ _ _

theorem clamp_store {f : StatusFrame} {g : StoreFields} (h : f.fields = .store g) : f.fields.clamp = .store g.clamp := by
  rw [h]
  rfl

/-- A STORE STATUS in place of a train's entry ends its point (R138). -/
theorem handOn_store_train {f : StatusFrame} {g : StoreFields} {e : Entry} {x : TrainFields} (hf : f.fields = .store g)
    (hx : e.fields = .train x) (arr : Nat) (s : State) : handOn f (some e) arr s = accountDrop f.address arr s := by
  simp [handOn, clamp_store hf, hx]

theorem handOn_store_other {f : StatusFrame} {g : StoreFields} {old : Option Entry} (hf : f.fields = .store g)
    (h : ∀ e x, old = some e → e.fields ≠ .train x) (arr : Nat) (s : State) : handOn f old arr s = s := by
  cases old with
  | none => simp [handOn, clamp_store hf]
  | some e =>
    cases hx : e.fields with
    | train x => exact absurd hx (h e x rfl)
    | store x => simp [handOn, clamp_store hf, hx]

theorem statusFrameWork_changed_account {f : StatusFrame} {g : StoreFields} {e : Entry} {x : TrainFields} (ht : s.isTrain = true)
    (hf : f.fields = .store g) (he : findEntry s.view f.address = some e) (hx : e.fields = .train x) (tag : Relation) (arr : Nat) :
    (statusFrameWork f tag arr s).account = (accountDrop f.address arr s).account := by
  unfold statusFrameWork
  dsimp only
  rw [if_pos ht, he, handOn_store_train hf hx]
  exact accountDrop_congr (s := s) (by rw [produceOpt_account]) _ _

theorem statusFrameWork_store_account {f : StatusFrame} {g : StoreFields} (hf : f.fields = .store g)
    (he : ∀ e x, findEntry s.view f.address = some e → e.fields ≠ .train x) (tag : Relation) (arr : Nat) :
    (statusFrameWork f tag arr s).account = s.account := by
  unfold statusFrameWork
  dsimp only
  rw [handOn_store_other hf he, ite_self]
  exact produceOpt_account _ _

theorem statusFrameWork_untrained_account {f : StatusFrame} (ht : s.isTrain = false) (tag : Relation) (arr : Nat) :
    (statusFrameWork f tag arr s).account = s.account := by
  unfold statusFrameWork
  dsimp only
  rw [if_neg (by simp [ht])]
  exact produceOpt_account _ _

theorem statusFrameWork_points (f : StatusFrame) (tag : Relation) (arr : Nat) (s : State) :
    (statusFrameWork f tag arr s).account.openRec = s.account.openRec ∧ (statusFrameWork f tag arr s).account.ownPoint = s.account.ownPoint :=
  ⟨statusFrameWork_sameBut f tag arr s .openRecord (by decide), statusFrameWork_sameBut f tag arr s .ownPoint (by decide)⟩

/-- A read of U that does not end a leave leaves table, queue and account. -/
theorem readUpper_rest (h : (readUpper s).seq.state ≠ .offline) :
    (readUpper s).view = s.view ∧ (readUpper s).bus.rx = s.bus.rx ∧ (readUpper s).account = s.account := by
  obtain hread | ⟨-, hoff, -⟩ := readUpper_changes s
  · exact ⟨hread .view (by decide), (hread .receiveQueue (by decide)).1, hread.account (by decide)⟩
  · exact absurd hoff h

/-- The entry that a status frame makes (R11 to R13). -/
theorem entryFrom_state (f : StatusFrame) (tag : Relation) (arr : Nat) (old : Option Entry) :
    (∀ x, f.state = some x → (entryFrom f tag arr old).state = x)
    ∧ (f.state = none → old = none → (entryFrom f tag arr old).state = .offline)
    ∧ ∀ e, old = some e → f.state = none → (entryFrom f tag arr old).state = e.state := by
  refine ⟨fun x hx => ?_, fun hx ho => ?_, fun e ho hx => ?_⟩ <;> simp [entryFrom, hx]
  · simp [ho]
  · simp [ho]

/-- The account after the read of U that follows a status frame is that of its work, train by train and store by store. -/
theorem statusFrameWork_accounts {f : StatusFrame} {u : State} (tag : Relation) (arr : Nat)
    (hu : u.account = (statusFrameWork f tag arr s).account) :
    (s.isTrain = true → ∀ g, f.fields = .train g →
      (∀ p, OnlyPoint s.account.peerPoints p → p.address = f.address →
        PlantCredited s u (energyOf (some p.kind) p.output p.since arr)
        ∧ u.account.peerPoints = s.account.peerPoints.map fun q =>
            if q.address = f.address then ⟨f.address, min g.output 2500, g.kind, max arr p.since⟩ else q)
      ∧ ((∀ p ∈ s.account.peerPoints, p.address ≠ f.address) → PlantCredited s u 0
        ∧ u.account.peerPoints = s.account.peerPoints ++ [⟨f.address, min g.output 2500, g.kind, arr⟩]))
    ∧ (s.isTrain = true → ∀ g, f.fields = .store g → ∀ e x, findEntry s.view f.address = some e → e.fields = .train x →
      ∀ p, OnlyPoint s.account.peerPoints p → p.address = f.address →
        PlantCredited s u (energyOf (some p.kind) p.output p.since arr)
        ∧ u.account.peerPoints = s.account.peerPoints.filter fun q => q.address ≠ f.address)
    ∧ (s.isTrain = true → ∀ g, f.fields = .store g → (∀ e x, findEntry s.view f.address = some e → e.fields ≠ .train x) →
      u.account = s.account)
    ∧ (s.isTrain = false → u.account = s.account) := by
  refine ⟨fun ht g hf => ⟨fun p hp hpa => ?_, fun hnone => ?_⟩, fun ht g hf e x he hx p hp hpa => ?_,
    fun _ g hf he => hu.trans (statusFrameWork_store_account hf he tag arr),
    fun ht => hu.trans (statusFrameWork_untrained_account ht tag arr)⟩
  · have haccount := hu.trans (statusFrameWork_train_account ht hf tag arr)
    rw [← hpa] at haccount ⊢
    obtain ⟨hcredit, hpoints⟩ := accountFrame_only hp g.kind (min g.output 2500) arr
    exact ⟨hcredit.congr haccount, (congrArg Account.peerPoints haccount).trans hpoints⟩
  · have haccount := hu.trans (statusFrameWork_train_account ht hf tag arr)
    obtain ⟨hcredit, hpoints⟩ := accountFrame_first hnone g.kind (min g.output 2500) arr
    exact ⟨hcredit.congr haccount, (congrArg Account.peerPoints haccount).trans hpoints⟩
  · have haccount := hu.trans (statusFrameWork_changed_account ht hf he hx tag arr)
    rw [← hpa] at haccount ⊢
    obtain ⟨hcredit, hpoints⟩ := accountDrop_only hp arr
    exact ⟨hcredit.congr haccount, (congrArg Account.peerPoints haccount).trans hpoints⟩

/-- Settles O36: the work of the frame on the table and the account, and then the read of U. -/
theorem statusFrameUpdatesEntry : Obligations.StatusFrameUpdatesEntry := by
  intro s t f tag arr rest hrx _
  have hstep : applyHeadStatus (s.atInstant t) = applyStatus f tag arr (removeHead (s.atInstant t)) :=
    applyHeadStatus_eq (s := s.atInstant t) hrx
  have hrest : (removeHead (s.atInstant t)).bus.rx = rest := congrArg List.tail hrx
  have hexec : exec (.applyStatusFrame t) s = .next (applyStatus f tag arr (removeHead (s.atInstant t))) := congrArg _ hstep
  have hwork := statusFrameWork_sameBut f tag arr (removeHead (s.atInstant t))
  have hall := applyStatus_changes f tag arr (removeHead (s.atInstant t))
  have hview := statusFrameWork_view f tag arr (removeHead (s.atInstant t))
  obtain ⟨rs, hreports⟩ := statusFrameWork_produces f tag arr (removeHead (s.atInstant t))
  obtain ⟨qs, hread⟩ := readUpper_reports (statusFrameWork f tag arr (removeHead (s.atInstant t)))
  have hproduced := hreports.trans hread
  refine ⟨_, hexec, fun hu => ?_, fun hoff hs => ?_, fun hnone => ?_, fun e he hlost => ?_, ?_,
    exec_command_le (.applyStatusFrame t) s _ (fun h => nomatch h) hexec, ?_, ?_, ?_, ?_, ?_, ?_, ?_⟩
  · obtain ⟨huview, hurx, huaccount⟩ := readUpper_rest hu
    have huview : _ = framedView f tag arr s := huview.trans hview
    have hsame : findEntry (framedView f tag arr s) f.address = some (entryFrom f tag arr (findEntry s.view f.address)) :=
      findEntry_putEntry _ _
    obtain ⟨hnamed, hnew, hkept⟩ := entryFrom_state f tag arr (findEntry s.view f.address)
    obtain ⟨hopen, hown⟩ := statusFrameWork_points f tag arr (removeHead (s.atInstant t))
    obtain ⟨htrain, hchanged, hstore, hother⟩ := statusFrameWork_accounts (s := removeHead (s.atInstant t)) tag arr huaccount
    refine ⟨hurx.trans ((hwork .receiveQueue (by decide)).1.trans hrest), ⟨_, (congrArg (findEntry · _) huview).trans hsame, rfl, rfl, rfl, rfl,
      fun g hf => ?_, fun g hf => ?_, hnamed, hnew, fun e' he' hx => hkept e' he' hx⟩, fun a ha => ?_,
      (congrArg Account.openRec huaccount).trans hopen, (congrArg Account.ownPoint huaccount).trans hown, htrain, hchanged, hstore, hother⟩
    · exact (clamp_train hf).trans (congrArg _ (trainClamp_eq g))
    · exact (clamp_store hf).trans (congrArg _ (storeClamp_eq g))
    · exact (congrArg (findEntry · a) huview).trans (findEntry_putEntry_other ha s.view)
  · obtain hstays | ⟨hl, -, -⟩ := hall
    · exact absurd ((hstays.state (by decide)).symm.trans hoff) hs
    · exact hl
  · have hnone : findEntry (removeHead (s.atInstant t)).view f.address = none := hnone
    rw [hnone] at hproduced
    exact hproduced.queued
  · have he : findEntry (removeHead (s.atInstant t)).view f.address = some e := he
    rw [he, applyReport, if_pos hlost] at hproduced
    exact hproduced.queued
  · have hcut := cutAtRead_after (s := removeHead (s.atInstant t)) (fun p hp => hwork p (by revert p; decide)) (fun p _ => (SameBut.refl [] _) p (by simp))
      (by simp)
    rw [hview, hwork .holder (by decide), hwork .cap (by decide)] at hcut
    exact hcut
  · exact hall.same (p := .items) (by decide) fun _ _ => by decide
  · exact hall.same (p := .inForce) (by decide) fun _ _ => by decide
  · exact hall.same (p := .clock) (by decide) fun _ _ => by decide
  · exact hall.same (p := .permit) (by decide) fun _ _ => by decide
  · exact hall.same (p := .noms) (by decide) fun _ _ => by decide
  · exact hall.same (p := .orders) (by decide) fun _ _ => by decide
  · exact hall.same (p := .target) (by decide) fun _ _ => by decide

end Sys2Proof.Machine
end

section
/-! PROOFS. The alerts that change their entry (R17, R18) and the entries' own deadlines (R14 to R16), each with the read of U after it (R50). -/

namespace Sys2Proof.Machine

variable {s : State}

/-! ## The table after a change of one address -/

/-- The entries of an address changed, the others as they are. -/
theorem updateEntry_eq (view : List Entry) (a : Nat) (f : Entry → Entry) :
    updateEntry view a f = view.map fun e => if e.address = a then f e else e := by
  simp only [updateEntry, beq_iff_eq]

theorem address_of_findEntry {view : List Entry} {a : Nat} {e : Entry} (h : findEntry view a = some e) : e.address = a := by
  simpa using List.find?_some h

/-- A change of an address that has no entry changes nothing. -/
theorem updateEntry_absent {view : List Entry} {a : Nat} (h : findEntry view a = none) (f : Entry → Entry) : updateEntry view a f = view := by
  have habsent (e : Entry) (he : e ∈ view) : (e.address == a) = false := by simpa using List.find?_eq_none.mp h e he
  unfold updateEntry
  refine (List.map_congr_left fun e he => ?_).trans view.map_id
  rw [habsent e he]
  rfl

/-! ## A read of U after a change of the table -/

/-- The station's view and account after a read of U, and the command's cut, from the work before the read. -/
theorem readUpper_view {v : State} {view : List Entry} {ps : List Part} (hwork : SameBut ps s v)
    (hd : ∀ p ∈ .cooled :: .holder :: .cap :: cutBefore, p ∉ ps) (hview : v.view = view) :
    ((readUpper v).seq.state ≠ .offline → (readUpper v).view = view)
    ∧ CutAtRead s (readUpper v) (limitRead s s.link.holder view s.bank.cap) := by
  refine ⟨fun hu => (readUpper_book hu).2.trans hview, ?_⟩
  have hcut := cutAtRead_after (s := s) (v := v) (w := readUpper v) (fun p hp => hwork p (hd p (by revert hp p; decide)))
    (fun p _ => (SameBut.refl [] _) p (by simp)) (by simp)
  rw [hview, hwork .holder (hd _ (by decide)), hwork .cap (hd _ (by decide))] at hcut
  exact hcut

/-! ## Alerts -/

theorem applyHeadAlert_eq {a : Alert} {tag : Relation} {arr : Nat} {rest : List RxFrame} (h : s.bus.rx = ⟨.alert a, tag, arr⟩ :: rest)
    (ha : a.reason ≠ .conflict) : applyHeadAlert s = applyAlert a (removeHead s) := by
  unfold applyHeadAlert
  rw [h]
  exact if_neg ha

theorem applyHeadConflict_eq {a : Alert} {tag : Relation} {arr : Nat} {rest : List RxFrame} (h : s.bus.rx = ⟨.alert a, tag, arr⟩ :: rest)
    (ha : a.reason = .conflict) : applyHeadConflict s = applyConflict a (removeHead s) := by
  unfold applyHeadConflict
  rw [h]
  exact if_pos ha

/-- What an ALERT TRIP or LEAVE makes of an entry (R17). -/
theorem alerted_eq {a : Alert} (ha : a.reason ≠ .conflict) (e : Entry) :
    { e with state := alertedState a.reason, fields := e.fields.alerted } = { e with
      state := if a.reason = .trip then .tripped else .leaving
      fields := match e.fields with
        | .train f => .train { f with available := false }
        | .store f => .store { f with charge := 0, discharge := 0 } } := by
  have hstate : alertedState a.reason = if a.reason = .trip then .tripped else .leaving := by
    cases hr : a.reason
    · rfl
    · rfl
    · exact absurd hr ha
  rw [hstate]
  cases e.fields <;> rfl

/-- The table after an alert that changes the entry of its address. -/
def alertedView (a : Alert) (view : List Entry) : List Entry :=
  updateEntry view a.address fun e => { e with state := alertedState a.reason, fields := e.fields.alerted }

theorem applyAlert_absent {a : Alert} (h : findEntry s.view a.address = none) : applyAlert a s = s := by
  unfold applyAlert
  rw [h]

theorem applyAlert_present {a : Alert} {e : Entry} (h : findEntry s.view a.address = some e) :
    applyAlert a s = readUpper { s with view := alertedView a s.view } := by
  unfold applyAlert
  rw [h]
  rfl

/-- The table after a loss, with the hold of its entry (R15, R18). -/
def lostView (a : Nat) (s : State) : List Entry :=
  updateEntry s.view a fun x => { x with status := .lost, holdEnd := some (s.now + s.inForce.items.lostHold * 1000) }

theorem loseWork_view (e : Entry) (s : State) : (loseWork e s).view = lostView e.address s := by
  unfold loseWork
  dsimp only
  split <;> rfl

theorem loseWork_produces {e : Entry} (h : e.status ≠ .lost) (s : State) : Produces [.peerLost e.address] s (loseWork e s) := by
  unfold loseWork
  dsimp only
  rw [if_neg h]
  exact (produces_of_link (s := s) rfl).trans (produces_produce _ _)

theorem loseEntry_queued {e : Entry} (h : e.status ≠ .lost) (s : State) : Queued s (loseEntry e s) (.peerLost e.address) := by
  obtain ⟨rs, hread⟩ := readUpper_reports (loseWork e s)
  exact ((loseWork_produces h s).trans hread).queued

theorem applyConflict_absent {a : Alert} (h : findEntry s.view a.address = none) : applyConflict a s = s := by
  unfold applyConflict
  rw [h]

theorem applyConflict_present {a : Alert} {e : Entry} (h : findEntry s.view a.address = some e) :
    applyConflict a s = loseEntry e s := by
  unfold applyConflict
  rw [h]

/-- The queue after an alert is applied, unless the read of U ends a leave. -/
theorem rx_after {ps : List Part} {v u : State} (h : Changes ps v u) (hp : .receiveQueue ∉ ps) (hu : u.seq.state ≠ .offline) :
    u.bus.rx = v.bus.rx :=
  (h.same hp fun _ hoff => absurd hoff hu : Part.receiveQueue.same v u).1

theorem applyConflict_changes (a : Alert) (s : State) : Changes (.view :: readParts) s (applyConflict a s) := by
  unfold applyConflict
  split
  · exact .inl (.refl _ s)
  · exact loseEntry_changes _ s

/-- Settles O37: with no entry nothing but the queue, otherwise the entry's change and the read of U. -/
theorem alertsChangeTheirEntry : Obligations.AlertsChangeTheirEntry := by
  intro s t a tag arr rest hrx
  have hrest : (removeHead (s.atInstant t)).bus.rx = rest := congrArg List.tail hrx
  refine ⟨fun ha => ?_, fun ha => ?_⟩
  · have hexec : exec (.applyAlert t) s = .next (applyAlert a (removeHead (s.atInstant t))) :=
      congrArg _ (applyHeadAlert_eq (s := s.atInstant t) hrx ha)
    have hall := applyAlert_changes a (removeHead (s.atInstant t))
    refine ⟨_, hexec, fun hu => (rx_after hall (by decide) hu).trans hrest, ⟨alertedView a s.view, ?_, fun hu => ?_, fun e he => ?_⟩, fun hnone => ?_,
      exec_command_le (.applyAlert t) s _ (fun h => nomatch h) hexec, hall.same (p := .clock) (by decide) fun _ _ => by decide,
      hall.same (p := .noms) (by decide) fun _ _ => by decide, hall.same (p := .items) (by decide) fun _ _ => by decide⟩
    · refine (updateEntry_eq _ _ _).trans (List.map_congr_left fun e _ => ?_)
      exact congrArg (fun x => if e.address = a.address then x else e) (alerted_eq ha e)
    · cases hfind : findEntry s.view a.address with
      | none =>
        rw [applyAlert_absent (s := removeHead (s.atInstant t)) hfind, alertedView, updateEntry_absent hfind]
        rfl
      | some e =>
        rw [applyAlert_present (s := removeHead (s.atInstant t)) hfind] at hu ⊢
        exact (readUpper_book hu).2
    · rw [applyAlert_present (s := removeHead (s.atInstant t)) he]
      exact (readUpper_view (setView_sameBut (alertedView a s.view) (removeHead (s.atInstant t))) (by decide) rfl).2
    · rw [applyAlert_absent (s := removeHead (s.atInstant t)) hnone]
      exact ⟨rfl, rfl, rfl⟩
  · have hexec : exec (.applyAlertConflict t) s = .next (applyConflict a (removeHead (s.atInstant t))) :=
      congrArg _ (applyHeadConflict_eq (s := s.atInstant t) hrx ha)
    have hall := applyConflict_changes a (removeHead (s.atInstant t))
    refine ⟨_, hexec, fun hu => (rx_after hall (by decide) hu).trans hrest, ⟨lostView a.address (s.atInstant t), updateEntry_eq _ _ _, fun hu => ?_,
      fun e he => ?_⟩, fun e he hlost => ?_, fun hnone => ?_,
      exec_command_le (.applyAlertConflict t) s _ (fun h => nomatch h) hexec, hall.same (p := .clock) (by decide) fun _ _ => by decide,
      hall.same (p := .noms) (by decide) fun _ _ => by decide, hall.same (p := .items) (by decide) fun _ _ => by decide⟩
    · cases hfind : findEntry s.view a.address with
      | none =>
        rw [applyConflict_absent (s := removeHead (s.atInstant t)) hfind, lostView]
        exact (updateEntry_absent hfind _).symm
      | some e =>
        rw [applyConflict_present (s := removeHead (s.atInstant t)) hfind, loseEntry_eq] at hu ⊢
        rw [(readUpper_book hu).2, loseWork_view, address_of_findEntry hfind]
        rfl
    · rw [applyConflict_present (s := removeHead (s.atInstant t)) he, loseEntry_eq]
      refine (readUpper_view (loseWork_sameBut e (removeHead (s.atInstant t))) (by decide) ?_).2
      rw [loseWork_view, address_of_findEntry he]
      rfl
    · rw [applyConflict_present (s := removeHead (s.atInstant t)) he, ← address_of_findEntry he]
      exact loseEntry_queued hlost (removeHead (s.atInstant t))
    · rw [applyConflict_absent (s := removeHead (s.atInstant t)) hnone]
      exact ⟨rfl, rfl, rfl⟩

/-! ## Deadlines of an entry -/

theorem exec_next {c : Instr} {v u : State} (hexec : exec c s = .next v) (h : v = u) : exec c s = .next u := h ▸ hexec

theorem lateExpiry_present {a : Nat} {e : Entry} (h : findEntry s.view a = some e) (hp : e.status = .present) :
    lateExpiry a s = readUpper { s.atInstant e.lateDue with view := updateEntry s.view a fun x => { x with status := .late } } := by
  unfold lateExpiry
  rw [h]
  exact if_pos hp

theorem lateExpiry_past {a : Nat} {e : Entry} (h : findEntry s.view a = some e) (hp : e.status ≠ .present) : lateExpiry a s = s := by
  unfold lateExpiry
  rw [h]
  exact if_neg hp

theorem lostExpiry_stands {a : Nat} {e : Entry} (h : findEntry s.view a = some e) (hl : e.status ≠ .lost) :
    lostExpiry a s = loseEntry e (s.atInstant (e.lostDue s.inForce.items.silence)) := by
  unfold lostExpiry
  rw [h]
  exact if_neg hl

theorem lostExpiry_past {a : Nat} {e : Entry} (h : findEntry s.view a = some e) (hl : e.status = .lost) : lostExpiry a s = s := by
  unfold lostExpiry
  rw [h]
  exact if_pos hl

theorem holdExpiry_stands {a d : Nat} {e : Entry} (h : findEntry s.view a = some e) (hl : e.status = .lost) (hd : e.holdEnd = some d) :
    holdExpiry a s = readUpper (freeWork a (s.atInstant d)) := by
  unfold holdExpiry
  rw [h]
  dsimp only
  rw [hl, hd]
  rfl

/-- The period of an entry from its own code (1.4). -/
theorem q_eq {e : Entry} {q : Nat} (htrain : ∀ f, e.fields = .train f → q = (f.vcode + 1) * 50)
    (hstore : ∀ f, e.fields = .store f → q = (f.vcode + 1) * 50) : e.q = q := by
  unfold Entry.q
  split
  · next f hf => exact (htrain f hf).symm
  · next f hf => exact (hstore f hf).symm

theorem readUpper_now (s : State) : (readUpper s).now = s.now := by simp

theorem loseWork_now (e : Entry) (s : State) : (loseWork e s).now = s.now := by
  unfold loseWork
  dsimp only
  split <;> rfl

theorem freeWork_now (a : Nat) (s : State) : (freeWork a s).now = s.now := by simp [freeWork]

theorem freeWork_view (a : Nat) (s : State) : (freeWork a s).view = s.view.filter fun x => x.address ≠ a := by
  have hdrop := accountDrop_sameBut a s.now (produce (.peerDropped a) { s with view := s.view.filter fun e => e.address != a })
  refine (hdrop .view (by decide)).trans (List.filter_congr fun x _ => ?_)
  simp [bne, Bool.beq_eq_decide_eq]

theorem freeWork_produces (a : Nat) (s : State) : Produces [.peerDropped a] s (freeWork a s) := by
  have hview := produces_of_frame (setView_sameBut (s.view.filter fun e => e.address != a) s) (by decide)
  exact (hview.trans (produces_produce (.peerDropped a) _)).then_sameBut (accountDrop_sameBut a s.now _) (by decide)

theorem freeWork_account (a : Nat) (s : State) : (freeWork a s).account = (accountDrop a s.now s).account := by
  have hput := accountDrop_congr (s := s) (v := produce (.peerDropped a) { s with view := s.view.filter fun e => e.address != a }) rfl a s.now
  exact hput

/-- After an address's point ends there is none of its address (R138, R139). -/
theorem accountDrop_points (a upto : Nat) (s : State) :
    (accountDrop a upto s).account.peerPoints = s.account.peerPoints.filter fun q => q.address ≠ a := by
  have hfilter (ps : List PeerPoint) : dropPoint ps a = ps.filter fun q => q.address ≠ a := by
    simp [dropPoint, bne, Bool.beq_eq_decide_eq]
  unfold accountDrop
  split
  · next hnone =>
    refine (List.filter_eq_self.mpr fun p hp => ?_).symm
    simpa using List.find?_eq_none.mp hnone p hp
  · exact hfilter _

theorem freeWork_points (a : Nat) (s : State) :
    (freeWork a s).account.peerPoints = s.account.peerPoints.filter fun q => q.address ≠ a := by
  rw [freeWork_account, accountDrop_points]

/-- A read of U leaves the points, or discards them with the end of a leave. -/
theorem readUpper_points (s : State) :
    (readUpper s).account.peerPoints = s.account.peerPoints ∨ (readUpper s).account.peerPoints = [] := by
  obtain hread | ⟨-, -, v, -, -, hend⟩ := readUpper_frame s
  · exact .inl (hread .peerPoints (by decide))
  · exact .inr (by rw [hend]; rfl)

/-- Settles O38: each deadline that stands is a change of the table and a read of U. -/
theorem entriesAge : Obligations.EntriesAge := by
  intro s a q e _ he htrain hstore
  have hq : e.q = q := q_eq htrain hstore
  have ha := address_of_findEntry he
  refine ⟨fun hp => ?_, fun hp => congrArg _ (lateExpiry_past he hp), fun hl => ?_, fun hl => congrArg _ (lostExpiry_past he hl),
    fun d hd hl => ?_⟩
  · have hexec := exec_next (c := .lateDeadline a) (s := s) rfl (lateExpiry_present he hp)
    obtain ⟨hview, hcut⟩ := readUpper_view (setView_sameBut (updateEntry s.view a fun x => { x with status := .late })
      (s.atInstant e.lateDue)) (by decide) rfl
    refine ⟨_, hexec, (readUpper_now _).trans ?_, ⟨_, updateEntry_eq _ _ _, hview, hcut⟩,
      exec_command_le (.lateDeadline a) s _ (fun h => nomatch h) hexec⟩
    rw [← hq]
    rfl
  · have hexec := exec_next (c := .lostDeadline a) (s := s) rfl (lostExpiry_stands he hl)
    have hdue : e.lostDue s.inForce.items.silence = e.arrival + (s.inForce.items.silence + 2) * q := by rw [Entry.lostDue, hq]
    rw [hdue] at hexec
    obtain ⟨hview, hcut⟩ := readUpper_view (loseWork_sameBut e
      (s.atInstant (e.arrival + (s.inForce.items.silence + 2) * q))) (by decide) (loseWork_view e _)
    have hqueued := loseEntry_queued hl (s.atInstant (e.arrival + (s.inForce.items.silence + 2) * q))
    rw [ha] at hview hcut hqueued
    refine ⟨_, hexec, ?_, ⟨_, updateEntry_eq _ _ _, hview, hcut⟩, hqueued,
      exec_command_le (.lostDeadline a) s _ (fun h => nomatch h) hexec⟩
    rw [loseEntry_eq, readUpper_now, loseWork_now]
    rfl
  · have hexec := exec_next (c := .lostHoldExpiry a) (s := s) rfl (holdExpiry_stands he hl hd)
    have hwork := freeWork_sameBut a (s.atInstant d)
    obtain ⟨hview, hcut⟩ := readUpper_view hwork (by decide) (freeWork_view a _)
    have hpoints := freeWork_points a (s.atInstant d)
    obtain ⟨rs, hread⟩ := readUpper_reports (freeWork a (s.atInstant d))
    refine ⟨_, hexec, ?_, ⟨_, rfl, hview, hcut⟩, fun p hp => ?_, fun hu => ?_, ((freeWork_produces a _).trans hread).queued,
      exec_command_le (.lostHoldExpiry a) s _ (fun h => nomatch h) hexec⟩
    · rw [readUpper_now, freeWork_now]
      rfl
    · obtain h | h := readUpper_points (freeWork a (s.atInstant d)) <;> rw [h] at hp
      · rw [hpoints] at hp
        simpa using (List.mem_filter.mp hp).2
      · cases hp
    · have haccount := (readUpper_rest hu).2.2
      have hdropped := haccount.trans (freeWork_account a (s.atInstant d))
      refine ⟨(congrArg Account.openRec haccount).trans (hwork .openRecord (by decide)), (congrArg Account.peerPoints haccount).trans hpoints,
        fun p hp hpa => ?_, fun hnone => ?_⟩
      · rw [← hpa] at hdropped ⊢
        exact (accountDrop_only (s := s.atInstant d) hp _).1.congr hdropped
      · rw [accountDrop_unpointed (s := s.atInstant d) hnone] at hdropped
        exact ⟨(congrArg Account.plantAcc hdropped).trans (by simp), congrArg Account.ownAcc hdropped⟩

end Sys2Proof.Machine
end

section
/-! PROOFS. The status timer (R1 to R3, R91). -/

namespace Sys2Proof.Machine

variable {s : State}

theorem statusExpiry_eq {d : Nat} (hd : s.bus.statusTimer = some d) : statusExpiry s = statusWork
    { s.atInstant d with bus := { s.bus with statusTimer := some (d + (s.inForce.items.vcode + 1) * 50) } } := by
  unfold statusExpiry
  rw [hd]
  rfl

theorem statusWork_builds (h : s.isStore = false ∨ s.seq.state ≠ .leaving) : statusWork s = buildStatus s := by
  unfold statusWork
  rw [if_neg (by rintro hboth; obtain h | h := h <;> simp_all)]

theorem statusWork_leaving (hstore : s.isStore = true) (hl : s.seq.state = .leaving) : statusWork s =
    if 3 ≤ s.seq.leaveCount + 1 then endLeave { s with seq := { s.seq with leaveCount := s.seq.leaveCount + 1 } }
    else buildStatus { s with seq := { s.seq with leaveCount := s.seq.leaveCount + 1 } } := by
  unfold statusWork
  rw [if_pos (by simp [hstore, hl])]
  rfl

/-- A store builds its frame from what it is, and reads no U (R3). -/
theorem buildStatus_store (h : s.isStore = true) : buildStatus s = { s with bus := { s.bus with
    pendingStatus := some ⟨s.inForce.address, some s.seq.state, .store (storeFieldsNow s)⟩ } } := by
  have hread : readUAtBuild s = s := by simp [readUAtBuild, isTrain_of_isStore h]
  have hfields : (if s.isStore = true then Fields.store (storeFieldsNow s) else .train (trainFieldsNow s)) = .store (storeFieldsNow s) := if_pos h
  unfold buildStatus statusNow
  rw [hread]
  dsimp only
  rw [hfields]

/-- A train builds its frame with the U that it reads at the building (R2). -/
theorem buildStatus_train (h : s.isTrain = true) : buildStatus s = { readU s with bus := { s.bus with
    pendingStatus := some ⟨s.inForce.address, some s.seq.state, .train (trainFieldsNow (readU s))⟩ } } := by
  have hread : readUAtBuild s = readU s := if_pos h
  have hstore : (readU s).isStore = false := isStore_of_isTrain (s := readU s) h
  have hfields : (if (readU s).isStore = true then Fields.store (storeFieldsNow (readU s)) else .train (trainFieldsNow (readU s))) =
      .train (trainFieldsNow (readU s)) := if_neg (by simp [hstore])
  unfold buildStatus statusNow
  rw [hread]
  dsimp only
  rw [hfields]
  rfl

theorem upperLimit_readU (s : State) : upperLimit (readU s) = upperLimit s := upperLimit_congr rfl rfl rfl rfl rfl

theorem trainFieldsNow_readU {k : Kind} (h : s.inForce.kind = some k) : trainFieldsNow (readU s) = {
    kind := k, cavern := s.inForce.cavern, linked := s.inForce.items.linked, held := s.book.held.isSome, cooled := s.heat.cooled
    available := (readU s).seq.available, clockFree := s.clock.free, vcode := s.inForce.items.vcode
    interval := s.clock.current.getD 4294967295, target := s.book.target, command := s.share.command
    output := (heldOutput s).getD 0, massFlow := (heldMassFlow s).getD 0, heatFlow := heatFlow s, upper := upperLimit s
    minLoad := s.inForce.minLoad } := by
  have hkind : (readU s).ownKind = k := by rw [State.ownKind]; exact congrArg (Option.getD · Kind.H) h
  rw [trainFieldsNow, hkind, upperLimit_readU]
  rfl

theorem storeFieldsNow_eq (s : State) : storeFieldsNow s = {
    monitorActive := allMonitors.any fun m => decide ((s.bank.monitor m).cond = .active ∨ (s.bank.monitor m).cond = .latched)
    stale := s.link.staleMark, vcode := s.inForce.items.vcode, charge := s.heat.pubCharge, discharge := s.heat.pubDischarge
    outlet := s.heat.outlet, hotZones := s.heat.hotZones } := by
  have hactive : monitorActive s = allMonitors.any fun m =>
      decide ((s.bank.monitor m).cond = .active ∨ (s.bank.monitor m).cond = .latched) := by
    unfold monitorActive
    congr 1
    funext m
    rw [Bool.decide_or]
    rfl
  rw [storeFieldsNow, hactive]

/-- The third expiry of a store's leave is the end of it, with no cut report and no SETPOINT (R91, R113). -/
theorem endLeave_ofStore (h : s.isStore = true) : (endLeave s).bus.pendingAlert = some ⟨s.inForce.address, .leave, {}⟩ := by
  have hcut : cutReport s = {} := by simp [cutReport, isTrain_of_isStore h]
  rw [endLeave_alert, hcut]

/-- The station at the expiry of its status timer, which runs on (R1). -/
def statusDue (d : Nat) (s : State) : State :=
  { s.atInstant d with bus := { s.bus with statusTimer := some (d + (s.inForce.items.vcode + 1) * 50) } }

theorem exec_statusTimerExpiry {d : Nat} (hd : s.bus.statusTimer = some d) :
    exec .statusTimerExpiry s = .next (statusWork (statusDue d s)) := congrArg _ (statusExpiry_eq hd)

/-- Settles O40: the frame of a train, the frame of a store, and the end of a store's leave. -/
theorem statusTimerBuildsFrame : Obligations.StatusTimerBuildsFrame := by
  intro s d hd
  refine ⟨fun k hk hne => ?_, fun hstore hcount => ?_, fun hstore hl hcount => ?_⟩
  · have hstore : s.isStore = false := by simp [State.isStore, hk, hne]
    have htrain : s.isTrain = true := by cases k <;> simp_all [State.isTrain]
    have hbuild := (statusWork_builds (s := statusDue d s) (.inl hstore)).trans (buildStatus_train (s := statusDue d s) htrain)
    rw [trainFieldsNow_readU (s := statusDue d s) hk, upperLimit_congr (s := s) (u := statusDue d s) rfl rfl rfl rfl rfl] at hbuild
    have hlimit : upperLimit (statusDue d s) = upperLimit s := upperLimit_congr rfl rfl rfl rfl rfl
    refine ⟨_, (exec_statusTimerExpiry hd).trans (congrArg _ hbuild), rfl, rfl, rfl, readU_law (statusDue d s), ?_⟩
    rw [← hlimit]
    rfl
  · have hstep (n : Nat) : buildStatus { statusDue d s with seq := { s.seq with leaveCount := n } } = _ :=
      buildStatus_store (s := { statusDue d s with seq := { s.seq with leaveCount := n } }) hstore
    simp only [storeFieldsNow_eq] at hstep
    refine ⟨_, exec_statusTimerExpiry hd, ?_⟩
    by_cases hl : s.seq.state = .leaving
    · have hfew : ¬ 3 ≤ (statusDue d s).seq.leaveCount + 1 := by
        obtain hne | hlt := hcount
        · exact absurd hl hne
        · exact Nat.not_le.mpr (Nat.succ_lt_succ hlt)
      rw [statusWork_leaving (s := statusDue d s) hstore hl, if_neg hfew, if_pos hl]
      exact hstep _
    · rw [statusWork_builds (s := statusDue d s) (.inr hl), if_neg hl]
      exact hstep _
  · have hmany : 3 ≤ (statusDue d s).seq.leaveCount + 1 := Nat.succ_le_succ hcount
    have hstep := (statusWork_leaving (s := statusDue d s) hstore hl).trans (if_pos hmany)
    refine ⟨_, (exec_statusTimerExpiry hd).trans (congrArg _ hstep), rfl, rfl, rfl, endLeave_ofStore hstore, rfl, rfl, ?_⟩
    have hqueued := (endLeave_produces { statusDue d s with seq := { s.seq with leaveCount := s.seq.leaveCount + 1 } }).queued
    have hqueued : Queued s _ (.stateChange s.seq.state .offline .leaveEnd) := hqueued
    rwa [hl] at hqueued

end Sys2Proof.Machine
end

section
/-! PROOFS. The control period expiry (R46, R48, R53, R61 to R66, R141): the command, the SETPOINT and the open record that it leaves. -/

namespace Sys2Proof.Machine

variable {s : State}

/-! ## The station at its share computation -/

/-- The station of a control period expiry at its share computation: after the book's stage and the read of U (R48). -/
def atRead (d : Nat) (s : State) : State := readAtExpiry (bookExpiry (expiring d s))

theorem expiryStages_expiring (k : Kind) (d : Nat) (s : State) :
    expiryStages k (expiring d s) = sendSetpoint (expiryWork k (atRead d s)) := rfl

/-- The parts that the first two stages of an expiry may change. -/
def readoutParts : List Part := [.shareTimer, .target, .agreement, .openRecord, .reports, .cooled, .available, .lastU]

theorem atRead_sameBut (d : Nat) (s : State) : SameBut readoutParts s (atRead d s) := by
  have htimer : SameBut [.shareTimer] s (expiring d s) :=
    (atInstant_sameBut d s).comp (setShareTimer_sameBut (some (d + s.inForce.p)) (s.atInstant d)) (by decide)
  have hbook := htimer.comp (bookExpiry_sameBut _) (List.Subset.refl _)
  exact hbook.comp (readAtExpiry_sameBut _) (by decide)

theorem atRead_now (d : Nat) (s : State) : (atRead d s).now = max s.now d := by simp [atRead, expiring, State.atInstant]

theorem atRead_timer (d : Nat) (s : State) : (atRead d s).share.timer = some (d + (s.inForce.items.vcode + 1) * 50) := by
  simp [atRead, expiring, InForce.p, periodOf]

theorem atRead_state (d : Nat) (s : State) : (atRead d s).seq.state = s.seq.state := (atRead_sameBut d s).state (by decide)

theorem atRead_command (d : Nat) (s : State) : (atRead d s).share.command = s.share.command := atRead_sameBut d s .command (by decide)

theorem atRead_inForce (d : Nat) (s : State) : (atRead d s).inForce = s.inForce := (atRead_sameBut d s).inForce (by decide)

theorem atRead_lastU (d : Nat) (s : State) : (atRead d s).share.lastU = upperLimit (atRead d s) := (upperLimit_readU _).symm

theorem atRead_available (d : Nat) (s : State) : AvailableLaw (atRead d s) := readU_law _

theorem deriveAtExpiry_target (s : State) : (deriveAtExpiry s).book.target = deriveTarget s.book s.clock.current := by
  unfold deriveAtExpiry
  dsimp only
  split
  · rw [noteTarget_book]
  · simp

theorem stepAgreement_target (s : State) : (stepAgreement s).book.target = s.book.target := by simp

theorem atRead_target (d : Nat) (s : State) : (atRead d s).book.target = deriveTarget s.book s.clock.current := by
  have hread : (atRead d s).book.target = (bookExpiry (expiring d s)).book.target := readAtExpiry_sameBut _ .target (by decide)
  rw [hread, bookExpiry, stepAgreement_target, deriveAtExpiry_target]
  rfl

/-- A compressor decides its mode at the read; on an expander the flag stays (R98). -/
theorem atRead_cooled (d : Nat) (s : State) :
    (atRead d s).heat.cooled = if s.inForce.kind = some .C then wantsCooled s else s.heat.cooled := by
  have hbook : SameBut readoutParts s (bookExpiry (expiring d s)) :=
    ((atInstant_sameBut d s).comp (setShareTimer_sameBut (some (d + s.inForce.p)) (s.atInstant d)) (List.Subset.refl _)).comp
      (bookExpiry_sameBut _) (by decide)
  have hwants : wantsCooled (bookExpiry (expiring d s)) = wantsCooled s := by
    have hforce := hbook.inForce (by decide)
    have hview : _ = s.view := hbook .view (by decide)
    unfold wantsCooled storeCapC linkedStore heatReservation State.ownKind
    rw [hforce, hview]
  have hcooled : (bookExpiry (expiring d s)).heat.cooled = s.heat.cooled := by simp [expiring]
  have hread : (atRead d s).heat.cooled = (decideMode (bookExpiry (expiring d s))).heat.cooled := readU_sameBut _ .cooled (by decide)
  rw [hread, decideMode_cooled, hwants, hcooled, hbook.inForce (by decide)]

/-! ## The work after it -/

theorem expiryWork_loaded {k : Kind} (h : s.seq.state.loaded = true) : expiryWork k s = loadedExpiry k s := if_pos h

theorem expiryWork_standby {k : Kind} (h : s.seq.state = .standby) : expiryWork k s = standbyExpiry k s := by
  unfold expiryWork
  rw [if_neg (by simp [h, StationState.loaded]), if_pos h]

theorem expiryWork_idle {k : Kind} (hl : s.seq.state.loaded = false) (h : s.seq.state ≠ .standby) : expiryWork k s = s := by
  unfold expiryWork
  rw [if_neg (by simp [hl]), if_neg h]

/-- The new command of a train in LEAVING is 0 from a command above it: the leave ends (R66, R113). -/
theorem loadedExpiry_ends {k : Kind} (hl : s.seq.state = .leaving) (hc : newCommand s k = 0) (h0 : s.share.command ≠ 0) :
    loadedExpiry k s = endLeave { notePeriod s with share := { s.share with command := 0 } } := by
  rw [loadedExpiry, hc, setCommand_ends (s := notePeriod s) hl h0]
  rfl

/-- Otherwise a computation changes the command and what follows it (R66, R110, R141). -/
theorem loadedExpiry_stays {k : Kind} (h : ¬ (s.seq.state = .leaving ∧ newCommand s k = 0 ∧ s.share.command ≠ 0)) :
    SameBut [.command, .lastLoaded, .standbyTimer, .openRecord] s (loadedExpiry k s) := by
  have hperiod := notePeriod_sameBut s
  by_cases hc : newCommand s k = s.share.command
  · have hsame : loadedExpiry k s = notePeriod s := (congrArg (setCommand · _) hc).trans (setCommand_same (notePeriod s))
    rw [hsame]
    exact hperiod.mono (by decide)
  · have hstays : ¬ ((notePeriod s).seq.state = .leaving ∧ newCommand s k = 0) := fun hend =>
      h ⟨hend.1, hend.2, fun h0 => hc (hend.2.trans h0.symm)⟩
    exact hperiod.comp (setCommand_sameBut hstays) (by decide)

/-- The parts that the work of an expiry may change where no leave ends. -/
def stayParts : List Part := [.command, .lastLoaded, .standbyTimer, .openRecord, .wake, .startTimer, .state, .reports, .available]

/-- The work of an expiry ends a leave, or stays within its parts. -/
theorem expiryWork_cases (k : Kind) (s : State) :
    (s.seq.state = .leaving ∧ newCommand s k = 0 ∧ s.share.command ≠ 0
      ∧ expiryWork k s = endLeave { notePeriod s with share := { s.share with command := 0 } })
    ∨ SameBut stayParts s (expiryWork k s) := by
  by_cases hend : s.seq.state = .leaving ∧ newCommand s k = 0 ∧ s.share.command ≠ 0
  · obtain ⟨hl, hc, h0⟩ := hend
    exact .inl ⟨hl, hc, h0, (expiryWork_loaded (by rw [hl]; rfl)).trans (loadedExpiry_ends hl hc h0)⟩
  · refine .inr ?_
    by_cases hl : s.seq.state.loaded = true
    · rw [expiryWork_loaded hl]
      exact (loadedExpiry_stays hend).mono (by decide)
    · by_cases hs : s.seq.state = .standby
      · rw [expiryWork_standby hs]
        exact (standbyExpiry_sameBut k s).mono (by decide)
      · rw [expiryWork_idle (by simpa using hl) hs]
        exact .refl _ s

/-- The work of an expiry reaches OFFLINE by the end of a leave alone (R113). -/
theorem expiryWork_offline {k : Kind} (hs : s.seq.state ≠ .offline) (h : (expiryWork k s).seq.state = .offline) :
    s.seq.state = .leaving ∧ expiryWork k s = endLeave { notePeriod s with share := { s.share with command := 0 } } := by
  by_cases hl : s.seq.state.loaded = true
  · rw [expiryWork_loaded hl] at h ⊢
    by_cases hend : s.seq.state = .leaving ∧ newCommand s k = 0 ∧ s.share.command ≠ 0
    · exact ⟨hend.1, loadedExpiry_ends hend.1 hend.2.1 hend.2.2⟩
    · exact absurd ((loadedExpiry_stays hend).state (by decide) ▸ h) hs
  · by_cases hstandby : s.seq.state = .standby
    · rw [expiryWork_standby hstandby] at h
      have hstarts : (standbyExpiry k s).seq.state = .starting ∨ (standbyExpiry k s).seq.state = s.seq.state := by
        unfold standbyExpiry
        dsimp only
        split
        · exact .inl rfl
        · exact .inr rfl
      rw [h] at hstarts
      obtain h | h := hstarts
      · cases h
      · exact absurd h.symm hs
    · rw [expiryWork_idle (by simpa using hl) hstandby] at h
      exact absurd h hs

theorem expiryWork_lastU (k : Kind) (s : State) : (expiryWork k s).share.lastU = s.share.lastU := by
  obtain ⟨-, -, -, hend⟩ | hstays := expiryWork_cases k s
  · rw [hend]
    rfl
  · exact hstays .lastU (by decide)

theorem expiryWork_target (k : Kind) (s : State) : (expiryWork k s).book.target = s.book.target := by
  obtain ⟨-, -, -, hend⟩ | hstays := expiryWork_cases k s
  · rw [hend]
    rfl
  · exact hstays .target (by decide)

theorem standbyExpiry_now (k : Kind) (s : State) : (standbyExpiry k s).now = s.now := by
  unfold standbyExpiry
  dsimp only
  split <;> rfl

theorem expiryWork_now (k : Kind) (s : State) : (expiryWork k s).now = s.now := by
  unfold expiryWork
  split
  · simp
  · split
    · exact standbyExpiry_now k s
    · rfl

/-- Out of RUNNING and LEAVING the command stays, or a start takes it to 0 (R47, R109). -/
theorem expiryWork_command_idle {k : Kind} (hl : s.seq.state.loaded = false) :
    (expiryWork k s).share.command = s.share.command ∨ (expiryWork k s).share.command = 0 := by
  by_cases hs : s.seq.state = .standby
  · rw [expiryWork_standby hs]
    unfold standbyExpiry
    dsimp only
    split
    · exact .inr rfl
    · exact .inl rfl
  · rw [expiryWork_idle hl hs]
    exact .inl rfl

/-! ## The command -/

/-- A train in LEAVING, or out of direction, steps down (R53, R63). -/
theorem newCommand_outOfDirection {k : Kind} (h : inDirection s k = false) : newCommand s k =
    min s.share.lastU (if s.share.command ≤ s.inForce.minLoad + s.inForce.rampStep then 0 else s.share.command - s.inForce.rampStep) := by
  have hstep : stepDown s.share.command s.inForce.rampStep s.inForce.minLoad =
      if s.share.command ≤ s.inForce.minLoad + s.inForce.rampStep then 0 else s.share.command - s.inForce.rampStep := by
    unfold stepDown
    split <;> split <;> omega
  rw [newCommand, if_neg (by simp [h]), hstep]
  rfl

theorem inDirection_leaving {k : Kind} (h : s.seq.state = .leaving) : inDirection s k = false := by simp [inDirection, h]

theorem inDirection_outOfTarget {k : Kind} (hC : k = .C → ∀ v, s.book.target = some v → 0 ≤ v)
    (hX : k = .X → ∀ v, s.book.target = some v → v ≤ 0) (hH : k ≠ .H) : inDirection s k = false := by
  have hdirection : direction s.book.target ≠ some k := by
    unfold direction
    split
    · exact fun h => nomatch h
    · next v hv =>
      cases k with
      | C => rw [if_neg (by have := hC rfl v hv; omega)]; split <;> decide
      | X =>
        have hle := hX rfl v hv
        split
        · decide
        · rw [if_neg (by omega)]
          decide
      | H => exact absurd rfl hH
  simp [inDirection, hdirection]

theorem sendSetpoint_share (s : State) : (sendSetpoint s).share = s.share := rfl

/-! ## The open record -/

theorem noteTarget_openRec (t : Option Int) (s : State) : (noteTarget t s).account.openRec =
    s.account.openRec.map fun o => { o with target := t.getD o.target } := by
  cases t with
  | none => cases h : s.account.openRec <;> simp [noteTarget, h]
  | some v => rfl

theorem deriveAtExpiry_openRec (s : State) : (deriveAtExpiry s).account.openRec =
    s.account.openRec.map fun o => { o with target := (deriveTarget s.book s.clock.current).getD o.target } := by
  unfold deriveAtExpiry
  dsimp only
  split
  · exact noteTarget_openRec _ _
  · rw [judge_account]
    exact noteTarget_openRec _ _

theorem judge_book (s : State) : (judge s).book = s.book ∨ ∃ i, (judge s).book = s.book.judged s.view i := by
  have hwith : (judgeWith s).1.book = s.book ∨ ∃ i, (judgeWith s).1.book = s.book.judged s.view i := by
    unfold judgeWith
    split
    · exact .inl rfl
    · next i _ =>
      split
      · exact .inr ⟨i, rfl⟩
      · exact .inl rfl
  obtain h | ⟨r, h⟩ := judge_cases s <;> rw [h] <;> exact hwith

/-- HELD at a judgement: none stays none, and a judgement that disagrees leaves none only where there was none (R42, R43). -/
theorem judged_held (b : Book) (view : List Entry) (i : Nat) : (b.held = none → (b.judged view i).held = none)
    ∧ ((b.judged view i).agree = false → (b.judged view i).held = none → b.held = none) := by
  obtain ⟨-, -, -, hyes, hno, -⟩ := judged_spec b view i
  refine ⟨fun h => ?_, fun ha h => ?_⟩
  · cases ha : (b.judged view i).agree with
    | true => exact (hyes ha).1
    | false => rw [(hno ha).1, h]; rfl
  · rw [(hno ha).1] at h
    exact Option.map_eq_none_iff.mp h

theorem deriveAtExpiry_held (s : State) : (s.book.held = none → (deriveAtExpiry s).book.held = none)
    ∧ ((deriveAtExpiry s).book.agree = false → (deriveAtExpiry s).book.held = none → s.book.held = none) := by
  unfold deriveAtExpiry
  dsimp only
  split
  · rw [noteTarget_book]
    exact ⟨fun h => h, fun _ h => h⟩
  · obtain h | ⟨i, h⟩ := judge_book (noteTarget (deriveTarget s.book s.clock.current)
        { s with book := { s.book with target := deriveTarget s.book s.clock.current } }) <;> rw [h, noteTarget_book]
    · exact ⟨fun h => h, fun _ h => h⟩
    · exact judged_held { s.book with target := deriveTarget s.book s.clock.current } _ i

/-- The counts of an expiry set HELD with HELD SEEN, or leave both (R42, R141). -/
theorem stepAgreement_held (s : State) :
    ((stepAgreement s).book.held = s.book.held ∧ (stepAgreement s).account.openRec = s.account.openRec)
    ∨ (s.book.agree = false ∧ s.book.held = none ∧ (stepAgreement s).book.held = some .disagree
      ∧ (stepAgreement s).account.openRec = s.account.openRec.map fun o => { o with heldSeen := true }) := by
  by_cases h0 : s.book.settle = 0
  · by_cases ha : s.book.agree = true
    · rw [stepAgreement_agree h0 ha]
      exact .inl ⟨rfl, rfl⟩
    · have ha : s.book.agree = false := by simpa using ha
      by_cases hcounts : s.book.persistence + 1 < 3 ∨ s.book.held ≠ none
      · rw [stepAgreement_counts h0 ha hcounts]
        exact .inl ⟨rfl, rfl⟩
      · obtain ⟨hp, hheld⟩ := not_or.mp hcounts
        have hheld : s.book.held = none := by simpa using hheld
        rw [stepAgreement_holds h0 ha (by omega) hheld]
        exact .inr ⟨ha, hheld, rfl, rfl⟩
  · rw [stepAgreement_settling (Nat.pos_of_ne_zero h0)]
    exact .inl ⟨rfl, rfl⟩

/-- The open record after the book's stage: the derived target, and HELD SEEN where this expiry set HELD (R38, R42, R141). -/
theorem bookExpiry_openRec {o : OpenRecord} (h : s.account.openRec = some o) : ∃ seen, (bookExpiry s).account.openRec =
      some { o with target := (deriveTarget s.book s.clock.current).getD o.target, heldSeen := seen }
    ∧ (seen = true ↔ o.heldSeen = true ∨ (s.book.held = none ∧ (bookExpiry s).book.held ≠ none)) := by
  have hopen := deriveAtExpiry_openRec s
  rw [h] at hopen
  obtain ⟨hkeeps, hback⟩ := deriveAtExpiry_held s
  unfold bookExpiry
  obtain ⟨hheld, hrec⟩ | ⟨ha, hnone, hheld, hrec⟩ := stepAgreement_held (deriveAtExpiry s)
  · refine ⟨o.heldSeen, hrec.trans hopen, fun hseen => .inl hseen, fun hor => ?_⟩
    obtain hseen | ⟨hnone, hsome⟩ := hor
    · exact hseen
    · exact absurd (hheld.trans (hkeeps hnone)) hsome
  · refine ⟨true, hrec.trans (congrArg (Option.map _) hopen), fun _ => .inr ⟨hback ha hnone, ?_⟩, fun _ => rfl⟩
    rw [hheld]
    exact Option.some_ne_none _

theorem bookExpiry_openRec_none (h : s.account.openRec = none) : (bookExpiry s).account.openRec = none := by
  have hopen := deriveAtExpiry_openRec s
  rw [h] at hopen
  unfold bookExpiry
  obtain ⟨-, hrec⟩ | ⟨-, -, -, hrec⟩ := stepAgreement_held (deriveAtExpiry s)
  · exact hrec.trans hopen
  · exact hrec.trans (congrArg (Option.map _) hopen)

theorem atRead_openRec (d : Nat) (s : State) : (atRead d s).account.openRec = (bookExpiry (expiring d s)).account.openRec :=
  readAtExpiry_sameBut _ .openRecord (by decide)

theorem atRead_book (d : Nat) (s : State) : (atRead d s).book = (bookExpiry (expiring d s)).book :=
  (readAtExpiry_sameBut _).book (by decide)

/-- The open record after the work of an expiry: its period counted in RUNNING and LEAVING, a cut report where the leave ends (R139, R141). -/
theorem expiryWork_openRec (k : Kind) (s : State) : ∃ cut : Option NotedCut → Option NotedCut, (expiryWork k s).account.openRec =
      s.account.openRec.map (fun o => { o with periods := o.periods + (if s.seq.state.loaded then 1 else 0), cut := cut o.cut })
    ∧ ((expiryWork k s).seq.state ≠ .offline → cut = id) := by
  by_cases hl : s.seq.state.loaded = true
  · rw [expiryWork_loaded hl, if_pos hl]
    by_cases hend : s.seq.state = .leaving ∧ newCommand s k = 0 ∧ s.share.command ≠ 0
    · rw [loadedExpiry_ends hend.1 hend.2.1 hend.2.2, endLeave_openRec]
      exact ⟨fun _ => some ⟨.leave, _⟩, Option.map_map _ _ _, fun hon => absurd rfl hon⟩
    · have hon : (loadedExpiry k s).seq.state ≠ .offline := fun hoff => by
        rw [(loadedExpiry_stays hend).state (by decide)] at hoff
        rw [hoff] at hl
        cases hl
      exact ⟨id, (loadedExpiry_rest hon).2, fun _ => rfl⟩
  · refine ⟨id, ?_, fun _ => rfl⟩
    rw [if_neg hl]
    have hsame : (expiryWork k s).account.openRec = s.account.openRec := by
      by_cases hs : s.seq.state = .standby
      · rw [expiryWork_standby hs]
        exact standbyExpiry_sameBut k s .openRecord (by decide)
      · rw [expiryWork_idle (by simpa using hl) hs]
    rw [hsame]
    cases s.account.openRec <;> rfl

/-- The last loaded interval follows a new command above 0 (R66). -/
theorem expiryWork_lastLoaded (k : Kind) (s : State) : (expiryWork k s).share.lastLoaded =
    if (expiryWork k s).share.command ≠ s.share.command ∧ (expiryWork k s).share.command ≠ 0 ∧ s.clock.current ≠ none then s.clock.current
    else s.share.lastLoaded := by
  by_cases hl : s.seq.state.loaded = true
  · rw [expiryWork_loaded hl, loadedExpiry_command]
    by_cases hend : s.seq.state = .leaving ∧ newCommand s k = 0 ∧ s.share.command ≠ 0
    · rw [loadedExpiry_ends hend.1 hend.2.1 hend.2.2, if_neg (by simp [hend.2.1])]
      rfl
    · by_cases hc : newCommand s k = s.share.command
      · have hsame : loadedExpiry k s = notePeriod s := (congrArg (setCommand · _) hc).trans (setCommand_same (notePeriod s))
        rw [hsame, if_neg (by simp [hc])]
        rfl
      · have hstays : ¬ ((notePeriod s).seq.state = .leaving ∧ newCommand s k = 0) := fun hzero =>
          hend ⟨hzero.1, hzero.2, fun h0 => hc (hzero.2.trans h0.symm)⟩
        have hset : (loadedExpiry k s).share.lastLoaded = if newCommand s k ≠ 0 ∧ s.clock.current ≠ none then s.clock.current
            else s.share.lastLoaded := congrArg (fun v => v.share.lastLoaded) (setCommand_stays (s := notePeriod s) hc hstays)
        rw [hset]
        simp only [hc, ne_eq, not_false_eq_true, true_and]
  · have hidle : s.seq.state.loaded = false := by simpa using hl
    have hkept : (expiryWork k s).share.lastLoaded = s.share.lastLoaded := by
      by_cases hs : s.seq.state = .standby
      · rw [expiryWork_standby hs]
        exact standbyExpiry_sameBut k s .lastLoaded (by decide)
      · rw [expiryWork_idle hidle hs]
    have hcommand := expiryWork_command_idle (k := k) hidle
    rw [hkept, if_neg (by grind)]

/-- The command after the work of an expiry: 0, or from m to the U read (R49, R63). -/
theorem expiryWork_settable {d : Nat} (k : Kind) (h : CommandLaw s) :
    Settable s.inForce.minLoad (atRead d s).share.lastU (expiryWork k (atRead d s)).share.command := by
  have hcommand := atRead_command d s
  by_cases hl : (atRead d s).seq.state.loaded = true
  · have hsettable := newCommand_settable (s := atRead d s) k (by rw [atRead_lastU]; exact upperLimit_zero_or_ge _)
      (by rw [hcommand, atRead_inForce]; exact h.zero_or_ge)
    rw [expiryWork_loaded hl, loadedExpiry_command]
    rwa [atRead_inForce] at hsettable
  · have hidle : (atRead d s).seq.state.loaded = false := by simpa using hl
    have h0 : s.share.command = 0 := h.idle (by rwa [atRead_state] at hidle)
    obtain h | h := expiryWork_command_idle (k := k) hidle
    · exact .inl (h.trans (hcommand.trans h0))
    · exact .inl h

/-- Settles O41: the work of the expiry on the station as its read leaves it. -/
theorem controlExpirySendsSetpoint : Obligations.ControlExpirySendsSetpoint := by
  refine ⟨fun s d hd ht hlaw hs => ?_, fun s d k hd hk hH hout => ?_, fun s d hd ht hs => ?_⟩
  · refine exec_controlPeriodExpiry_train hd ht fun k hk => ?_
    have hall := expiryStages_changes k (expiring d s)
    have hread := atRead_sameBut d s
    have hcommand := atRead_command d s
    have hstate := atRead_state d s
    rw [expiryStages_expiring] at hall ⊢
    refine ⟨(expiryWork_now k _).trans (atRead_now d s), fun hon => ?_, fun hoff => ?_, sendSetpoint_setpoint _,
      (expiryWork_target k _).trans (atRead_target d s), ?_, fun hr hl => ?_, fun hl hsmall => ?_, ?_, ?_, ?_, ?_, ?_, ?_, ?_⟩
    · obtain ⟨-, -, -, hend⟩ | hstays := expiryWork_cases k (atRead d s)
      · exact absurd (congrArg (fun v => v.seq.state) hend) hon
      · refine ⟨(hstays .shareTimer (by decide)).trans (atRead_timer d s), ?_⟩
        have hlimit : upperLimit (sendSetpoint (expiryWork k (atRead d s))) = upperLimit (atRead d s) :=
          (hstays.comp (sendSetpoint_sameBut _) (List.Subset.refl _)).upperLimit (by decide)
        rw [hlimit, ← atRead_lastU]
        exact hstays .lastU (by decide)
    · obtain ⟨hl, hend⟩ := expiryWork_offline (by rwa [hstate]) hoff
      rw [hend]
      exact ⟨hstate ▸ hl, rfl, rfl⟩
    · have hsettable := expiryWork_settable (d := d) k hlaw
      rw [← expiryWork_lastU k (atRead d s)] at hsettable
      exact hsettable
    · have hidle : (atRead d s).seq.state.loaded = false := by
        rw [hstate]
        cases hx : s.seq.state <;> simp_all [StationState.loaded]
      have h0 : s.share.command = 0 := hlaw.idle (by rwa [hstate] at hidle)
      obtain h | h := expiryWork_command_idle (k := k) hidle
      · exact h.trans hcommand
      · exact h.trans h0.symm
    · have hleaving : (atRead d s).seq.state = .leaving := hstate.trans hl
      refine (congrArg (fun v => v.share.command) (expiryWork_loaded (by rw [hleaving]; rfl))).trans ?_
      rw [loadedExpiry_command, newCommand_outOfDirection (inDirection_leaving hleaving), hcommand, atRead_inForce, if_pos hsmall,
        Nat.min_zero]
    · exact hall.same (p := .items) (by decide) fun _ _ => by decide
    · exact hall.same (p := .inForce) (by decide) fun _ _ => by decide
    · exact hall.same (p := .clock) (by decide) fun _ _ => by decide
    · exact hall.same (p := .noms) (by decide) fun _ _ => by decide
    · exact hall.same (p := .orders) (by decide) fun _ _ => by decide
    · exact hall.same (p := .permit) (by decide) fun _ _ => by decide
    · exact hall.same (p := .log) (by decide) fun _ _ => by decide
  · have ht : s.isTrain = true := by cases k <;> simp_all [State.isTrain]
    refine exec_controlPeriodExpiry_train hd ht fun k' hk' => ?_
    obtain rfl : k' = k := Option.some.inj (hk'.symm.trans hk)
    have hloaded : (atRead d s).seq.state.loaded = true := by
      rw [atRead_state]
      obtain h | ⟨h, -⟩ := hout <;> rw [h] <;> rfl
    have hdirection : inDirection (atRead d s) k' = false := by
      obtain h | ⟨-, hC, hX⟩ := hout
      · exact inDirection_leaving ((atRead_state d s).trans h)
      · exact inDirection_outOfTarget (by rwa [atRead_target]) (by rwa [atRead_target]) hH
    rw [expiryStages_expiring, sendSetpoint_share, expiryWork_lastU, expiryWork_loaded hloaded, loadedExpiry_command,
      newCommand_outOfDirection hdirection, atRead_command, atRead_inForce]
  · refine exec_controlPeriodExpiry_train hd ht fun k hk => ?_
    rw [expiryStages_expiring]
    obtain ⟨cut, hopen, hcut⟩ := expiryWork_openRec k (atRead d s)
    rw [atRead_openRec] at hopen
    refine ⟨fun hnone => ?_, fun o ho => ?_, ?_⟩
    · have hbefore := bookExpiry_openRec_none (s := expiring d s) hnone
      rw [hbefore] at hopen
      exact hopen
    · obtain ⟨seen, hbefore, hseen⟩ := bookExpiry_openRec (s := expiring d s) ho
      rw [hbefore] at hopen
      refine ⟨_, hopen, rfl, rfl, ?_, rfl, rfl, fun h => hseen.mpr (.inl h), fun hon => ⟨?_, hseen.trans ?_⟩⟩
      · rw [atRead_state]
        cases hx : s.seq.state <;> simp [StationState.loaded]
      · rw [hcut hon]
        rfl
      · have hbook : (sendSetpoint (expiryWork k (atRead d s))).book = (bookExpiry (expiring d s)).book :=
          (expiryWork_rest hon).1.trans (atRead_book d s)
        rw [hbook]
        rfl
    · have hlast := expiryWork_lastLoaded k (atRead d s)
      rw [atRead_command, atRead_sameBut d s .clock (by decide), atRead_sameBut d s .lastLoaded (by decide)] at hlast
      exact hlast

end Sys2Proof.Machine
end

section
/-! PROOFS. The bars to a rise (R64), the wake count and its election (R67, R108, R109), the caps of the upper limit (R49, R72 to R80, R94 to R101). -/

namespace Sys2Proof.Machine

variable {s : State}

/-! ## A rise -/

theorem interlocks_eq_false_iff {k : Kind} (hk : k ≠ .H) (e : Entry) : e.interlocks k = false ↔
    ∀ f, e.fields = .train f → e.relation = .sameCavern → f.kind ≠ k → f.kind ≠ .H → f.command = 0 := by
  have hopposite (x : Kind) : x = k.opposite ↔ x ≠ k ∧ x ≠ .H := by
    cases k <;> cases x <;> simp_all [Kind.opposite]
  unfold Entry.interlocks
  cases hf : e.fields with
  | store f => simp
  | train f =>
    by_cases hr : e.relation = .sameCavern <;> by_cases hc : f.command = 0 <;> simp [hr, hc, hopposite]

/-- The conditions of a rise (R64). -/
theorem mayRise_iff {k : Kind} (hk : k ≠ .H) : mayRise s k = true ↔ s.book.held = none ∧ s.seq.available = true
    ∧ direction s.book.target = some k
    ∧ ∀ e ∈ s.view, ∀ f, e.fields = .train f → e.relation = .sameCavern → f.kind ≠ k → f.kind ≠ .H → f.command = 0 := by
  have hview : (!s.view.any (·.interlocks k)) = true ↔ ∀ e ∈ s.view, e.interlocks k = false := by simp
  unfold mayRise
  rw [Bool.and_eq_true, Bool.and_eq_true, Bool.and_eq_true, hview]
  simp only [Option.isNone_iff_eq_none, beq_iff_eq, interlocks_eq_false_iff hk, and_assoc]

theorem stepDown_le_command (command r m : Nat) : stepDown command r m ≤ command := by
  unfold stepDown
  split <;> omega

theorem mayRise_of_allow_rise {k : Kind} {result : Nat} (h : s.share.command < allow s k result) : mayRise s k = true := by
  unfold allow at h
  split at h
  · omega
  · split at h
    · assumption
    · exact absurd h (Nat.not_lt.mpr (Nat.min_le_right _ _))

/-- The share computation raises the command of a train in direction alone, where the rise is not barred (R53, R64). -/
theorem newCommand_rise {k : Kind} (h : s.share.command < newCommand s k) :
    s.seq.state = .running ∧ direction s.book.target = some k ∧ mayRise s k = true := by
  by_cases hd : inDirection s k = true
  · rw [newCommand, if_pos hd] at h
    obtain ⟨hrunning, hdirection⟩ : s.seq.state = .running ∧ direction s.book.target = some k := by
      simpa [inDirection] using hd
    exact ⟨hrunning, hdirection, mayRise_of_allow_rise h⟩
  · rw [newCommand, if_neg hd] at h
    exact absurd h (Nat.not_lt.mpr (Nat.le_trans (Nat.min_le_right _ _) (stepDown_le_command _ _ _)))

theorem direction_eq_some_iff (t : Option Int) (k : Kind) :
    direction t = some k ↔ ∃ v, t = some v ∧ ((k = .C ∧ v < 0) ∨ (k = .X ∧ 0 < v)) := by
  cases t with
  | none => simp [direction]
  | some v =>
    simp only [direction, Option.some.injEq, exists_eq_left']
    by_cases hneg : v < 0
    · rw [if_pos hneg]
      cases k <;> simp <;> omega
    · rw [if_neg hneg]
      by_cases hpos : 0 < v
      · rw [if_pos hpos]
        cases k <;> simp <;> omega
      · rw [if_neg hpos]
        cases k <;> simp <;> omega

/-- A control period expiry that raises the command is that of a train, whose timer stands. -/
theorem controlExpiry_of_rise (h : s.share.command < (controlExpiry s).share.command) :
    ∃ d k, s.inForce.kind = some k ∧ k ≠ .H ∧ controlExpiry s = sendSetpoint (expiryWork k (atRead d s)) := by
  unfold controlExpiry at h ⊢
  split at h
  · next d k hd hk =>
    split at h
    · next ht =>
      refine ⟨d, k, hk, ?_, ?_⟩
      · rintro rfl
        simp [State.isTrain, hk] at ht
      · exact if_pos ht
    · exact absurd h (Nat.lt_irrefl _)
  · exact absurd h (Nat.lt_irrefl _)

/-- Settles O45: a rise is a share computation's, under the conditions of R64. -/
theorem noRiseWhenBarred : Obligations.NoRiseWhenBarred := by
  intro s u hexec hrise
  obtain rfl : controlExpiry s = u := Host.Outcome.next.inj hexec
  obtain ⟨d, k, hk, hH, hstages⟩ := controlExpiry_of_rise hrise
  rw [hstages] at hrise ⊢
  have hcommand : s.share.command < (expiryWork k (atRead d s)).share.command := hrise
  rw [← atRead_command d s] at hcommand
  have hloaded : (atRead d s).seq.state.loaded = true := by
    refine Classical.byContradiction fun hidle => ?_
    obtain h | h := expiryWork_command_idle (k := k) (by simpa using hidle) <;> omega
  rw [expiryWork_loaded hloaded] at hcommand ⊢
  rw [loadedExpiry_command] at hcommand
  obtain ⟨hrunning, hdirection, hmay⟩ := newCommand_rise hcommand
  obtain ⟨hheld, havailable, -, hview⟩ := (mayRise_iff hH).mp hmay
  have hstays := loadedExpiry_stays (s := atRead d s) (k := k) fun hend => by rw [hend.1] at hrunning; cases hrunning
  rw [atRead_sameBut d s .view (by decide)] at hview
  refine ⟨(congrArg Book.held (hstays.book (by decide))).trans hheld, (hstays .available (by decide)).trans havailable,
    (hstays.state (by decide)).trans hrunning, ?_, fun e he f hf hr hne hnH => hview e he f hf hr (fun h => hne (h ▸ hk)) hnH⟩
  obtain ⟨v, hv, hsign⟩ := (direction_eq_some_iff _ _).mp hdirection
  refine ⟨v, (hstays .target (by decide)).trans hv, ?_⟩
  obtain ⟨rfl, hv⟩ | ⟨rfl, hv⟩ := hsign
  · exact .inl ⟨hk, hv⟩
  · exact .inr ⟨hk, hv⟩

/-! ## The wake count -/

/-- The headroom that an entry brings to the wake excess (R21, R56). -/
def Entry.headroom (k : Kind) (e : Entry) : Nat :=
  match e.fields with
  | .train f =>
    if e.status = .present ∧ f.kind = k ∧ e.state = .running ∧ f.available = true ∧ f.held = false ∧ f.minLoad ≤ f.upper then
      f.upper - f.command
    else 0
  | .store _ => 0

theorem headroom_of_party_none {k : Kind} {e : Entry} (h : e.party k = none) : e.headroom k = 0 := by
  unfold Entry.party at h
  unfold Entry.headroom
  cases hf : e.fields with
  | store f => rfl
  | train f =>
    simp only [hf] at h ⊢
    split at h
    · cases h
    · next hno => exact if_neg hno

theorem headroom_of_party {k : Kind} {e : Entry} {p : Party} (h : e.party k = some p) : e.headroom k = p.upper - p.command := by
  obtain ⟨f, hf, h1, h2, h3, h4, h5, h6, rfl⟩ := (party_eq_some_iff k e p).mp h
  unfold Entry.headroom
  simp only [hf]
  exact if_pos ⟨h1, h2, h3, h4, h5, h6⟩

/-- The peers' headrooms, entry by entry (R56, R67). -/
theorem totalRoom_peers (view : List Entry) (k : Kind) :
    totalRoom (rooms true (eligible view k none)) = (view.map (Entry.headroom k)).sum := by
  have hrooms (ps : List Party) : totalRoom (rooms true ps) = (ps.map fun p => p.upper - p.command).sum := by
    simp [totalRoom, rooms, List.map_map, Function.comp_def]
  rw [hrooms, eligible]
  induction view with
  | nil => rfl
  | cons e es ih =>
    cases hp : e.party k with
    | none => rw [List.filterMap_cons_none hp, List.map_cons, List.sum_cons, headroom_of_party_none hp, Nat.zero_add, ih]
    | some p => rw [List.filterMap_cons_some hp, List.map_cons, List.map_cons, List.sum_cons, List.sum_cons, headroom_of_party hp, ih]

theorem wakeExcess_eq (s : State) (k : Kind) : wakeExcess s k = ((s.book.target.getD 0).natAbs : Int) - commandsOf s.view k
    - ((s.view.map (Entry.headroom k)).sum : Nat) - ((s.view.map (Entry.expectedRoom k)).sum : Nat) := by
  rw [wakeExcess, errorOf, totalRoom_peers, peerSum_eq_commandsOf]
  omega

/-- A rival of the election (R108). -/
theorem isRival_iff (k : Kind) (e : Entry) : e.isRival k = true ↔ ∃ f, e.fields = .train f ∧ e.status ≠ .lost ∧ f.kind = k
    ∧ e.state = .standby ∧ f.available = true ∧ f.held = false := by
  unfold Entry.isRival
  cases hf : e.fields with
  | store f => simp
  | train f => simp [and_assoc]

theorem winsElection_iff (s : State) (k : Kind) :
    winsElection s k = true ↔ ∀ e ∈ s.view, e.isRival k = true → s.inForce.address < e.address := by
  simp only [winsElection, List.all_eq_true, Bool.or_eq_true, Bool.not_eq_true', decide_eq_true_eq]
  exact forall₂_congr fun e _ => by cases e.isRival k <;> simp

theorem wakeCounts_iff (s : State) (k : Kind) : wakeCounts s k = true ↔
    direction s.book.target = some k ∧ s.seq.available = true ∧ s.book.held = none ∧ 0 < wakeExcess s k := by
  simp [wakeCounts, and_assoc]

theorem wakeExcess_congr {u : State} (hbook : u.book = s.book) (hview : u.view = s.view) (k : Kind) : wakeExcess u k = wakeExcess s k := by
  rw [wakeExcess_eq, wakeExcess_eq, hbook, hview]

/-! ## An expiry in STANDBY -/

theorem standbyExpiry_waits {k : Kind} (h : ¬ (nextWake s k = s.inForce.items.wakeDelay ∧ winsElection s k = true)) :
    standbyExpiry k s = { s with share := { s.share with wake := nextWake s k } } := if_neg h

theorem standbyExpiry_starts {k : Kind} (h : nextWake s k = s.inForce.items.wakeDelay) (hwins : winsElection s k = true) :
    standbyExpiry k s = enterStarting { s with share := { s.share with wake := nextWake s k } } := if_pos ⟨h, hwins⟩

/-- AVAILABLE stays at a start (R51). -/
theorem enterStarting_available (h : AvailableLaw s) (hs : s.seq.state = .standby) : (enterStarting s).seq.available = s.seq.available := by
  have hlaw : AvailableLaw (enterStarting s) := evalAvailable_law _
  have hstate : (enterStarting s).seq.state = .starting := rfl
  unfold AvailableLaw at h hlaw
  rw [hstate] at hlaw
  rw [hs] at h
  rw [Bool.eq_iff_iff, hlaw, h]
  simp only [or_true, true_or, true_and]
  rfl

theorem standbyExpiry_available {k : Kind} (h : AvailableLaw s) (hs : s.seq.state = .standby) :
    (standbyExpiry k s).seq.available = s.seq.available := by
  unfold standbyExpiry
  dsimp only
  split
  · exact enterStarting_available (s := { s with share := { s.share with wake := nextWake s k } }) h hs
  · rfl

/-- The conditions of the wake count are the same after an expiry in STANDBY as before its start (R67). -/
theorem wakeCounts_after {k : Kind} (h : AvailableLaw s) (hs : s.seq.state = .standby) : wakeCounts s k = true ↔
    direction (standbyExpiry k s).book.target = some k ∧ (standbyExpiry k s).seq.available = true
      ∧ (standbyExpiry k s).book.held = none ∧ 0 < wakeExcess (standbyExpiry k s) k := by
  have hframe := standbyExpiry_sameBut k s
  have hbook := hframe.book (by decide)
  rw [standbyExpiry_available h hs, wakeExcess_congr hbook (hframe .view (by decide)), hbook]
  exact wakeCounts_iff s k

/-- Settles O42: the sum entry by entry; and the counter by its conditions, the election by its rivals. -/
theorem wakeCountStartsLowestTrain : Obligations.WakeCountStartsLowestTrain := by
  refine ⟨fun s k => wakeExcess_eq s k, fun s d k hd hk hH hs h0 hdelay => ?_⟩
  have ht : s.isTrain = true := by cases k <;> simp_all [State.isTrain]
  refine exec_controlPeriodExpiry_train hd ht fun k' hk' => ?_
  obtain rfl : k' = k := Option.some.inj (hk'.symm.trans hk)
  have hstandby : (atRead d s).seq.state = .standby := (atRead_state d s).trans hs
  have hcounts := wakeCounts_after (k := k') (atRead_available d s) hstandby
  have hwins := winsElection_iff (atRead d s) k'
  have hwake : (atRead d s).share.wake = s.share.wake := atRead_sameBut d s .wake (by decide)
  have hforce := atRead_inForce d s
  rw [atRead_sameBut d s .view (by decide), hforce] at hwins
  have hw : nextWake (atRead d s) k' = if wakeCounts (atRead d s) k' then min s.inForce.items.wakeDelay (s.share.wake + 1) else 0 := by
    rw [nextWake, hwake, hforce]
  rw [expiryStages_expiring, expiryWork_standby hstandby]
  have hidle : (sendSetpoint (standbyExpiry k' (atRead d s))).share.command = 0 := by
    have hzero : (atRead d s).share.command = 0 := (atRead_command d s).trans h0
    have hle := standbyExpiry_command_le k' (atRead d s)
    exact Nat.le_zero.mp (hzero ▸ hle)
  have hwaits (h : ¬ (nextWake (atRead d s) k' = s.inForce.items.wakeDelay ∧ winsElection (atRead d s) k' = true)) :
      (sendSetpoint (standbyExpiry k' (atRead d s))).seq.state = .standby
      ∧ (sendSetpoint (standbyExpiry k' (atRead d s))).share.wake = nextWake (atRead d s) k' := by
    rw [standbyExpiry_waits (by rwa [hforce])]
    exact ⟨hstandby, rfl⟩
  refine ⟨hidle, fun hno => ?_, fun h1 h2 h3 h4 => ?_⟩
  · have hquiet : wakeCounts (atRead d s) k' = false := by
      refine Classical.byContradiction fun hyes => ?_
      exact hno (hcounts.mp (by simpa using hyes))
    rw [hquiet] at hw
    obtain ⟨hstate, hcount⟩ := hwaits fun h => by rw [hw] at h; exact absurd h.1.symm (Nat.pos_iff_ne_zero.mp hdelay)
    exact ⟨hstate, hcount.trans hw⟩
  · rw [hcounts.mpr ⟨h1, h2, h3, h4⟩, if_pos rfl] at hw
    refine ⟨fun hearly => ?_, fun hdue hrival => ?_, fun hdue hlowest => ?_⟩
    · have hw : nextWake (atRead d s) k' = s.share.wake + 1 := by omega
      obtain ⟨hstate, hcount⟩ := hwaits fun h => by omega
      exact ⟨hstate, hcount.trans hw⟩
    · have hw : nextWake (atRead d s) k' = s.inForce.items.wakeDelay := by omega
      obtain ⟨hstate, hcount⟩ := hwaits fun h => by
        obtain ⟨e, he, f, hf, hlost, hkind, hes, hav, hheld, hle⟩ := hrival
        exact absurd (hwins.mp h.2 e he ((isRival_iff k' e).mpr ⟨f, hf, hlost, hkind, hes, hav, hheld⟩)) (Nat.not_lt.mpr hle)
      exact ⟨hstate, hcount.trans hw⟩
    · have hw : nextWake (atRead d s) k' = s.inForce.items.wakeDelay := by omega
      have hlowest : winsElection (atRead d s) k' = true := hwins.mpr fun e he hrival => by
        obtain ⟨f, hf, hlost, hkind, hes, hav, hheld⟩ := (isRival_iff k' e).mp hrival
        exact hlowest e he f hf hlost hkind hes hav hheld
      rw [standbyExpiry_starts (by rw [hw, hforce]) hlowest]
      refine ⟨rfl, rfl, ?_, ?_⟩
      · rw [← atRead_now d s, ← hforce]
        rfl
      · have hmode : decide (k' = .C ∧ (atRead d s).heat.cooled = true) =
            decide ((atRead d s).inForce.kind = some .C ∧ (atRead d s).heat.cooled = true) :=
          decide_eq_decide.mpr (by rw [hforce, hk, Option.some.injEq])
        exact (sendSetpoint_setpoint _).trans (congrArg (fun b => some (Setpoint.mk 0 b .starting)) hmode.symm)

/-! ## Caps -/

theorem rated_eq {r : Nat} {f : InForce} (h : f.items.rated = some r) : f.rated = r := by simp [InForce.rated, h]

theorem bandCap_compressor {p : Nat} (hk : s.inForce.kind = some .C) (hp : heldPressure s = some p) :
    bandCap s = bandCapC s.inForce.rated (s.inForce.workMax.getD 0) s.inForce.items.softBand p := by
  simp [bandCap, hp, hk]

theorem bandCap_expander {p : Nat} (hk : s.inForce.kind = some .X) (hp : heldPressure s = some p) :
    bandCap s = bandCapX s.inForce.rated (s.inForce.workMin.getD 0) s.inForce.items.softBand p := by
  simp [bandCap, hp, hk]

theorem bandCap_unheld (h : heldPressure s = none) : bandCap s = 0 := by simp [bandCap, h]

theorem leastCap_le (s : State) : leastCap s ≤ s.inForce.rated ∧ leastCap s ≤ bandCap s ∧ leastCap s ≤ rateCap s ∧ leastCap s ≤ heatCap s
    ∧ leastCap s ≤ s.bank.cap := by
  unfold leastCap
  omega

theorem upperLimit_eq_zero (h : leastCap s < s.inForce.minLoad ∨ leastCap s = 0) : upperLimit s = 0 := by
  unfold upperLimit
  split
  · rfl
  · omega

theorem rateCap_exhausted (h : flowAllowance s = 0) : rateCap s = 0 := by simp [rateCap, h]

/-- The linked store's entry, where one entry alone has the relation (R95). -/
theorem linkedStore_of_only {e : Entry} {f : StoreFields} (he : e ∈ s.view) (hr : e.relation = .linkedStore)
    (honly : ∀ e' ∈ s.view, e'.relation = .linkedStore → e' = e) (hl : s.inForce.items.linked ≠ none) (hf : e.fields = .store f) :
    linkedStore s = if e.status = .lost then none else some f := by
  have hfind : (s.view.find? fun e => e.relation == .linkedStore) = some e := by
    cases hx : s.view.find? fun e => e.relation == .linkedStore with
    | none => exact absurd hr (by simpa using List.find?_eq_none.mp hx e he)
    | some x => rw [honly x (List.mem_of_find?_eq_some hx) (by simpa using List.find?_some hx)]
  unfold linkedStore
  rw [if_pos (Option.isSome_iff_ne_none.mpr hl), hfind]
  simp only [hf]

theorem linkedStore_absent (h : s.inForce.items.linked = none ∨ ∀ e ∈ s.view, e.relation ≠ .linkedStore) : linkedStore s = none := by
  unfold linkedStore
  obtain h | h := h
  · simp [h]
  · have hfind : (s.view.find? fun e => e.relation == .linkedStore) = none :=
      List.find?_eq_none.mpr fun e he => by simpa using h e he
    rw [hfind]
    simp

theorem ownKind_of {k : Kind} (h : s.inForce.kind = some k) : s.ownKind = k := by simp [State.ownKind, h]

theorem qualityCap_linked {f : StoreFields} {hot cold : Nat} (h : linkedStore s = some f) (hhot : s.inForce.hot = some hot)
    (hcold : s.inForce.cold = some cold) : qualityCap s = min (s.inForce.rated * (f.outlet - cold) / (hot - cold)) s.inForce.rated := by
  simp [qualityCap, h, hhot, hcold]

theorem upperLimit_eq (s : State) : upperLimit s =
    if min s.inForce.rated (min (bandCap s) (min (rateCap s) (min (heatCap s) s.bank.cap))) < s.inForce.minLoad then 0
    else min s.inForce.rated (min (bandCap s) (min (rateCap s) (min (heatCap s) s.bank.cap))) := rfl

/-! ## The cooled flag at an expiry (R98) -/

theorem judge_produces (s : State) : ∃ rs, Produces rs s (judge s) ∧ rs.length ≤ 1 := by
  have hwith : Produces [] s (judgeWith s).1 := produces_of_link (by simp)
  obtain h | ⟨r, h⟩ := judge_cases s <;> rw [h]
  · exact ⟨[], hwith, Nat.zero_le _⟩
  · exact ⟨[r], hwith.trans (produces_produce r _), Nat.le_refl _⟩

theorem deriveAtExpiry_produces (s : State) : ∃ rs, Produces rs s (deriveAtExpiry s) ∧ rs.length ≤ 1 := by
  have hnoted (t : Option Int) : Produces [] s (noteTarget t { s with book := { s.book with target := t } }) :=
    produces_of_link (by simp)
  unfold deriveAtExpiry
  dsimp only
  split
  · exact ⟨[], hnoted _, Nat.zero_le _⟩
  · obtain ⟨rs, hjudge, hone⟩ := judge_produces (noteTarget (deriveTarget s.book s.clock.current)
      { s with book := { s.book with target := deriveTarget s.book s.clock.current } })
    exact ⟨rs, (hnoted _).trans hjudge, hone⟩

theorem stepAgreement_produces (s : State) : ∃ rs, Produces rs s (stepAgreement s) ∧ rs.length ≤ 1 := by
  unfold stepAgreement
  dsimp only
  repeat' split
  · exact ⟨[], produces_of_link rfl, Nat.zero_le _⟩
  · exact ⟨[], .refl s, Nat.zero_le _⟩
  · exact ⟨[.held .disagree s.book.n s.book.a], (produces_of_link (s := s) rfl).trans (produces_produce _ _), Nat.le_refl _⟩
  · exact ⟨[], produces_of_link rfl, Nat.zero_le _⟩

/-- The book's stage of an expiry reports at most two things (R42). -/
theorem bookExpiry_produces (s : State) : ∃ rs, Produces rs s (bookExpiry s) ∧ rs.length ≤ 2 := by
  obtain ⟨rs, hderive, hone⟩ := deriveAtExpiry_produces s
  obtain ⟨qs, hstep, htwo⟩ := stepAgreement_produces (deriveAtExpiry s)
  exact ⟨rs ++ qs, hderive.trans hstep, by rw [List.length_append]; omega⟩

theorem wantsCooled_iff (s : State) : wantsCooled s = true ↔ storeCapC s = none ∨ ∃ cap, storeCapC s = some cap ∧ cap < s.inForce.minLoad := by
  unfold wantsCooled
  cases storeCapC s <;> simp

theorem decideMode_changed_produces (hk : s.inForce.kind = some .C) (h : (decideMode s).heat.cooled ≠ s.heat.cooled) :
    Produces [.storeCooled (decideMode s).heat.cooled] s (decideMode s) := by
  have hcooled := decideMode_cooled s
  rw [if_pos hk] at hcooled
  rw [hcooled] at h ⊢
  rw [decideMode, if_pos ⟨hk, h⟩]
  exact (produces_of_link (s := s) (u := { s with heat := { s.heat with cooled := wantsCooled s } }) rfl).trans (produces_produce _ _)

/-- A change of mode at an expiry is reported, where there is room (R98). -/
theorem atRead_cooled_reported {d : Nat} (hk : s.inForce.kind = some .C) (h : (atRead d s).heat.cooled ≠ s.heat.cooled)
    (hroom : s.link.reports.length + 3 ≤ 16) (k : Kind) :
    ∃ n, ⟨n, .storeCooled (atRead d s).heat.cooled⟩ ∈ (expiryStages k (expiring d s)).link.reports := by
  have hcooled : (bookExpiry (expiring d s)).heat.cooled = s.heat.cooled := by simp [expiring]
  have hread : (atRead d s).heat.cooled = (decideMode (bookExpiry (expiring d s))).heat.cooled := readU_sameBut _ .cooled (by decide)
  have hmode := decideMode_changed_produces (s := bookExpiry (expiring d s)) (by simpa [expiring] using hk) (by rwa [hcooled, ← hread])
  obtain ⟨rs, hbook, htwo⟩ := bookExpiry_produces (expiring d s)
  obtain ⟨qs, hwork⟩ := expiryWork_reports k (atRead d s)
  have hatRead : Produces (rs ++ [.storeCooled (decideMode (bookExpiry (expiring d s))).heat.cooled]) (expiring d s) (atRead d s) :=
    (hbook.trans hmode).then_sameBut (readU_sameBut _) (by decide)
  have hall := (hatRead.trans hwork).then_sameBut (sendSetpoint_sameBut _) (by decide)
  rw [List.append_assoc, ← hread] at hall
  refine hall.mem ?_
  have hlength : (expiring d s).link.reports.length = s.link.reports.length := rfl
  omega

/-- Settles O47: the caps one by one, and the mode at the read of an expiry. -/
theorem cavernCapsByPressureAndFlow : Obligations.CavernCapsByPressureAndFlow := by
  refine ⟨fun s => ⟨fun p wmax b r hk hp hw hb hr => ?_, fun p wmin b r hk hp hw hb hr => ?_, bandCap_unheld, fun o f p h m r hh => ?_,
    fun hh => ?_, fun k hk => ?_, rfl, rfl, fun h => ?_, fun h => ?_, upperLimit_zero_or_ge s, upperLimit_le_rated s, linkedStore_absent,
    fun e he hr honly hl f hf => linkedStore_of_only he hr honly hl hf, fun hl => ?_, fun a k hl hk => ?_, fun hl => ?_, fun f hf => ⟨?_, ?_,
    fun hot cold hhot hcold => ⟨fun hle => ?_, fun hlt => ?_⟩⟩, rfl, fun o f p h m r hh => ⟨fun hk hc => ?_, fun hk hc => ?_, fun hk => ?_⟩,
    fun hh => ?_, fun heat hheat => ?_⟩, fun s d hd hk => ?_⟩
  · rw [bandCap_compressor hk hp, rated_eq hr, hw, hb, Option.getD_some]
    unfold bandCapC
    refine ⟨fun h => if_pos h, fun h1 h2 => ?_, fun h1 h2 => ?_⟩
    · rw [if_neg (by omega), if_neg (by omega)]
    · rw [if_neg (by omega), if_pos h1]
  · rw [bandCap_expander hk hp, rated_eq hr, hw, hb, Option.getD_some]
    unfold bandCapX
    refine ⟨fun h => if_pos h, fun h1 h2 => ?_, fun h1 h2 => ?_⟩
    · rw [if_neg (by omega), if_neg (by omega)]
    · rw [if_neg (by omega), if_pos h1]
  · simp [heldPressure, hh]
  · simp [heldPressure, hh]
  · rw [flowReservation, ownKind_of hk]
    rfl
  · have hrate := rateCap_exhausted h
    exact upperLimit_eq_zero (.inr (by have := leastCap_le s; omega))
  · exact upperLimit_eq_zero (.inl (by have := leastCap_le s; omega))
  · simp [heatReservation, hl]
  · rw [heatReservation, hl, ownKind_of hk]
    rfl
  · simp [storeCapC, storeCapX, qualityCap, hl]
  · simp [storeCapC, hf, storeCapOf, InForce.rated]
  · simp [storeCapX, hf, storeCapOf, InForce.rated]
  · rw [qualityCap_linked hf hhot hcold, Nat.sub_eq_zero_of_le hle, Nat.mul_zero, Nat.zero_div, Nat.zero_min]
  · exact qualityCap_linked hf hhot hcold
  · simp [heatFlow, heldOutput, hh, hk, hc]
  · simp [heatFlow, heldOutput, hh, hk, hc]
  · simp [heatFlow, heldOutput, hh, hk]
  · simp [heatFlow, heldOutput, hh]
  · have hcap : heatCap s = heat := by
      obtain ⟨hk, rfl⟩ | ⟨hk, rfl⟩ := hheat <;> simp [heatCap, hk, InForce.rated]
    rw [← hcap]
    exact upperLimit_eq s
  · have ht : s.isTrain = true := by simp [State.isTrain, hk]
    refine exec_controlPeriodExpiry_train hd ht fun k _ hon => ?_
    have hcooled : (expiryStages k (expiring d s)).heat.cooled = (atRead d s).heat.cooled := by
      obtain ⟨-, -, -, hend⟩ | hstays := expiryWork_cases k (atRead d s)
      · exact absurd (congrArg (fun v => v.seq.state) hend) hon
      · exact hstays .cooled (by decide)
    have hmode := atRead_cooled d s
    rw [if_pos hk] at hmode
    refine ⟨?_, fun hne hroom => ?_⟩
    · rw [hcooled, hmode]
      exact wantsCooled_iff s
    · rw [hcooled] at hne ⊢
      exact atRead_cooled_reported hk hne hroom k

end Sys2Proof.Machine
end

section
/-! PROOFS. The shares of a bounded error (R54 to R60), and the command that an expiry makes of them (R61 to R64). -/

namespace Sys2Proof.Machine

variable {s : State}

/-! ## One pass of the remainder (R59) -/

/-- The trains below their rooms. -/
def openCount (xs : List Alloc) : Nat := xs.countP fun x => decide (x.share < x.room)

/-- One count more to each of the first trains that is below its room. -/
def toppedUp (last : Nat) (xs : List Alloc) : List Alloc :=
  xs.mapIdx fun i x => { x with share := min x.room (x.share + if i < last then 1 else 0) }

theorem toppedUp_zero {xs : List Alloc} (h : ∀ x ∈ xs, x.share ≤ x.room) : toppedUp 0 xs = xs := by
  unfold toppedUp
  refine (List.mapIdx_eq_iff.mpr fun i => ?_)
  cases hx : xs[i]? with
  | none => rfl
  | some x =>
    have hle := h x (List.mem_of_getElem? hx)
    simp [Nat.min_eq_right hle]

theorem toppedUp_cons (last : Nat) (x : Alloc) (xs : List Alloc) : toppedUp (last + 1) (x :: xs) =
    { x with share := min x.room (x.share + 1) } :: toppedUp last xs := by
  simp [toppedUp, List.mapIdx_cons]

/-- A pass whose remainder the open trains can take gives all of it out. -/
theorem remainderPass_all {rem : Nat} {xs : List Alloc} (h : ∀ x ∈ xs, x.share ≤ x.room) (hrem : rem ≤ openCount xs) :
    ∃ last, remainderPass rem xs = (0, toppedUp last xs) := by
  induction xs generalizing rem with
  | nil =>
    obtain rfl : rem = 0 := Nat.le_zero.mp hrem
    exact ⟨0, rfl⟩
  | cons x xs ih =>
    have hxs : ∀ y ∈ xs, y.share ≤ y.room := fun y hy => h y (List.mem_cons_of_mem _ hy)
    have hx : x.share ≤ x.room := h x (List.mem_cons_self ..)
    cases rem with
    | zero => exact ⟨0, by rw [toppedUp_zero h]; rfl⟩
    | succ rem =>
      by_cases hopen : x.share < x.room
      · have hcount : openCount (x :: xs) = openCount xs + 1 := List.countP_cons_of_pos (by simpa using hopen)
        obtain ⟨last, hpass⟩ := ih (rem := rem) hxs (by omega)
        refine ⟨last + 1, ?_⟩
        rw [toppedUp_cons, remainderPass, if_pos hopen, hpass, Nat.min_eq_right hopen]
      · have hcount : openCount (x :: xs) = openCount xs := List.countP_cons_of_neg (by simpa using hopen)
        obtain ⟨last, hpass⟩ := ih (rem := rem + 1) hxs (by omega)
        have hfull : min x.room (x.share + 1) = x.share := by omega
        refine ⟨last + 1, ?_⟩
        rw [toppedUp_cons, remainderPass, if_neg hopen, hpass, hfull]

/-! ## The remainder of the truncated shares -/

theorem truncated_le {bounded total room : Nat} (h : bounded ≤ total) : bounded * room / total ≤ room :=
  Nat.div_le_of_le_mul (Nat.mul_le_mul_right room h)

theorem truncatedShares_le {bounded : Nat} {xs : List Alloc} (h : bounded ≤ totalRoom xs) :
    ∀ x ∈ truncatedShares bounded xs, x.share ≤ x.room := by
  intro y hy
  obtain ⟨x, -, rfl⟩ := List.mem_map.mp hy
  exact truncated_le h

/-- The counts that truncation loses are no more than the trains that it leaves below their rooms. -/
theorem truncation_loss {bounded total : Nat} (h : bounded ≤ total) (htotal : 0 < total) (xs : List Alloc) :
    bounded * totalRoom xs ≤ total * (totalShare (xs.map fun x => { x with share := bounded * x.room / total })
      + openCount (xs.map fun x => { x with share := bounded * x.room / total })) := by
  induction xs with
  | nil => simp [totalRoom]
  | cons x xs ih =>
    have hone : bounded * x.room ≤ total * (bounded * x.room / total + if bounded * x.room / total < x.room then 1 else 0) := by
      split
      · exact Nat.le_of_lt (Nat.lt_mul_div_succ _ htotal)
      · next hfull => exact Nat.mul_le_mul h (by omega)
    have hcount : openCount ((x :: xs).map fun x => { x with share := bounded * x.room / total }) =
        openCount (xs.map fun x => { x with share := bounded * x.room / total })
          + if bounded * x.room / total < x.room then 1 else 0 := by
      simp [openCount, List.countP_cons]
    have hshare : totalShare ((x :: xs).map fun x => { x with share := bounded * x.room / total }) =
        bounded * x.room / total + totalShare (xs.map fun x => { x with share := bounded * x.room / total }) := rfl
    have hroom : totalRoom (x :: xs) = x.room + totalRoom xs := rfl
    rw [hcount, hshare, hroom]
    simp only [Nat.mul_add] at ih hone ⊢
    omega

theorem truncation_sum {bounded total : Nat} (xs : List Alloc) :
    total * totalShare (xs.map fun x => { x with share := bounded * x.room / total }) ≤ bounded * totalRoom xs := by
  induction xs with
  | nil => simp [totalShare]
  | cons x xs ih =>
    have hone : total * (bounded * x.room / total) ≤ bounded * x.room := Nat.mul_div_le _ _
    have hshare : totalShare ((x :: xs).map fun x => { x with share := bounded * x.room / total }) =
        bounded * x.room / total + totalShare (xs.map fun x => { x with share := bounded * x.room / total }) := rfl
    have hroom : totalRoom (x :: xs) = x.room + totalRoom xs := rfl
    rw [hshare, hroom]
    simp only [Nat.mul_add] at ih hone ⊢
    omega

theorem remainder_le {bounded : Nat} {xs : List Alloc} (h : bounded ≤ totalRoom xs) :
    bounded - totalShare (truncatedShares bounded xs) ≤ openCount (truncatedShares bounded xs) := by
  obtain h0 | hpos := Nat.eq_zero_or_pos (totalRoom xs)
  · omega
  · have hloss := truncation_loss h hpos xs
    rw [Nat.mul_comm bounded] at hloss
    have hle := Nat.le_of_mul_le_mul_left hloss hpos
    exact Nat.sub_le_iff_le_add'.mpr hle

theorem totalShare_unshared (xs : List Alloc) : totalShare (xs.map fun x => { x with share := 0 }) = 0 := by
  induction xs with
  | nil => rfl
  | cons x xs ih => exact (Nat.zero_add _).trans ih

theorem room_le_totalRoom {x : Alloc} {xs : List Alloc} (h : x ∈ xs) : x.room ≤ totalRoom xs := by
  induction xs with
  | nil => cases h
  | cons y xs ih =>
    have hroom : totalRoom (y :: xs) = y.room + totalRoom xs := rfl
    obtain rfl | h := List.mem_cons.mp h
    · omega
    · have := ih h
      omega

theorem totalShare_truncated_le {bounded : Nat} {xs : List Alloc} (h : bounded ≤ totalRoom xs) :
    totalShare (truncatedShares bounded xs) ≤ bounded := by
  obtain h0 | hpos := Nat.eq_zero_or_pos (totalRoom xs)
  · have hzero : totalShare (truncatedShares bounded xs) = 0 := by
      simp only [truncatedShares, h0, Nat.div_zero]
      exact totalShare_unshared xs
    omega
  · have hsum := truncation_sum (bounded := bounded) (total := totalRoom xs) xs
    rw [Nat.mul_comm bounded] at hsum
    exact Nat.le_of_mul_le_mul_left hsum hpos

/-- The shares of a bounded error within the rooms: the truncated shares, topped up in one pass. -/
theorem shares_eq {bounded : Nat} {xs : List Alloc} (h : bounded ≤ totalRoom xs) :
    ∃ last, shares bounded xs = toppedUp last (truncatedShares bounded xs) := by
  have hle := truncatedShares_le h
  obtain ⟨last, hpass⟩ := remainderPass_all hle (remainder_le h)
  unfold shares
  dsimp only
  cases hrem : bounded - totalShare (truncatedShares bounded xs) with
  | zero => exact ⟨0, (toppedUp_zero hle).symm⟩
  | succ n =>
    rw [hrem] at hpass
    exact ⟨last, by rw [remainderPasses, hpass]; rfl⟩

theorem shares_sum {bounded : Nat} {xs : List Alloc} (h : bounded ≤ totalRoom xs) : totalShare (shares bounded xs) = bounded := by
  have hle := truncatedShares_le h
  obtain ⟨last, hpass⟩ := remainderPass_all hle (remainder_le h)
  have hspec := (remainderPass_spec (bounded - totalShare (truncatedShares bounded xs)) _ hle).1
  have hbelow := totalShare_truncated_le h
  rw [hpass] at hspec
  unfold shares
  dsimp only
  cases hrem : bounded - totalShare (truncatedShares bounded xs) with
  | zero => exact Nat.le_antisymm hbelow (Nat.sub_eq_zero_iff_le.mp hrem)
  | succ n =>
    rw [hrem] at hpass hspec
    rw [remainderPasses, hpass]
    have hspec : 0 + totalShare (toppedUp last (truncatedShares bounded xs)) = n + 1 + totalShare (truncatedShares bounded xs) := hspec
    change totalShare (toppedUp last (truncatedShares bounded xs)) = bounded
    omega

/-- Each train's share: its truncated share, with one count more for the first trains below their rooms. -/
theorem shares_getElem {bounded : Nat} {xs : List Alloc} (h : bounded ≤ totalRoom xs) : ∃ last : Nat, ∀ (i : Nat) (x : Alloc),
    xs[i]? = some x →
    (shares bounded xs)[i]? = some { x with share := min x.room (bounded * x.room / totalRoom xs + if i < last then 1 else 0) } := by
  obtain ⟨last, heq⟩ := shares_eq h
  refine ⟨last, fun i x hx => ?_⟩
  rw [heq, toppedUp, List.getElem?_mapIdx, truncatedShares, List.getElem?_map, hx]
  rfl

theorem shares_length {bounded : Nat} {xs : List Alloc} (h : bounded ≤ totalRoom xs) : (shares bounded xs).length = xs.length := by
  obtain ⟨last, heq⟩ := shares_eq h
  rw [heq, toppedUp, List.length_mapIdx, truncatedShares, List.length_map]

/-- A train's share lies between its truncated share and its room. -/
theorem shares_bounds {bounded : Nat} {xs : List Alloc} (h : bounded ≤ totalRoom xs) {i : Nat} {x y : Alloc} (hx : xs[i]? = some x)
    (hy : (shares bounded xs)[i]? = some y) :
    y.address = x.address ∧ y.room = x.room ∧ y.share ≤ x.room ∧ bounded * x.room / totalRoom xs ≤ y.share := by
  obtain ⟨last, hget⟩ := shares_getElem h
  obtain rfl := Option.some.inj ((hget i x hx).symm.trans hy)
  exact ⟨rfl, rfl, Nat.min_le_left _ _, Nat.le_min.mpr ⟨truncated_le h, Nat.le_add_right _ _⟩⟩

theorem shares_map_address {bounded : Nat} {xs : List Alloc} (h : bounded ≤ totalRoom xs) :
    (shares bounded xs).map Alloc.address = xs.map Alloc.address := by
  obtain ⟨last, hget⟩ := shares_getElem h
  refine List.ext_getElem? fun i => ?_
  rw [List.getElem?_map, List.getElem?_map]
  cases hx : xs[i]? with
  | some x => rw [hget i x hx]; rfl
  | none =>
    have hlength := shares_length h
    rw [List.getElem?_eq_none_iff] at hx
    rw [List.getElem?_eq_none (hlength ▸ hx)]

/-- Where the whole room is given out, each train's share is its room. -/
theorem shares_whole {xs : List Alloc} {y : Alloc} (hy : y ∈ shares (totalRoom xs) xs) : y.share = y.room := by
  obtain ⟨i, hi⟩ := List.getElem?_of_mem hy
  have hlength := shares_length (Nat.le_refl (totalRoom xs))
  obtain ⟨hlt, -⟩ := List.getElem?_eq_some_iff.mp hi
  have hx : xs[i]? = some (xs[i]'(hlength ▸ hlt)) := List.getElem?_eq_getElem _
  obtain ⟨-, hroom, hle, hge⟩ := shares_bounds (Nat.le_refl _) hx hi
  obtain h0 | hpos := Nat.eq_zero_or_pos (totalRoom xs)
  · have hzero : (xs[i]'(hlength ▸ hlt)).room = 0 := Nat.le_zero.mp (h0 ▸ room_le_totalRoom (List.getElem_mem _))
    omega
  · rw [Nat.mul_div_cancel_left _ hpos] at hge
    omega

/-- In a list in order of address there is one of each. -/
theorem eq_of_ordered {α : Type} {f : α → Nat} {xs : List α} (h : xs.Pairwise fun x y => f x < f y) {x y : α} (hx : x ∈ xs) (hy : y ∈ xs)
    (hf : f x = f y) : x = y := by
  induction h with
  | nil => cases hx
  | @cons z zs hz _ ih =>
    obtain rfl | hxs := List.mem_cons.mp hx
    · obtain rfl | hys := List.mem_cons.mp hy
      · rfl
      · exact absurd hf (Nat.ne_of_lt (hz y hys))
    · obtain rfl | hys := List.mem_cons.mp hy
      · exact absurd hf.symm (Nat.ne_of_lt (hz x hxs))
      · exact ih hxs hys

/-- The share of an address, where addresses do not repeat. -/
theorem shareIs_shareOf {xs : List Alloc} (h : xs.Pairwise fun x y => x.address < y.address) (address : Nat) :
    ShareIs xs address (shareOf xs address) := by
  refine ⟨fun x hx ha => ?_, fun hnone => ?_⟩
  · have hfind : (xs.find? fun x => x.address == address) = some x := by
      cases hf : xs.find? fun x => x.address == address with
      | none => exact absurd ha (by simpa using List.find?_eq_none.mp hf x hx)
      | some y =>
        have hy : y.address = address := by simpa using List.find?_some hf
        rw [eq_of_ordered h (List.mem_of_find?_eq_some hf) hx (hy.trans ha.symm)]
    rw [shareOf, hfind]
    rfl
  · have hfind : (xs.find? fun x => x.address == address) = none := List.find?_eq_none.mpr fun x hx => by simpa using hnone x hx
    rw [shareOf, hfind]
    rfl

/-! ## The eligible trains (R55) -/

theorem mem_insertParty {p x : Party} {ps : List Party} : x ∈ insertParty p ps ↔ x = p ∨ x ∈ ps := by
  induction ps with
  | nil => simp [insertParty]
  | cons q qs ih =>
    unfold insertParty
    split
    · simp
    · simp only [List.mem_cons, ih, or_left_comm]

theorem insertParty_ordered {p : Party} {ps : List Party} (h : ps.Pairwise fun x y => x.address < y.address)
    (hne : ∀ x ∈ ps, x.address ≠ p.address) : (insertParty p ps).Pairwise fun x y => x.address < y.address := by
  induction ps with
  | nil => exact List.pairwise_singleton ..
  | cons q qs ih =>
    obtain ⟨hq, hqs⟩ := List.pairwise_cons.mp h
    unfold insertParty
    split
    · next hlt =>
      refine List.pairwise_cons.mpr ⟨fun x hx => ?_, h⟩
      obtain rfl | hx := List.mem_cons.mp hx
      · exact hlt
      · exact Nat.lt_trans hlt (hq x hx)
    · next hge =>
      refine List.pairwise_cons.mpr ⟨fun x hx => ?_, ih hqs fun x hx => hne x (List.mem_cons_of_mem _ hx)⟩
      obtain rfl | hx := mem_insertParty.mp hx
      · have := hne q (List.mem_cons_self ..)
        omega
      · exact hq x hx

theorem party_address {k : Kind} {e : Entry} {p : Party} (h : e.party k = some p) : p.address = e.address := by
  obtain ⟨f, -, -, -, -, -, -, -, rfl⟩ := (party_eq_some_iff k e p).mp h
  rfl

/-- The peers that take part, in order of address. -/
theorem peers_ordered {view : List Entry} (h : view.Pairwise fun x y => x.address < y.address) (k : Kind) :
    (view.filterMap (Entry.party k)).Pairwise fun x y => x.address < y.address :=
  List.pairwise_filterMap.mpr (h.imp fun hlt p hp q hq => by rwa [party_address hp, party_address hq])

theorem eligible_ordered {view : List Entry} {own : Party} (h : view.Pairwise fun x y => x.address < y.address)
    (hown : ∀ e ∈ view, e.address ≠ own.address) (k : Kind) :
    (eligible view k (some own)).Pairwise fun x y => x.address < y.address := by
  refine insertParty_ordered (peers_ordered h k) fun x hx => ?_
  obtain ⟨e, he, hparty⟩ := List.mem_filterMap.mp hx
  rw [party_address hparty]
  exact hown e he

theorem mem_eligible {view : List Entry} {k : Kind} {own p : Party} :
    p ∈ eligible view k (some own) ↔ p = own ∨ ∃ e ∈ view, TakesPart k e p := by
  have hpeers : p ∈ view.filterMap (Entry.party k) ↔ ∃ e ∈ view, TakesPart k e p := by
    simp only [List.mem_filterMap, party_eq_some_iff]
  exact mem_insertParty.trans (or_congr_right hpeers)

/-! ## The train that is shed (R58) -/

theorem getLast?_eq_some_iff_max {l : List Nat} (h : l.Pairwise (· < ·)) (a : Nat) : l.getLast? = some a ↔ a ∈ l ∧ ∀ b ∈ l, b ≤ a := by
  obtain rfl | ⟨init, x, rfl⟩ : l = [] ∨ ∃ init x, l = init ++ [x] :=
    (Classical.em (l = [])).imp id fun hne => ⟨l.dropLast, l.getLast hne, (List.dropLast_concat_getLast hne).symm⟩
  · simp
  · obtain ⟨-, -, hlast⟩ := List.pairwise_append.mp h
    have hmax : ∀ b ∈ init ++ [x], b ≤ x := fun b hb => by
      obtain hb | hb := List.mem_append.mp hb
      · exact Nat.le_of_lt (hlast b hb x (List.mem_singleton_self x))
      · exact Nat.le_of_eq (List.mem_singleton.mp hb)
    rw [List.getLast?_concat, Option.some.injEq]
    refine ⟨fun heq => heq ▸ ⟨by simp, hmax⟩, fun ⟨hmem, hle⟩ => Nat.le_antisymm (hle x (by simp)) (hmax a hmem)⟩

theorem shedAddress_iff {ps : List Party} (h : ps.Pairwise fun x y => x.address < y.address) (own : Nat) :
    shedAddress ps = some own ↔ IsShed ps own := by
  have hsorted : ((ps.filter fun p => p.command == p.minLoad).map Party.address).Pairwise (· < ·) :=
    List.pairwise_map.mpr (h.filter _)
  rw [shedAddress, getLast?_eq_some_iff_max hsorted]
  simp only [List.mem_map, List.mem_filter, beq_iff_eq, IsShed]
  constructor
  · rintro ⟨⟨p, ⟨hp, hcommand⟩, ha⟩, hmax⟩
    exact ⟨p, hp, ha, hcommand, fun q hq hqc => hmax q.address ⟨q, ⟨hq, hqc⟩, rfl⟩⟩
  · rintro ⟨p, hp, ha, hcommand, hmax⟩
    exact ⟨⟨p, ⟨hp, hcommand⟩, ha⟩, by rintro b ⟨q, ⟨hq, hqc⟩, rfl⟩; exact hmax q hq hqc⟩

/-! ## The desired value (R56 to R60) -/

theorem totalRoom_rising (ps : List Party) : totalRoom (rooms true ps) = (ps.map fun p => p.upper - p.command).sum := by
  simp [totalRoom, rooms, List.map_map, Function.comp_def]

theorem rooms_falling (ps : List Party) :
    rooms false ps = (ps.filter fun p => p.command ≠ 0).map fun p => ⟨p.address, p.command - p.minLoad, 0⟩ := by
  simp [rooms, bne, Bool.beq_eq_decide_eq]

theorem totalRoom_falling (ps : List Party) :
    totalRoom (rooms false ps) = ((ps.filter fun p => p.command ≠ 0).map fun p => p.command - p.minLoad).sum := by
  rw [rooms_falling, totalRoom, List.map_map]
  rfl

theorem rooms_ordered {ps : List Party} (h : ps.Pairwise fun x y => x.address < y.address) (rising : Bool) :
    (rooms rising ps).Pairwise fun x y => x.address < y.address := by
  unfold rooms
  split
  · exact List.pairwise_map.mpr h
  · exact List.pairwise_map.mpr (h.filter _)

theorem shares_ordered {bounded : Nat} {xs : List Alloc} (h : bounded ≤ totalRoom xs)
    (hxs : xs.Pairwise fun x y => x.address < y.address) : (shares bounded xs).Pairwise fun x y => x.address < y.address := by
  have hmap : ((shares bounded xs).map Alloc.address).Pairwise (· < ·) := by
    rw [shares_map_address h]
    exact List.pairwise_map.mpr hxs
  exact List.pairwise_map.mp hmap

theorem totalRoom_filter {xs : List Alloc} {keep : Alloc → Bool} (h : ∀ x ∈ xs, keep x = false → x.room = 0) :
    totalRoom (xs.filter keep) = totalRoom xs := by
  induction xs with
  | nil => rfl
  | cons x xs ih =>
    have ih := ih fun y hy => h y (List.mem_cons_of_mem _ hy)
    have hcons : totalRoom (x :: xs) = x.room + totalRoom xs := rfl
    cases hk : keep x with
    | true =>
      rw [List.filter_cons_of_pos hk, hcons, ← ih]
      rfl
    | false => rw [List.filter_cons_of_neg (by simp [hk]), ih, hcons, h x (List.mem_cons_self ..) hk, Nat.zero_add]

/-- The trains that stay when one is shed have the whole downroom. -/
theorem totalRoom_unshed {ps : List Party} (h : ps.Pairwise fun x y => x.address < y.address) :
    totalRoom ((rooms false ps).filter fun x => some x.address != shedAddress ps) = totalRoom (rooms false ps) := by
  refine totalRoom_filter fun x hx hshed => ?_
  have hshed : shedAddress ps = some x.address := by simpa using Eq.symm (by simpa using hshed)
  obtain ⟨p, hp, hpa, hcommand, -⟩ := (shedAddress_iff h _).mp hshed
  rw [rooms_falling] at hx
  obtain ⟨q, hq, rfl⟩ := List.mem_map.mp hx
  have hsame : p = q := eq_of_ordered h hp (List.mem_filter.mp hq).1 hpa
  change q.command - q.minLoad = 0
  rw [← hsame, hcommand, Nat.sub_self]

theorem mem_shares {bounded : Nat} {xs : List Alloc} {y : Alloc} (h : bounded ≤ totalRoom xs) (hy : y ∈ shares bounded xs) :
    ∃ x ∈ xs, y.address = x.address ∧ y.room = x.room := by
  obtain ⟨i, hi⟩ := List.getElem?_of_mem hy
  obtain ⟨hlt, -⟩ := List.getElem?_eq_some_iff.mp hi
  have hlt : i < xs.length := shares_length h ▸ hlt
  obtain ⟨ha, hroom, -, -⟩ := shares_bounds h (List.getElem?_eq_getElem hlt) hi
  exact ⟨_, List.getElem_mem hlt, ha, hroom⟩

theorem mem_rooms_falling {ps : List Party} {x : Alloc} (hx : x ∈ rooms false ps) :
    ∃ q ∈ ps, q.command ≠ 0 ∧ x = ⟨q.address, q.command - q.minLoad, 0⟩ := by
  rw [rooms_falling] at hx
  obtain ⟨q, hq, rfl⟩ := List.mem_map.mp hx
  obtain ⟨hq, hcommand⟩ := List.mem_filter.mp hq
  exact ⟨q, hq, by simpa using hcommand, rfl⟩

/-- Every train but the one that is shed falls to its own m where the error is beyond the downroom (R58). -/
theorem unshed_share {ps : List Party} {p : Party} (h : ps.Pairwise fun x y => x.address < y.address) (hp : p ∈ ps)
    (hshed : shedAddress ps ≠ some p.address) :
    p.command - shareOf (shares (totalRoom (rooms false ps)) ((rooms false ps).filter fun x => some x.address != shedAddress ps)) p.address =
      min p.command p.minLoad := by
  rw [← totalRoom_unshed h]
  generalize hxs : ((rooms false ps).filter fun x => some x.address != shedAddress ps) = xs
  have hordered : xs.Pairwise fun x y => x.address < y.address := hxs ▸ (rooms_ordered h false).filter _
  obtain ⟨hshare, hnone⟩ := shareIs_shareOf (shares_ordered (Nat.le_refl (totalRoom xs)) hordered) p.address
  have hpeer {y : Alloc} (hy : y ∈ shares (totalRoom xs) xs) (ha : y.address = p.address) :
      p.command ≠ 0 ∧ y.room = p.command - p.minLoad := by
    obtain ⟨x, hx, hxa, hroom⟩ := mem_shares (Nat.le_refl _) hy
    obtain ⟨q, hq, hcommand, rfl⟩ := mem_rooms_falling (List.mem_filter.mp (hxs ▸ hx)).1
    obtain rfl : q = p := eq_of_ordered h hq hp (hxa.symm.trans ha)
    exact ⟨hcommand, hroom⟩
  by_cases h0 : p.command = 0
  · rw [hnone fun y hy ha => (hpeer hy ha).1 h0]
    omega
  · have hx : (⟨p.address, p.command - p.minLoad, 0⟩ : Alloc) ∈ xs := by
      rw [← hxs, rooms_falling]
      refine List.mem_filter.mpr ⟨List.mem_map.mpr ⟨p, List.mem_filter.mpr ⟨hp, by simpa using h0⟩, rfl⟩, ?_⟩
      simpa using fun heq => hshed heq.symm
    have hmem : p.address ∈ (shares (totalRoom xs) xs).map Alloc.address := by
      rw [shares_map_address (Nat.le_refl _)]
      exact List.mem_map_of_mem hx
    obtain ⟨y, hy, ha⟩ := List.mem_map.mp hmem
    rw [hshare y hy ha, shares_whole hy, (hpeer hy ha).2]
    omega

/-- The shared desired value is the one that the table of R56 to R60 gives. -/
theorem desiredIs_shared {ps : List Party} {p : Party} (h : ps.Pairwise fun x y => x.address < y.address) (hp : p ∈ ps) (e : Int) :
    DesiredIs e ps p.address p.command p.minLoad (sharedDesired e ps p.address p.command) := by
  refine ⟨fun h0 => ?_, fun hpos => ?_, fun hneg hle => ?_, fun hneg hlt => ⟨fun hshed => ?_, fun hshed => ?_⟩⟩
  · rw [sharedDesired, if_pos h0]
  · rw [sharedDesired, if_neg (by omega), if_pos hpos, ← totalRoom_rising]
    exact ⟨_, rfl, shareIs_shareOf (shares_ordered (Nat.min_le_right _ _) (rooms_ordered h true)) _⟩
  · rw [← totalRoom_falling] at hle
    rw [sharedDesired, if_neg (by omega), if_neg (by omega), ← rooms_falling]
    dsimp only
    rw [if_neg (Nat.not_lt.mpr hle)]
    exact ⟨_, rfl, shareIs_shareOf (shares_ordered hle (rooms_ordered h false)) _⟩
  · rw [← totalRoom_falling] at hlt
    rw [sharedDesired, if_neg (by omega), if_neg (by omega)]
    dsimp only
    rw [if_pos hlt, if_pos ((shedAddress_iff h _).mpr hshed)]
  · rw [← totalRoom_falling] at hlt
    have hkept : shedAddress ps ≠ some p.address := fun heq => hshed ((shedAddress_iff h _).mp heq)
    rw [sharedDesired, if_neg (by omega), if_neg (by omega)]
    dsimp only
    rw [if_pos hlt, if_neg hkept]
    exact unshed_share h hp hkept

/-! ## The expiry of a train in direction (R60 to R64) -/

theorem desiredInDirection_unshared {k : Kind} (h : ¬ (s.seq.available = true ∧ s.book.held = none)) :
    desiredInDirection s k = s.share.command := by
  have hown : ownParty s = none := if_neg fun hall => h hall.2
  rw [desiredInDirection, hown]

theorem desiredInDirection_shared {k : Kind} (hs : s.seq.state = .running) (ha : s.seq.available = true) (hheld : s.book.held = none) :
    desiredInDirection s k = sharedDesired (errorOf s.book.target s.view k s.share.command)
      (eligible s.view k (some ⟨s.inForce.address, s.share.command, s.share.lastU, s.inForce.minLoad⟩)) s.inForce.address
      s.share.command := by
  have hown : ownParty s = some ⟨s.inForce.address, s.share.command, s.share.lastU, s.inForce.minLoad⟩ := if_pos ⟨hs, ha, hheld⟩
  rw [desiredInDirection, hown]

theorem newCommand_inDirection {k : Kind} (hs : s.seq.state = .running) (hd : direction s.book.target = some k) : newCommand s k =
    allow s k (min s.share.lastU (ramp s.share.command s.inForce.minLoad s.inForce.rampStep
      (snap s.inForce.minLoad (desiredInDirection s k)))) := by
  rw [newCommand, if_pos (by simp [inDirection, hs, hd])]
  rfl

/-- What the bars to a rise leave of a result (R64). -/
theorem allow_cases_iff {k : Kind} (hk : k ≠ .H) (hd : direction s.book.target = some k) (result : Nat) :
    (result ≤ s.share.command → allow s k result = result)
    ∧ (s.share.command < result →
        ((s.book.held = none ∧ s.seq.available = true
            ∧ ∀ e ∈ s.view, ∀ f, e.fields = .train f → e.relation = .sameCavern → f.kind ≠ k → f.kind ≠ .H → f.command = 0) →
          allow s k result = result)
        ∧ (¬ (s.book.held = none ∧ s.seq.available = true
            ∧ ∀ e ∈ s.view, ∀ f, e.fields = .train f → e.relation = .sameCavern → f.kind ≠ k → f.kind ≠ .H → f.command = 0) →
          allow s k result = min s.share.lastU s.share.command)) := by
  have hmay := mayRise_iff (s := s) hk
  unfold allow
  refine ⟨fun h => if_pos h, fun h => ⟨fun hfree => ?_, fun hbarred => ?_⟩⟩
  · rw [if_neg (Nat.not_le.mpr h), if_pos (hmay.mpr ⟨hfree.1, hfree.2.1, hd, hfree.2.2⟩)]
  · rw [if_neg (Nat.not_le.mpr h), if_neg fun hyes => hbarred ?_]
    · rfl
    · obtain ⟨hheld, havailable, -, hview⟩ := hmay.mp hyes
      exact ⟨hheld, havailable, hview⟩

/-- Settles O43: the shares by one pass over their truncation, the eligible trains in their order, and the stages of an expiry. -/
theorem sharesSumToBoundedError : Obligations.SharesSumToBoundedError := by
  refine ⟨fun bounded xs h => ⟨shares_sum h, shares_length h, fun i x hx y hy => shares_bounds h hx hy, ?_⟩,
    fun view k own hview hown => ⟨eligible_ordered hview hown k, fun p => mem_eligible⟩,
    fun s d k target hd hk hs hlaw htarget hsign => ?_⟩
  · obtain ⟨last, hget⟩ := shares_getElem h
    refine ⟨last, fun i x hx y hy => ?_⟩
    obtain rfl := Option.some.inj ((hget i x hx).symm.trans hy)
    rfl
  · have hH : k ≠ .H := by obtain ⟨rfl, -⟩ | ⟨rfl, -⟩ := hsign <;> decide
    have ht : s.isTrain = true := by obtain ⟨rfl, -⟩ | ⟨rfl, -⟩ := hsign <;> simp [State.isTrain, hk]
    refine exec_controlPeriodExpiry_train hd ht fun k' hk' => ?_
    obtain rfl : k' = k := Option.some.inj (hk'.symm.trans hk)
    have hrunning : (atRead d s).seq.state = .running := (atRead_state d s).trans hs
    have hdirection : direction (atRead d s).book.target = some k' :=
      (direction_eq_some_iff _ _).mpr ⟨target, (atRead_target d s).trans htarget, hsign⟩
    have hstays := loadedExpiry_stays (s := atRead d s) (k := k') fun hend => by rw [hend.1] at hrunning; cases hrunning
    have hwork : expiryWork k' (atRead d s) = loadedExpiry k' (atRead d s) := expiryWork_loaded (by rw [hrunning]; rfl)
    have hcommand := newCommand_inDirection hrunning hdirection
    have hallow := allow_cases_iff (s := atRead d s) hH hdirection
    rw [expiryStages_expiring, hwork]
    have hbook : (sendSetpoint (loadedExpiry k' (atRead d s))).book = (atRead d s).book := hstays.book (by decide)
    have havailable : (sendSetpoint (loadedExpiry k' (atRead d s))).seq.available = (atRead d s).seq.available :=
      hstays .available (by decide)
    have hlastU : (sendSetpoint (loadedExpiry k' (atRead d s))).share.lastU = (atRead d s).share.lastU := hstays .lastU (by decide)
    have hresult : (sendSetpoint (loadedExpiry k' (atRead d s))).share.command = newCommand (atRead d s) k' := loadedExpiry_command k' _
    rw [hbook, havailable, hlastU, hresult, hcommand]
    rw [atRead_command, atRead_sameBut d s .view (by decide)] at hallow
    refine ⟨desiredInDirection (atRead d s) k', _, fun hno => ?_, fun ha hheld => ?_, rfl, ?_⟩
    · exact (desiredInDirection_unshared hno).trans (atRead_command d s)
    · rw [desiredInDirection_shared hrunning ha hheld, atRead_command, atRead_inForce, atRead_target, htarget,
        atRead_sameBut d s .view (by decide)]
      have hordered := eligible_ordered (k := k') (own := ⟨s.inForce.address, s.share.command, (atRead d s).share.lastU, s.inForce.minLoad⟩)
        hlaw.1 (fun e he => (hlaw.2.1 e he).2)
      exact desiredIs_shared hordered (mem_eligible.mpr (.inl rfl)) _
    · rw [atRead_command, atRead_inForce]
      exact hallow _

end Sys2Proof.Machine
end

section
/-! PROOFS. The trip and the timers of the sequencer (R5, R106, R109, R110, R114, R126). -/

namespace Sys2Proof.Machine

variable {s : State}

/-! ## The status frame of a trip -/

/-- The station at a trip when its ALERT is asked for: fallen out of service, in TRIPPED, its allowances formed again and the trip noted (R114). -/
def atTrip (s : State) : State :=
  setpointIfFell s.share.command (noteTripped (noteCut .trip (cutReport s) (formPublished (evalAvailable
    { fallen s with seq := { (fallen s).seq with state := .tripped, tripOut := true } }))))

theorem trip_eq (ms : List Monitor) (s : State) : trip ms s =
    produce (.stateChange s.seq.state .tripped .trip) (produce (.trip ms) (askAlert .trip (cutReport s) (atTrip s))) := rfl

theorem trip_ofAsked (ms : List Monitor) (s : State) : SameBut [.reports] (askAlert .trip (cutReport s) (atTrip s)) (trip ms s) :=
  (produce_sameBut _ _).comp (produce_sameBut _ _) (by decide)

/-- The parts that the station at a trip has changed beside the fall. -/
theorem atTrip_ofFallen (s : State) :
    SameBut [.state, .tripOut, .available, .published, .openRecord, .setpoint] (fallen s) (atTrip s) := by
  refine SameBut.trans ((setTripOut_sameBut .tripped _).mono (by decide)) ?_
  refine SameBut.trans ((evalAvailable_sameBut _).comp (formPublished_sameBut _) (by decide)) ?_
  refine SameBut.trans ((noteCut_sameBut .trip (cutReport s) _).comp (noteTripped_sameBut _) (by decide)) ?_
  exact (setpointIfFell_sameBut s.share.command _).mono (by decide)

theorem fallen_sameBut (s : State) : SameBut fallParts s (fallen s) := by
  refine SameBut.trans ((stopSequence_sameBut s).mono (by decide)) ?_
  refine SameBut.trans ((dropCommand_sameBut _).mono (by decide)) ?_
  exact (unloadIfLoaded_sameBut s.seq.state _).mono (by decide)

theorem fallen_cooled_same (s : State) : (fallen s).heat.cooled = s.heat.cooled := by
  simp [fallen, dropCommand, stopSequence]

@[simp] theorem atTrip_state (s : State) : (atTrip s).seq.state = .tripped := by simp [atTrip]

theorem atTrip_published (h : s.isStore = true) : (atTrip s).heat.pubCharge = 0 ∧ (atTrip s).heat.pubDischarge = 0 := by
  have hforms := formPublished_idle (s := evalAvailable { fallen s with seq := { (fallen s).seq with state := .tripped, tripOut := true } })
    (((fallen_sameBut s).isStore (by decide)).trans h) (by simp)
  have hafter (v : State) : SameBut [.openRecord, .setpoint] v
      (setpointIfFell s.share.command (noteTripped (noteCut .trip (cutReport s) v))) :=
    SameBut.trans ((noteCut_sameBut .trip (cutReport s) v).mono (by decide))
      ((noteTripped_sameBut _).comp (setpointIfFell_sameBut s.share.command _) (by decide))
  obtain ⟨hcharge, hdischarge⟩ := hafter _ .published (by decide)
  exact ⟨hcharge.trans hforms.1, hdischarge.trans hforms.2⟩

/-- The parts before a trip that its status frame shows. -/
def rebuildBefore : List Part := [.inForce, .pendingStatus, .agreement, .target, .cooled, .clock]

/-- The parts after a trip that its status frame shows. -/
def rebuildAfter : List Part := [.inForce, .pendingStatus, .holder, .view, .cap, .staleTimer, .zones]

theorem RebuiltAtTrip.congr {v u w : State} (h : RebuiltAtTrip v u) (hs : ∀ p ∈ rebuildBefore, p.same s v)
    (hu : ∀ p ∈ rebuildAfter, p.same u w) : RebuiltAtTrip s w := by
  have hforce : v.inForce = s.inForce := hs .inForce (by decide)
  have hpending : v.bus.pendingStatus = s.bus.pendingStatus := hs .pendingStatus (by decide)
  obtain ⟨-, -, -, -, -, hheld⟩ := hs .agreement (by decide)
  have htarget : v.book.target = s.book.target := hs .target (by decide)
  have hcooled : v.heat.cooled = s.heat.cooled := hs .cooled (by decide)
  have hclock : v.clock = s.clock := hs .clock (by decide)
  have wforce : w.inForce = u.inForce := hu .inForce (by decide)
  have wpending : w.bus.pendingStatus = u.bus.pendingStatus := hu .pendingStatus (by decide)
  have wholder : w.link.holder = u.link.holder := hu .holder (by decide)
  have wview : w.view = u.view := hu .view (by decide)
  have wcap : w.bank.cap = u.bank.cap := hu .cap (by decide)
  obtain ⟨-, wmark⟩ := hu .staleTimer (by decide)
  obtain ⟨-, whot, -, -, woutlet⟩ := hu .zones (by decide)
  have woutput : heldOutput w = heldOutput u := by rw [heldOutput, wholder]; rfl
  have wflow : heldMassFlow w = heldMassFlow u := by rw [heldMassFlow, wholder]; rfl
  obtain ⟨hnone, hsome⟩ := h
  rw [hpending] at hnone hsome
  refine ⟨fun h0 => wpending.trans (hnone h0), fun h0 => ⟨fun k hk hne x hx => ?_, fun hstore => ?_⟩⟩
  · have hbuilt := (hsome h0).1 k (hforce ▸ hk) hne _ rfl
    have hlimit : upperLimit x = upperLimit { u with heat := { u.heat with cooled := v.heat.cooled } } := by
      rw [hx]
      exact upperLimit_congr wforce wholder wview hcooled.symm wcap
    have hheat : heatFlow x = heatFlow { u with heat := { u.heat with cooled := v.heat.cooled } } := by
      rw [hx]
      simp only [heatFlow, heldOutput, wholder, wforce, hcooled]
    rw [wpending, hbuilt, woutput, wflow, hlimit, hheat, hforce, hheld, hcooled, hclock, htarget]
  · have hbuilt := (hsome h0).2 (by rw [State.isStore, hforce]; exact hstore)
    rw [wpending, hbuilt, hforce, wmark, woutlet, whot]

theorem readUAtBuild_withBus (v : State) (b : Bus) : readUAtBuild { v with bus := b } = { readUAtBuild v with bus := b } := by
  by_cases ht : v.isTrain = true
  · rw [show readUAtBuild v = readU v from if_pos ht]
    exact if_pos ht
  · rw [show readUAtBuild v = v from if_neg ht]
    exact if_neg ht

/-- The frame that an ALERT has built again is the one of the station as it stands. -/
theorem askAlert_pendingStatus (reason : AlertReason) (cut : CutReport) (v : State) : (askAlert reason cut v).bus.pendingStatus =
    if v.bus.pendingStatus.isSome then (buildStatus v).bus.pendingStatus else none := by
  unfold askAlert
  split
  · unfold buildStatus
    dsimp only
    rw [readUAtBuild_withBus]
    rfl
  · next h => exact Option.not_isSome_iff_eq_none.mp h

theorem monitorActive_of_latched {m : Monitor} (h : (s.bank.monitor m).cond = .latched) : (allMonitors.any fun m =>
    decide ((s.bank.monitor m).cond = .active ∨ (s.bank.monitor m).cond = .latched)) = true :=
  List.any_eq_true.mpr ⟨m, by cases m <;> simp [allMonitors], decide_eq_true (.inr h)⟩

/-- A pending status frame stands at a trip as after it (R5, R114). -/
theorem rebuiltAtTrip_trip (ms : List Monitor) (hlatched : ∃ m, (s.bank.monitor m).cond = .latched) : RebuiltAtTrip s (trip ms s) := by
  have hfall : SameBut (fallParts ++ [.published, .openRecord]) s (atTrip s) :=
    ((fallen_sameBut s).mono (by decide)).trans ((atTrip_ofFallen s).mono (by decide))
  have hasked : SameBut [.pendingAlert, .pendingStatus, .available, .lastU, .reports] (atTrip s) (trip ms s) :=
    (askAlert_sameBut .trip (cutReport s) (atTrip s)).comp (trip_ofAsked ms s) (by decide)
  have hcooled : (atTrip s).heat.cooled = s.heat.cooled := (atTrip_ofFallen s .cooled (by decide)).trans (fallen_cooled_same s)
  have hlatch : ∃ m, ((atTrip s).bank.monitor m).cond = .latched := by
    obtain ⟨m, hm⟩ := hlatched
    refine ⟨m, ?_⟩
    rw [(atTrip_ofFallen s).monitor (by decide) m, fallen_latched]
    exact hm
  have hpending : (trip ms s).bus.pendingStatus = _ := (trip_ofAsked ms s .pendingStatus (by decide)).trans (askAlert_pendingStatus _ _ _)
  have hbefore : (atTrip s).bus.pendingStatus = s.bus.pendingStatus := hfall .pendingStatus (by decide)
  rw [hbefore] at hpending
  have hforce : (atTrip s).inForce = s.inForce := hfall .inForce (by decide)
  have hcommand : (atTrip s).share.command = 0 := (atTrip_ofFallen s .command (by decide)).trans (by simp)
  refine ⟨fun h0 => hpending.trans (if_neg (by simp [h0])), fun h0 => ?_⟩
  rw [if_pos (Option.isSome_iff_ne_none.mpr h0)] at hpending
  refine ⟨fun k hk hne v hv => ?_, fun hstore => ?_⟩
  · have htrain : (atTrip s).isTrain = true := by
      rw [State.isTrain, hforce, hk]
      cases k <;> simp_all
    have havailable : (readU (atTrip s)).seq.available = false := (readU_law (atTrip s)).clear (.inr
      (congrArg StationState.mayBeAvailable (atTrip_state s)))
    have hholder : (trip ms s).link.holder = (atTrip s).link.holder := hasked .holder (by decide)
    have houtput : heldOutput (trip ms s) = heldOutput (atTrip s) := by rw [heldOutput, hholder]; rfl
    have hflow : heldMassFlow (trip ms s) = heldMassFlow (atTrip s) := by rw [heldMassFlow, hholder]; rfl
    have wforce : (trip ms s).inForce = (atTrip s).inForce := hasked .inForce (by decide)
    have hlimit : upperLimit v = upperLimit (atTrip s) := by
      rw [hv]
      exact upperLimit_congr wforce hholder (hasked .view (by decide)) hcooled.symm (hasked .cap (by decide))
    have hheat : heatFlow v = heatFlow (atTrip s) := by
      rw [hv]
      simp only [heatFlow, heldOutput, hholder, wforce, hcooled]
    rw [hpending, buildStatus_train htrain, trainFieldsNow_readU (k := k) (by rw [hforce, hk]), havailable, hcommand, hcooled, hforce,
      hfall.book (by decide), hfall .clock (by decide), houtput, hflow, hlimit, hheat, atTrip_state]
  · obtain ⟨hcharge, hdischarge⟩ := atTrip_published hstore
    obtain ⟨m, hm⟩ := hlatch
    obtain ⟨-, hmark⟩ := hasked .staleTimer (by decide)
    obtain ⟨-, hhot, -, -, houtlet⟩ := hasked .zones (by decide)
    rw [hpending, buildStatus_store ((hfall.isStore (by decide)).trans hstore), storeFieldsNow_eq, monitorActive_of_latched hm, hcharge,
      hdischarge, hforce, atTrip_state, hmark, hhot, houtlet]

theorem askAlert_pendingAlert (reason : AlertReason) (cut : CutReport) (v : State) :
    (askAlert reason cut v).bus.pendingAlert = some ⟨v.inForce.address, reason, cut⟩ := by
  unfold askAlert
  dsimp only
  split
  · unfold buildStatus
    rw [readUAtBuild_withBus]
  · rfl

theorem trip_pendingAlert (ms : List Monitor) (s : State) :
    (trip ms s).bus.pendingAlert = some ⟨s.inForce.address, .trip, cutReport s⟩ := by
  have hforce : (atTrip s).inForce = s.inForce := (atTrip_ofFallen s .inForce (by decide)).trans (fallen_sameBut s .inForce (by decide))
  rw [trip_ofAsked ms s .pendingAlert (by decide), askAlert_pendingAlert, hforce]

/-! ## The timers of the sequencer -/

theorem endWindow_latched (h : ∃ m, (s.bank.monitor m).cond = .latched) : endWindow s = trip s.bank.latchedSet s := by
  obtain ⟨m, hm⟩ := h
  have hset : s.bank.latchedSet ≠ [] := fun hnil => (latchedSet_eq_nil_iff _).mp hnil m hm
  unfold endWindow
  rw [if_neg (by rwa [List.isEmpty_iff])]

theorem endWindow_clear (h : ∀ m, (s.bank.monitor m).cond ≠ .latched) :
    endWindow s = if s.isStore then enterActive .joinEnd s else enterStandby .joinEnd s := by
  unfold endWindow
  rw [(latchedSet_eq_nil_iff _).mpr h]
  rfl

theorem enterStandby_share (cause : Cause) (s : State) :
    (enterStandby cause s).share.command = 0 ∧ (enterStandby cause s).share.wake = 0 :=
  ⟨(enterStandby_ofFallen cause s .command (by decide)).trans (by simp), (enterStandby_ofFallen cause s .wake (by decide)).trans (by simp)⟩

theorem exec_joinTimerExpiry {d : Nat} (hd : s.seq.joinTimer = some d) (hs : s.seq.state = .joining) :
    exec .joinTimerExpiry s = .next (endWindow (s.atInstant d)) := by
  simp [exec, execJoinTimerExpiry, joinExpiry, hd, hs]

/-- The join window of a train ends in STANDBY where no monitor is latched (R106). -/
theorem joinEnd_standby {d : Nat} (hs : s.seq.state = .joining) :
    (enterStandby .joinEnd (s.atInstant d)).seq.joinTimer = none ∧ (enterStandby .joinEnd (s.atInstant d)).seq.tripHeld = false
    ∧ Queued s (enterStandby .joinEnd (s.atInstant d)) (.stateChange .joining .standby .joinEnd) := by
  have hfallen := enterStandby_ofFallen .joinEnd (s.atInstant d)
  obtain ⟨rs, hreports, -⟩ := enterStandby_produces .joinEnd (s.atInstant d)
  refine ⟨(hfallen .joinTimer (by decide)).trans (by simp), (hfallen .tripHeld (by decide)).trans (by simp), ?_⟩
  have hqueued : Queued s _ (.stateChange s.seq.state .standby .joinEnd) := hreports.queued
  rwa [hs] at hqueued

/-- The join window of a store ends in ACTIVE where no monitor is latched (R106). -/
theorem joinEnd_active {d : Nat} (hstore : s.isStore = true) (hs : s.seq.state = .joining) :
    (enterActive .joinEnd (s.atInstant d)).seq.joinTimer = none ∧ (enterActive .joinEnd (s.atInstant d)).seq.tripHeld = false
    ∧ PublishedByTable (enterActive .joinEnd (s.atInstant d))
    ∧ Queued s (enterActive .joinEnd (s.atInstant d)) (.stateChange .joining .active .joinEnd) := by
  have hstopped := enterActive_ofStopped .joinEnd (s.atInstant d)
  refine ⟨hstopped .joinTimer (by decide), hstopped .tripHeld (by decide), ?_, ?_⟩
  · exact publishedByTable_formPublished (hstopped.isStore (by decide) ▸ hstore) (by simp)
  · have hqueued : Queued s _ (.stateChange s.seq.state .active .joinEnd) := (enterActive_produces .joinEnd (s.atInstant d)).queued
    rwa [hs] at hqueued

theorem standbyTime_eq (code : Nat) : standbyTime code = (if code = 0 then 240 else code * 2) * 60000 := by
  simp only [standbyTime, minutes, apply_ite (· * 60000)]

theorem enterRunning_produces (s : State) : Produces [.stateChange s.seq.state .running .startDone] s (enterRunning s) := ⟨rfl, rfl, rfl⟩

theorem exec_startTimerExpiry {d : Nat} (hd : s.seq.startTimer = some d) (hs : s.seq.state = .starting) :
    exec .startTimerExpiry s = .next (enterRunning (s.atInstant d)) := by
  simp [exec, execStartTimerExpiry, startExpiry, hd, hs]

theorem exec_standbyTimerExpiry {d : Nat} (hd : s.seq.standbyTimer = some d) (hs : s.seq.state = .running) :
    exec .standbyTimerExpiry s = .next (enterStandby .standbyTimer (s.atInstant d)) := by
  simp [exec, execStandbyTimerExpiry, standbyExpires, hd, hs]

/-- Settles O48: timer by timer, the end of the join window by the latches that it finds. -/
theorem sequencerTimersRunOut : Obligations.SequencerTimersRunOut := by
  intro s d
  refine ⟨fun hs hd => ⟨fun hclear => ?_, fun hlatched => ?_⟩, fun hs hd h0 => ?_, fun hs hd h0 => ?_, fun hd => ?_, fun hd => ?_⟩
  · have hstep := (exec_joinTimerExpiry hd hs).trans (congrArg _ (endWindow_clear (s := s.atInstant d) hclear))
    cases hstore : s.isStore with
    | false =>
      obtain ⟨htimer, hheld, hqueued⟩ := joinEnd_standby (d := d) hs
      obtain ⟨hcommand, hwake⟩ := enterStandby_share .joinEnd (s.atInstant d)
      have hbranch : (if (s.atInstant d).isStore = true then enterActive .joinEnd (s.atInstant d)
        else enterStandby .joinEnd (s.atInstant d)) = enterStandby .joinEnd (s.atInstant d) := if_neg (fun h => Bool.false_ne_true (hstore.symm.trans h))
      exact .of_next hstep hbranch ⟨(enterStandby_keeps _ _).1, by simp, htimer, hheld, fun _ => ⟨hwake, hcommand⟩, (fun h => nomatch h), hqueued⟩
    | true =>
      obtain ⟨htimer, hheld, hpublished, hqueued⟩ := joinEnd_active (d := d) hstore hs
      have hbranch : (if (s.atInstant d).isStore = true then enterActive .joinEnd (s.atInstant d)
        else enterStandby .joinEnd (s.atInstant d)) = enterActive .joinEnd (s.atInstant d) := if_pos hstore
      exact .of_next hstep hbranch ⟨(enterActive_keeps _ _).1, by simp, htimer, hheld, (fun h => nomatch h), fun _ => ⟨by simp, hpublished⟩, hqueued⟩
  · have hstep := (exec_joinTimerExpiry hd hs).trans (congrArg _ (endWindow_latched (s := s.atInstant d) hlatched))
    have hfallen := trip_ofFallen (s.atInstant d).bank.latchedSet (s.atInstant d)
    refine ⟨_, hstep, by simp, by simp, (hfallen .tripHeld (by decide)).trans (by simp), (hfallen .joinTimer (by decide)).trans (by simp),
      by simp, rebuiltAtTrip_trip (s := s.atInstant d) _ hlatched, ⟨_, trip_pendingAlert _ _⟩⟩
  · have hblank (time : Nat) : blankingFrom (s.atInstant d) time = if time = 0 then none else some (max s.now d + time * 1000) := rfl
    have hqueued : Queued s (enterRunning (s.atInstant d)) (.stateChange s.seq.state .running .startDone) :=
      (enterRunning_produces (s.atInstant d)).queued
    rw [hs] at hqueued
    refine ⟨_, exec_startTimerExpiry hd hs, rfl, by simp, h0, rfl, congrArg some ?_, fun h => ?_, fun h => ?_, fun h => ?_, hqueued⟩
    · exact congrArg (max s.now d + ·) (standbyTime_eq _)
    · exact (hblank _).trans (if_neg h)
    · exact (hblank _).trans (if_neg h)
    · exact (hblank _).trans (if_pos h)
  · have hfallen := enterStandby_ofFallen .standbyTimer (s.atInstant d)
    obtain ⟨rs, hreports, -⟩ := enterStandby_produces .standbyTimer (s.atInstant d)
    obtain ⟨hcommand, hwake⟩ := enterStandby_share .standbyTimer (s.atInstant d)
    obtain ⟨hthermal, hmargin⟩ := hfallen .blanking (by decide)
    obtain ⟨fthermal, fmargin⟩ := fallen_blanking (s.atInstant d)
    have hloaded : (s.atInstant d).seq.state.loaded = true := congrArg StationState.loaded hs
    rw [if_pos hloaded] at fthermal fmargin
    refine ⟨_, exec_standbyTimerExpiry hd hs, (enterStandby_keeps _ _).1, by simp, hcommand, hwake, (hfallen .standbyTimer (by decide)).trans (by simp),
      hthermal.trans fthermal, hmargin.trans fmargin, (enterStandby_setpoint _ _).trans (if_neg fun h => h.1 h0), ?_⟩
    have hqueued : Queued s _ (.stateChange s.seq.state .standby .standbyTimer) := hreports.queued
    rwa [hs] at hqueued
  · simp only [exec, execBlankingTimerExpiry, blankingExpiry, hd, State.atInstant]
  · simp only [exec, execBlankingTimerExpiry, blankingExpiry, hd, State.atInstant]

end Sys2Proof.Machine
end

section
/-! PROOFS. The stale timer (R89, R114, R130, R157), with the facts about the bank's work that the records share: what the latches do in each state, and the
station after a trip and the read of U that follows it. -/

namespace Sys2Proof.Machine

variable {s : State}

/-! ## Whole blocks that a change misses -/

theorem bank_of_parts {u : State} {b : Bank} (hmonitors : ∀ m, u.bank.monitor m = b.monitor m)
    (hblank : u.bank.blankThermal = b.blankThermal ∧ u.bank.blankMargin = b.blankMargin) (hcap : u.bank.cap = b.cap) : u.bank = b := by
  have hnative := hmonitors .native
  have hthermal := hmonitors .thermal
  have hmargin := hmonitors .margin
  have hstale := hmonitors .stale
  have hzone := hmonitors .zoneHigh
  obtain ⟨hbt, hbm⟩ := hblank
  cases hu : u.bank
  cases b
  simp_all [Bank.monitor]

theorem SameBut.bank {ps : List Part} {u : State} (h : SameBut ps s u)
    (hd : ∀ p ∈ [Part.native, .thermal, .margin, .stale, .zoneHigh, .blanking, .cap], p ∉ ps) : u.bank = s.bank :=
  bank_of_parts (h.monitor fun p hp => hd p (by revert p; decide)) (h .blanking (hd _ (by simp))) (h .cap (hd _ (by simp)))

theorem SameBut.bus {ps : List Part} {u : State} (h : SameBut ps s u)
    (hd : ∀ p ∈ [Part.statusTimer, .pendingStatus, .pendingAlert, .onBus, .receiveQueue], p ∉ ps) : u.bus = s.bus :=
  bus_of_parts (h .statusTimer (hd _ (by simp))) (h .pendingStatus (hd _ (by simp))) (h .pendingAlert (hd _ (by simp)))
    (h .onBus (hd _ (by simp))) (h .receiveQueue (hd _ (by simp)))

/-! ## The latches by the state that they find (R106, R114, R133) -/

theorem handleLatches_nil (s : State) : handleLatches [] s = s := rfl

theorem handleLatches_joining {ms : List Monitor} (hms : ms ≠ []) (hs : s.seq.state = .joining) :
    handleLatches ms s = { s with seq := { s.seq with tripHeld := true } } := by
  simp [handleLatches, hms, hs]

theorem handleLatches_idle {ms : List Monitor} (hs : s.seq.state ≠ .joining) (hout : s.seq.state.inService = false) :
    handleLatches ms s = s := by
  simp [handleLatches, hs, hout]

theorem handleLatches_tripHeld {ms : List Monitor} (hms : ms ≠ []) (hout : s.seq.state.inService = false) :
    (handleLatches ms s).seq.tripHeld = (s.seq.tripHeld || decide (s.seq.state = .joining)) := by
  by_cases hs : s.seq.state = .joining
  · rw [handleLatches_joining hms hs]
    simp [hs]
  · rw [handleLatches_idle hs hout]
    simp [hs]

theorem handleLatches_trip {ms : List Monitor} (hms : ms ≠ []) (hs : s.seq.state.inService = true) : handleLatches ms s = trip ms s := by
  have hjoin : s.seq.state ≠ .joining := fun h => by rw [h] at hs; cases hs
  simp [handleLatches, hms, hs, hjoin]

/-- Where no trip is made the latches set the trip-held mark at most. -/
theorem handleLatches_keepsState {ms : List Monitor} (h : ms = [] ∨ s.seq.state.inService = false) :
    SameBut [.tripHeld] s (handleLatches ms s) := by
  unfold handleLatches
  split
  · exact .refl _ s
  · next hms =>
    split
    · exact setTripHeld_sameBut s
    · rw [if_neg]
      · exact .refl _ s
      · obtain rfl | hout := h
        · exact absurd rfl hms
        · simp [hout]

/-! ## The published allowances and the read of U at the end of the bank's work -/

/-- A store publishes by R89's table in ACTIVE, and nothing elsewhere. -/
theorem readForms_published (hstore : s.isStore = true) :
    ((readUpper (formPublished s)).seq.state = .active → PublishedByTable (readUpper (formPublished s)))
    ∧ ((readUpper (formPublished s)).seq.state ≠ .active →
      (readUpper (formPublished s)).heat.pubCharge = 0 ∧ (readUpper (formPublished s)).heat.pubDischarge = 0) := by
  have hframe := formPublished_sameBut s
  rw [readUpper_of_store ((hframe.isStore (by decide)).trans hstore), hframe.state (by decide)]
  exact ⟨publishedByTable_formPublished hstore, formPublished_idle hstore⟩

/-- The blocks that the read of U keeps where it does not end a leave. -/
theorem readForms_blocks (h : (readUpper (formPublished s)).seq.state ≠ .offline) :
    (readUpper (formPublished s)).bank = s.bank ∧ (readUpper (formPublished s)).account = s.account
    ∧ (readUpper (formPublished s)).bus = s.bus ∧ (readUpper (formPublished s)).seq.tripOut = s.seq.tripOut
    ∧ (readUpper (formPublished s)).seq.tripHeld = s.seq.tripHeld := by
  obtain hread | ⟨-, hoff, -⟩ := readUpper_changes (formPublished s)
  · have hall : SameBut (.published :: readParts) s (readUpper (formPublished s)) := (formPublished_sameBut s).comp hread (by decide)
    exact ⟨hall.bank (by decide), hall.account (by decide), hall.bus (by decide), hall .tripOut (by decide), hall .tripHeld (by decide)⟩
  · exact absurd hoff h

/-- The read of U after the bank's work cuts a command above the limit found with the cap that the work left (R50). -/
theorem readForms_cutAtRead {v : State} (hs : ∀ p ∈ .cooled :: cutBefore, p.same s v) :
    CutAtRead s (readUpper (formPublished v)) (limitRead s v.link.holder v.view v.bank.cap) := by
  have hforms := formPublished_sameBut v
  have hcut := cutAtRead_after (v := formPublished v) (w := readUpper (formPublished v))
    (fun p hp => Part.same_trans (hs p hp) (hforms p (by revert p; decide))) (fun p _ => p.same_refl _) (readUpper_now _)
  rwa [hforms .holder (by decide), hforms .view (by decide), hforms .cap (by decide)] at hcut

/-- The reports of the read of U after the bank's own. -/
theorem readForms_produces {v : State} {rs : List Report} (h : Produces rs s v) : ∃ qs,
    Produces (rs ++ qs) s (readUpper (formPublished v)) ∧ ∀ q ∈ qs, isReadReport q := by
  obtain ⟨qs, hread, hqs⟩ := readUpper_produces (formPublished v)
  exact ⟨qs, (h.then_sameBut (formPublished_sameBut v) (by decide)).trans hread, hqs⟩

theorem onlyReadReports_of_produces {u : State} {rs : List Report} (h : Produces rs s u) (hrs : ∀ r ∈ rs, isReadReport r) :
    OnlyReadReports s u := fun _ hx => (h.mem_or hx).imp_right (hrs _)

/-! ## A trip with the read of U after it -/

/-- The station after a trip of the bank and the read of U that ends its work (R114, R123). -/
def tripRead (ms : List Monitor) (s : State) : State := readUpper (formPublished (trip ms s))

theorem tripRead_ofTrip (ms : List Monitor) (s : State) :
    SameBut [.published, .cooled, .reports, .available, .lastU] (trip ms s) (tripRead ms s) := by
  have hforms := formPublished_sameBut (trip ms s)
  have hidle : (formPublished (trip ms s)).seq.state.loaded = false := by
    rw [hforms.state (by decide), trip_state]
    rfl
  exact hforms.comp (readUpper_idle_sameBut hidle) (by decide)

/-- The parts that a trip and the read of U after it change beside the fall. -/
theorem tripRead_ofFallen (ms : List Monitor) (s : State) :
    SameBut [.state, .tripOut, .available, .published, .openRecord, .setpoint, .pendingAlert, .pendingStatus, .lastU, .reports, .cooled]
      (fallen s) (tripRead ms s) :=
  (trip_ofFallen ms s).comp (tripRead_ofTrip ms s) (by decide)

@[simp] theorem tripRead_state (ms : List Monitor) (s : State) : (tripRead ms s).seq.state = .tripped :=
  (tripRead_ofTrip ms s .state (by decide)).trans (trip_state ms s)

@[simp] theorem tripRead_tripOut (ms : List Monitor) (s : State) : (tripRead ms s).seq.tripOut = true :=
  (tripRead_ofTrip ms s .tripOut (by decide)).trans (trip_tripOut ms s)

theorem tripRead_seq (ms : List Monitor) (s : State) :
    (tripRead ms s).seq.standbyTimer = none ∧ (tripRead ms s).seq.startTimer = none ∧ (tripRead ms s).share.command = 0 := by
  have hfallen := tripRead_ofFallen ms s
  refine ⟨(hfallen .standbyTimer (by decide)).trans ?_, (hfallen .startTimer (by decide)).trans ?_, (hfallen .command (by decide)).trans ?_⟩
  · simp
  · simp
  · simp

theorem tripRead_available (ms : List Monitor) (s : State) : (tripRead ms s).seq.available = false := by
  have hforms : AvailableLaw (formPublished (trip ms s)) :=
    availableLaw_only.keeps (formPublished_sameBut _) (by decide) (trip_availableLaw ms s)
  have hidle : (formPublished (trip ms s)).seq.state.loaded = false := by
    rw [formPublished_sameBut (trip ms s) .state (by decide), trip_state]
    rfl
  have hlaw : AvailableLaw (tripRead ms s) := by
    unfold tripRead
    obtain hr | hr := readUpper_idle hidle <;> rw [hr]
    · exact hforms
    · exact readU_law _
  exact hlaw.clear (.inr (by rw [tripRead_state]; rfl))

theorem tripRead_pendingAlert (ms : List Monitor) (s : State) :
    (tripRead ms s).bus.pendingAlert = some ⟨s.inForce.address, .trip, cutReport s⟩ :=
  (tripRead_ofTrip ms s .pendingAlert (by decide)).trans (trip_pendingAlert ms s)

theorem tripRead_monitor (ms : List Monitor) (s : State) (m : Monitor) : (tripRead ms s).bank.monitor m =
    if s.seq.state.loaded = true ∧ (m = .thermal ∨ m = .margin) then unloadMonitor (s.bank.monitor m) else s.bank.monitor m :=
  ((tripRead_ofFallen ms s).monitor (by decide) m).trans (fallen_monitor s m)

theorem rebuiltAtTrip_tripRead (ms : List Monitor) (hlatched : ∃ m, (s.bank.monitor m).cond = .latched) :
    RebuiltAtTrip s (tripRead ms s) :=
  (rebuiltAtTrip_trip ms hlatched).congr (fun p _ => p.same_refl s) fun p hp => tripRead_ofTrip ms s p (by revert p; decide)

/-- The trip is noted in the open record, with its cut report (R141). -/
theorem tripRead_openRec (ms : List Monitor) (s : State) : (tripRead ms s).account.openRec =
    s.account.openRec.map fun r => { r with trippedSeen := true, cut := some ⟨.trip, cutReport s⟩ } := by
  have hnotes (v : State) : (noteTripped (noteCut .trip (cutReport s) v)).account.openRec =
      v.account.openRec.map fun r => { r with trippedSeen := true, cut := some ⟨.trip, cutReport s⟩ } := Option.map_map ..
  have hforms := (formPublished_sameBut (evalAvailable { fallen s with seq := { (fallen s).seq with state := .tripped, tripOut := true } }))
  have hbefore : (fallen s).account.openRec = s.account.openRec := fallen_sameBut s .openRecord (by decide)
  have hasked : (trip ms s).account.openRec = (atTrip s).account.openRec :=
    (trip_ofAsked ms s .openRecord (by decide)).trans (askAlert_sameBut _ _ _ .openRecord (by decide))
  rw [tripRead_ofTrip ms s .openRecord (by decide), hasked, atTrip, setpointIfFell_sameBut _ _ .openRecord (by decide), hnotes,
    hforms .openRecord (by decide)]
  exact congrArg _ hbefore

theorem tripRead_setpoint (ms : List Monitor) (ht : s.isTrain = true) (h0 : s.share.command ≠ 0) :
    ∃ p, (tripRead ms s).link.setpoint = some p ∧ p.command = 0 ∧ p.state = .tripped := by
  have hafter : (tripRead ms s).link.setpoint = (atTrip s).link.setpoint :=
    (tripRead_ofTrip ms s .setpoint (by decide)).trans
      ((trip_ofAsked ms s .setpoint (by decide)).trans (askAlert_sameBut _ _ _ .setpoint (by decide)))
  have hsent : (atTrip s).link.setpoint = some (setpointNow (atTrip s)) := by
    unfold atTrip setpointIfFell
    have htrain : (noteTripped (noteCut .trip (cutReport s) (formPublished (evalAvailable
        { fallen s with seq := { (fallen s).seq with state := .tripped, tripOut := true } })))).isTrain = true := by
      simpa [State.isTrain, fallen, dropCommand, stopSequence] using ht
    rw [if_pos ⟨h0, htrain⟩]
    rfl
  exact ⟨_, hafter.trans hsent, (atTrip_ofFallen s .command (by decide)).trans (by simp), atTrip_state s⟩

theorem tripRead_published (ms : List Monitor) (hstore : s.isStore = true) :
    (tripRead ms s).heat.pubCharge = 0 ∧ (tripRead ms s).heat.pubDischarge = 0 :=
  (readForms_published (s := trip ms s) (((trip_ofFallen ms s).isStore (by decide)).trans
    (((fallen_sameBut s).isStore (by decide)).trans hstore))).2 (by rw [← tripRead, tripRead_state]; decide)

theorem tripRead_produces (ms : List Monitor) (s : State) : ∃ qs,
    Produces (.trip ms :: .stateChange s.seq.state .tripped .trip :: qs) s (tripRead ms s) ∧ ∀ q ∈ qs, isReadReport q :=
  readForms_produces (trip_produces ms s)

end Sys2Proof.Machine
end

section
/-! PROOFS. The stale expiry by the mode in force of M_STALE (R130, R157). -/

namespace Sys2Proof.Machine

variable {s : State}

/-! ## M_STALE judged, by its mode (R130) -/

theorem staleJudged_off (h : s.inForce.modes.stale = .off) : staleJudged s = (markStale s, []) := by
  unfold staleJudged judgeStale
  rw [show (markStale s).inForce.modes.stale = .off from h]

theorem staleJudged_latched (h : s.inForce.modes.stale = .latch) (hm : s.bank.stale.cond = .latched) : staleJudged s =
    ({ markStale s with bank := { s.bank with stale := { s.bank.stale with mark := true } } }, []) := by
  unfold staleJudged judgeStale
  rw [show (markStale s).inForce.modes.stale = .latch from h]
  exact if_pos hm

/-- The station with its measurements marked stale and M_STALE LATCHED (R125, R130). -/
def staleLatched (s : State) : State := { markStale s with bank := { s.bank with stale := ⟨.latched, 0, 0, true⟩ } }

theorem staleJudged_latches (h : s.inForce.modes.stale = .latch) (hm : s.bank.stale.cond ≠ .latched) :
    staleJudged s = (staleLatched s, [.stale]) := by
  unfold staleJudged judgeStale
  rw [show (markStale s).inForce.modes.stale = .latch from h]
  exact if_neg hm

theorem staleJudged_warn (h : s.inForce.modes.stale = .warn) : staleJudged s =
    (produce (.monitorWarn .stale .warn) { markStale s with bank := { s.bank with stale := ⟨.active, 0, 0, true⟩ } }, []) := by
  unfold staleJudged judgeStale
  rw [show (markStale s).inForce.modes.stale = .warn from h]
  rfl

theorem staleJudged_retry (h : s.inForce.modes.stale = .retry) : staleJudged s =
    (produce (.monitorWarn .stale .retry) (holdPublished { markStale s with bank := { s.bank with
      stale := ⟨.active, 0, 0, true⟩, cap := if s.isTrain then min s.bank.cap s.share.command else s.bank.cap } }), []) := by
  unfold staleJudged judgeStale
  rw [show (markStale s).inForce.modes.stale = .retry from h]
  rfl

/-- In every mode the measurements are marked stale and the timer is stopped (R157). -/
theorem staleJudged_link (s : State) : (staleJudged s).1.link.staleTimer = none ∧ (staleJudged s).1.link.staleMark = true := by
  cases h : s.inForce.modes.stale with
  | off =>
    rw [staleJudged_off h]
    exact ⟨rfl, rfl⟩
  | warn =>
    rw [staleJudged_warn h]
    simp [markStale]
  | retry =>
    rw [staleJudged_retry h]
    simp [markStale, holdPublished]
  | latch =>
    by_cases hm : s.bank.stale.cond = .latched
    · rw [staleJudged_latched h hm]
      exact ⟨rfl, rfl⟩
    · rw [staleJudged_latches h hm]
      exact ⟨rfl, rfl⟩

theorem exec_staleTimerExpiry {d : Nat} (hd : s.link.staleTimer = some d) :
    exec .staleTimerExpiry s = .next (staleExpiry (s.atInstant d)) := by
  simp only [exec, execStaleTimerExpiry, staleTimerExpires, hd]

theorem staleExpiry_read (s : State) : staleExpiry s = readUpper (formPublished (handleLatches (staleJudged s).2 (staleJudged s).1)) :=
  staleExpiry_eq s

/-! ## What every stale expiry does -/

theorem staleExpiry_marked (hoff : s.seq.state ≠ .offline) :
    (staleExpiry s).link.staleTimer = none
    ∧ ((staleExpiry s).seq.state ≠ .offline → (staleExpiry s).link.staleMark = true ∧ (staleExpiry s).link.holder = s.link.holder
      ∧ (staleExpiry s).view = s.view ∧ (staleExpiry s).book = s.book)
    ∧ ((staleExpiry s).seq.state = .offline → s.seq.state = .leaving ∧ s.isTrain = true) := by
  have hjudged := staleJudged_sameBut s
  have hlatches := handleLatches_sameBut (staleJudged s).2 (staleJudged s).1
  obtain ⟨htimer, hmark⟩ := staleJudged_link s
  have hwork : SameBut tripParts (staleJudged s).1 (staleWork s) := hlatches.comp (formPublished_sameBut _) (by decide)
  have hall : SameBut staleParts s (staleWork s) := staleWork_sameBut s
  obtain ⟨wtimer, wmark⟩ := hwork .staleTimer (by decide)
  rw [staleExpiry_eq]
  obtain hread | ⟨hl, ht, v, hv, -, hend⟩ := readUpper_frame (staleWork s)
  · obtain ⟨rtimer, rmark⟩ := hread .staleTimer (by decide)
    have hrest : SameBut (staleParts ++ readParts) s (readUpper (staleWork s)) :=
      (hall.mono (by decide)).trans (hread.mono (by decide))
    refine ⟨rtimer.trans (wtimer.trans htimer), fun _ => ⟨rmark.trans (wmark.trans hmark), hrest .holder (by decide),
      hrest .view (by decide), hrest.book (by decide)⟩, fun ho => ?_⟩
    rw [hread.state (by decide)] at ho
    obtain hs | hs := staleWork_state s
    · exact absurd (hs.symm.trans ho) hoff
    · rw [hs] at ho
      cases ho
  · have hstate : (readUpper (staleWork s)).seq.state = .offline := by rw [hend]; simp
    refine ⟨by rw [hend]; rfl, fun ho => absurd hstate ho, fun _ => ⟨?_, (hall.isTrain (by decide)).symm.trans ht⟩⟩
    obtain hs | hs := staleWork_state s
    · exact hs.symm.trans hl
    · rw [hs] at hl
      cases hl

theorem staleExpiry_published (hstore : s.isStore = true) :
    ((staleExpiry s).seq.state = .active → PublishedByTable (staleExpiry s))
    ∧ ((staleExpiry s).seq.state ≠ .active → (staleExpiry s).heat.pubCharge = 0 ∧ (staleExpiry s).heat.pubDischarge = 0) := by
  rw [staleExpiry_read]
  exact readForms_published (((handleLatches_sameBut _ _).isStore (by decide)).trans
    (((staleJudged_sameBut s).isStore (by decide)).trans hstore))

/-! ## A stale expiry without a trip -/

section
variable {t : State} {ms : List Monitor} (hj : staleJudged s = (t, ms)) (h : ms = [] ∨ s.seq.state.inService = false)
include hj h

theorem staleExpiry_latched : SameBut [.tripHeld] t (handleLatches ms t) := by
  have hframe := staleJudged_sameBut s
  rw [hj] at hframe
  refine handleLatches_keepsState (h.imp_right fun hout => ?_)
  rw [hframe.state (by decide)]
  exact hout

theorem staleExpiry_blocks (hon : (staleExpiry s).seq.state ≠ .offline) :
    (staleExpiry s).bank = t.bank ∧ (staleExpiry s).account = s.account ∧ (staleExpiry s).bus = s.bus
    ∧ (staleExpiry s).seq.tripOut = s.seq.tripOut ∧ (staleExpiry s).seq.tripHeld = (handleLatches ms t).seq.tripHeld := by
  have hframe := staleJudged_sameBut s
  have hlatch := staleExpiry_latched hj h
  rw [staleExpiry_read] at hon ⊢
  rw [hj] at hframe hon ⊢
  obtain ⟨hbank, haccount, hbus, hout, hheld⟩ := readForms_blocks hon
  exact ⟨hbank.trans (hlatch.bank (by decide)), haccount.trans ((hlatch.account (by decide)).trans (hframe.account (by decide))),
    hbus.trans ((hlatch.bus (by decide)).trans (hframe.bus (by decide))),
    hout.trans ((hlatch .tripOut (by decide)).trans (hframe .tripOut (by decide))), hheld⟩

theorem staleExpiry_cutAtRead : CutAtRead s (staleExpiry s) (limitRead s s.link.holder s.view t.bank.cap) := by
  have hframe := staleJudged_sameBut s
  have hlatch := staleExpiry_latched hj h
  rw [staleExpiry_read]
  rw [hj] at hframe ⊢
  have hall : SameBut [.staleTimer, .stale, .heldAllowances, .cap, .reports, .tripHeld] s (handleLatches ms t) :=
    hframe.comp hlatch (by decide)
  have hcut := readForms_cutAtRead (s := s) (v := handleLatches ms t) fun p hp => hall p (by revert p; decide)
  rwa [hall .holder (by decide), hall .view (by decide), hlatch .cap (by decide)] at hcut

theorem staleExpiry_produces {rs : List Report} (hrs : Produces rs s t) : ∃ qs,
    Produces (rs ++ qs) s (staleExpiry s) ∧ ∀ q ∈ qs, isReadReport q := by
  rw [staleExpiry_read, hj]
  exact readForms_produces (hrs.then_sameBut (staleExpiry_latched hj h) (by decide))

theorem staleExpiry_onlyReadReports (hrs : Produces [] s t) : OnlyReadReports s (staleExpiry s) := by
  obtain ⟨qs, hreports, hqs⟩ := staleExpiry_produces hj h hrs
  exact onlyReadReports_of_produces hreports hqs

end

end Sys2Proof.Machine
end

section
/-! PROOFS. The statement on the stale expiry (R130, R157). -/

namespace Sys2Proof.Machine

variable {s : State}

/-- The monitor cap after a stale expiry that makes M_STALE ACTIVE (R130). -/
def staleCap (s : State) : Nat :=
  if s.inForce.modes.stale = .retry ∧ s.isTrain = true then min s.bank.cap s.share.command else s.bank.cap

/-- In WARN and RETRY M_STALE becomes ACTIVE, with MONITOR WARN, and on a train in RETRY the cap falls to the command (R130). -/
theorem staleJudged_active (h : s.inForce.modes.stale = .warn ∨ s.inForce.modes.stale = .retry) : ∃ t, staleJudged s = (t, [])
    ∧ t.bank = { s.bank with stale := ⟨.active, 0, 0, true⟩, cap := staleCap s } ∧ t.seq = s.seq
    ∧ Produces [.monitorWarn .stale s.inForce.modes.stale] s t := by
  obtain h | h := h
  · have hcap : staleCap s = s.bank.cap := if_neg (by simp [h])
    refine ⟨_, staleJudged_warn h, ?_, ?_, ?_⟩
    · simp [hcap]
    · simp [markStale]
    · rw [h]
      exact (produces_of_frame (markStale_sameBut s) (by decide)).trans (produces_produce _ _)
  · have hcap : staleCap s = if s.isTrain = true then min s.bank.cap s.share.command else s.bank.cap := by simp [staleCap, h]
    refine ⟨_, staleJudged_retry h, ?_, ?_, ?_⟩
    · simp [hcap, holdPublished]
    · simp [markStale, holdPublished]
    · rw [h]
      exact (produces_of_frame (markStale_sameBut s) (by decide)).trans (produces_produce _ _)

/-- A store in ACTIVE whose M_STALE becomes ACTIVE in RETRY publishes no more than it did (R89). -/
theorem staleExpiry_holds (hm : s.inForce.modes.stale = .retry) (hstore : s.isStore = true) (hs : s.seq.state = .active) :
    (staleExpiry s).seq.state = .active ∧ (staleExpiry s).heat.pubCharge = min s.heat.pubCharge s.heat.classCharge
    ∧ (staleExpiry s).heat.pubDischarge = min s.heat.pubDischarge s.heat.classDischarge := by
  have hj := staleJudged_retry hm
  have hframe := staleJudged_sameBut s
  rw [staleExpiry_read, hj, handleLatches_nil]
  rw [hj] at hframe
  generalize hw : produce _ _ = w at hframe ⊢
  have hstore' : w.isStore = true := (hframe.isStore (by decide)).trans hstore
  have hs' : w.seq.state = .active := (hframe.state (by decide)).trans hs
  have hforms := formPublished_sameBut w
  rw [readUpper_of_store ((hforms.isStore (by decide)).trans hstore'), hforms.state (by decide)]
  have hactive : (formPublished w).bank.stale.cond = .active ∧ (formPublished w).inForce.modes.stale = .retry := by
    rw [hforms .stale (by decide), hforms .inForce (by decide), hframe .inForce (by decide), ← hw]
    exact ⟨by simp, hm⟩
  obtain ⟨hcharge, hdischarge⟩ := (publishedByTable_formPublished hstore' hs').1 hactive
  obtain ⟨fcharge, fdischarge⟩ := hforms .heldAllowances (by decide)
  obtain ⟨-, -, fclassCharge, fclassDischarge, -⟩ := hforms .zones (by decide)
  obtain ⟨-, -, wclassCharge, wclassDischarge, -⟩ := hframe .zones (by decide)
  rw [fcharge, fclassCharge, wclassCharge] at hcharge
  rw [fdischarge, fclassDischarge, wclassDischarge] at hdischarge
  have hheld : w.heat.heldCharge = s.heat.pubCharge ∧ w.heat.heldDischarge = s.heat.pubDischarge := by
    rw [← hw]
    simp [markStale, holdPublished]
  rw [hheld.1] at hcharge
  rw [hheld.2] at hdischarge
  exact ⟨hs', hcharge, hdischarge⟩

/-- A latch in a service state trips the station (R114, R130). -/
theorem staleExpiry_trips (hm : s.inForce.modes.stale = .latch) (hc : s.bank.stale.cond = .clear) (hs : s.seq.state.inService = true) :
    staleExpiry s = tripRead [.stale] (staleLatched s) := by
  rw [staleExpiry_read, staleJudged_latches hm (by simp [hc]), handleLatches_trip (s := staleLatched s) (by simp) hs]
  rfl

/-- Settles O49: what every expiry does, then mode by mode. -/
theorem staleExpiryActsByMode : Obligations.StaleExpiryActsByMode := by
  intro s d hd hoff
  have hexec := exec_staleTimerExpiry hd
  refine ⟨?_, fun hm => ?_, fun hm hc => ?_, fun hc hm cap hcap => ?_, fun hc hm hstore hs => ?_, fun hc hm hs => ?_, fun hc hm hs => ?_⟩
  · obtain ⟨htimer, hmarked, hended⟩ := staleExpiry_marked (s := s.atInstant d) hoff
    have hkeeps := staleExpiry_keeps (s.atInstant d)
    exact ⟨_, hexec, hkeeps.1, htimer, hmarked, hended, fun hstore => staleExpiry_published (s := s.atInstant d) hstore,
      by simp, by simp, by simp, by simp, by simp, by simp⟩
  · have hj := staleJudged_off (s := s.atInstant d) hm
    exact ⟨_, hexec, staleExpiry_blocks hj (.inl rfl), staleExpiry_cutAtRead hj (.inl rfl),
      staleExpiry_onlyReadReports hj (.inl rfl) (.refl _)⟩
  · have hj := staleJudged_latched (s := s.atInstant d) hm hc
    exact ⟨_, hexec, staleExpiry_blocks hj (.inl rfl), staleExpiry_cutAtRead hj (.inl rfl),
      staleExpiry_onlyReadReports hj (.inl rfl) (.refl _)⟩
  · obtain ⟨t, hj, hbank, hseq, hreports⟩ := staleJudged_active (s := s.atInstant d) hm
    have hcap : staleCap (s.atInstant d) = cap := hcap.symm
    rw [hcap] at hbank
    have hblocks := staleExpiry_blocks hj (.inl rfl)
    have hcut := staleExpiry_cutAtRead hj (.inl rfl)
    obtain ⟨qs, hproduced, -⟩ := staleExpiry_produces hj (.inl rfl) hreports
    rw [hbank, handleLatches_nil, hseq] at hblocks
    rw [hbank] at hcut
    exact ⟨_, hexec, hblocks, hproduced.queued, hcut, exec_command_le _ s _ (by simp) hexec⟩
  · exact ⟨_, hexec, staleExpiry_holds (s := s.atInstant d) hm hstore hs⟩
  · have hout : (s.atInstant d).seq.state.inService = false := by
      change s.seq.state.inService = false
      obtain hs | hs | hs := hs <;> rw [hs] <;> rfl
    have hon : (staleExpiry (s.atInstant d)).seq.state ≠ .offline := by
      obtain ⟨-, -, hended⟩ := staleExpiry_marked (s := s.atInstant d) hoff
      intro ho
      have hl : s.seq.state = .leaving := (hended ho).1
      rw [hl] at hs
      simp at hs
    have hj := staleJudged_latches (s := s.atInstant d) hm (by simp [hc])
    obtain ⟨hbank, haccount, hbus, htrip, hheld⟩ := staleExpiry_blocks hj (.inr hout) hon
    refine ⟨_, hexec, hbank, haccount, hbus, htrip, hheld.trans (handleLatches_tripHeld (by simp) hout), staleExpiry_cutAtRead hj (.inr hout),
      staleExpiry_onlyReadReports hj (.inr hout) (.refl _)⟩
  · rw [staleExpiry_trips (s := s.atInstant d) hm hc hs] at hexec
    obtain ⟨htimer, hstart, hcommand⟩ := tripRead_seq [.stale] (staleLatched (s.atInstant d))
    obtain ⟨qs, hreports, -⟩ := tripRead_produces [.stale] (staleLatched (s.atInstant d))
    refine ⟨_, hexec, by simp, by simp, tripRead_available _ _, hcommand, ?_, htimer, hstart, tripRead_pendingAlert _ _,
      rebuiltAtTrip_tripRead (s := staleLatched (s.atInstant d)) _ ⟨.stale, rfl⟩, fun o ho => ?_, fun ht h0 => ?_, fun hstore => ?_,
      fun hroom => ?_⟩
    · exact (tripRead_monitor [.stale] (staleLatched (s.atInstant d)) .stale).trans (if_neg (by simp))
    · exact ⟨_, (tripRead_openRec _ _).trans (congrArg (Option.map _) ho), rfl, rfl⟩
    · exact tripRead_setpoint _ ht h0
    · exact tripRead_published _ hstore
    · exact hreports.append_two hroom

end Sys2Proof.Machine
end

section
/-! PROOFS. A measurement record after the seal: the holder, the account, the zones, and the read of U with which it ends (R87, R137, R156, R157). -/

namespace Sys2Proof.Machine

variable {s : State} {r : Measurement}

theorem takeRecord_read (r : Measurement) (s : State) :
    takeRecord r s = readUpper (formPublished (handleLatches (recordJudged r s).2 (recordJudged r s).1)) :=
  (takeRecord_eq r s).trans (congrArg readUpper (recordWork_eq r s))

/-! ## What every record does -/

/-- A change that keeps what a record made of the holder, the stale timer and the zones. -/
theorem recordWork_ofTakeIn (r : Measurement) (s : State) :
    SameBut ([.native, .stale, .zoneHigh] ++ tripParts) (takeIn r s) (recordWork r s) := by
  rw [recordWork_eq]
  refine SameBut.trans ((recordJudged_ofTakeIn r s).mono (by decide)) ?_
  exact (handleLatches_sameBut _ _).comp (formPublished_sameBut _) (by decide)

theorem takeIn_link (r : Measurement) (s : State) : (takeIn r s).link.holder = some ⟨r, s.now⟩
    ∧ (takeIn r s).link.staleTimer = some (s.now + s.inForce.items.staleLimit * s.inForce.p) ∧ (takeIn r s).link.staleMark = false := by
  cases r <;> simp [takeIn, holdRecord]

/-- The end of a leave by the read of U of a record, or no end: the state, and what the record left (R113, R156, R157). -/
theorem takeRecord_ends (hoff : s.seq.state ≠ .offline) :
    ((takeRecord r s).seq.state ≠ .offline ∧ SameBut ([.native, .stale, .zoneHigh] ++ tripParts ++ readParts) (takeIn r s) (takeRecord r s))
    ∨ ((takeRecord r s).seq.state = .offline ∧ s.seq.state = .leaving ∧ s.isTrain = true
      ∧ ∃ v, SameBut readParts (recordWork r s) v ∧ takeRecord r s = sendSetpoint (endLeave v)) := by
  have hwork := recordWork_ofTakeIn r s
  have hall := recordWork_sameBut r s
  have hstate (x : StationState) (hx : x ≠ .tripped) (h : (recordWork r s).seq.state = x) : s.seq.state = x := by
    obtain hs | hs := recordWork_state r s
    · exact hs.symm.trans h
    · exact absurd (h.symm.trans hs) hx
  rw [takeRecord_eq]
  obtain hread | ⟨hl, ht, v, hv, -, hend⟩ := readUpper_frame (recordWork r s)
  · refine .inl ⟨fun ho => hoff (hstate .offline (by decide) ?_), hwork.comp hread (by decide)⟩
    rw [← hread.state (by decide)]
    exact ho
  · exact .inr ⟨by rw [hend]; simp, hstate .leaving (by decide) hl, (hall.isTrain (by decide)).symm.trans ht, v, hv, hend⟩

theorem takeRecord_link (hoff : s.seq.state ≠ .offline) (hon : (takeRecord r s).seq.state ≠ .offline) :
    (takeRecord r s).link.holder = some ⟨r, s.now⟩
    ∧ (takeRecord r s).link.staleTimer = some (s.now + s.inForce.items.staleLimit * s.inForce.p)
    ∧ (takeRecord r s).link.staleMark = false := by
  obtain ⟨hholder, htimer, hmark⟩ := takeIn_link r s
  obtain ⟨-, hframe⟩ | ⟨ho, -⟩ := takeRecord_ends (r := r) hoff
  · obtain ⟨ftimer, fmark⟩ := hframe .staleTimer (by decide)
    exact ⟨(hframe .holder (by decide)).trans hholder, ftimer.trans htimer, fmark.trans hmark⟩
  · exact absurd ho hon

/-! ## A record without a trip -/

section
variable (h : (recordJudged r s).2 = [] ∨ s.seq.state.inService = false)
include h

theorem record_latched : SameBut [.tripHeld] (recordJudged r s).1 (handleLatches (recordJudged r s).2 (recordJudged r s).1) := by
  refine handleLatches_keepsState (h.imp_right fun hout => ?_)
  rw [(recordJudged_sameBut r s).state (by decide)]
  exact hout

theorem record_worked : SameBut (.tripHeld :: recordJudgedParts) s (handleLatches (recordJudged r s).2 (recordJudged r s).1) :=
  (recordJudged_sameBut r s).comp (record_latched h) (by decide)

theorem record_blocks (hon : (takeRecord r s).seq.state ≠ .offline) : (takeRecord r s).bank = (recordJudged r s).1.bank
    ∧ (takeRecord r s).account.openRec = s.account.openRec ∧ (takeRecord r s).bus = s.bus ∧ (takeRecord r s).seq.tripOut = s.seq.tripOut
    ∧ (takeRecord r s).seq.tripHeld = (handleLatches (recordJudged r s).2 (recordJudged r s).1).seq.tripHeld := by
  have hlatch := record_latched h
  have hwork := record_worked h
  rw [takeRecord_read] at hon ⊢
  obtain ⟨hbank, haccount, hbus, hout, hheld⟩ := readForms_blocks hon
  exact ⟨hbank.trans (hlatch.bank (by decide)), (congrArg Account.openRec haccount).trans (hwork .openRecord (by decide)),
    hbus.trans (hwork.bus (by decide)), hout.trans (hwork .tripOut (by decide)), hheld⟩

theorem record_cutAtRead :
    CutAtRead s (takeRecord r s) (limitRead s (some ⟨r, s.now⟩) s.view (recordJudged r s).1.bank.cap) := by
  have hlatch := record_latched h
  have hwork := record_worked h
  have hholder : (handleLatches (recordJudged r s).2 (recordJudged r s).1).link.holder = some ⟨r, s.now⟩ :=
    (hlatch .holder (by decide)).trans ((recordJudged_ofTakeIn r s .holder (by decide)).trans (takeIn_link r s).1)
  rw [takeRecord_read]
  have hcut := readForms_cutAtRead (s := s) fun p hp => hwork p (by revert p; decide)
  rwa [hholder, hwork .view (by decide), hlatch .cap (by decide)] at hcut

/-- Where there is no trip the state stays, or the read of U ends a leave. -/
theorem record_state (hoff : s.seq.state ≠ .offline) :
    (takeRecord r s).seq.state = s.seq.state ∨ (s.seq.state = .leaving ∧ (takeRecord r s).seq.state = .offline) := by
  obtain ⟨hon, -⟩ | ⟨ho, hl, -⟩ := takeRecord_ends (r := r) hoff
  · have hwork := (record_worked h).comp (formPublished_sameBut _) (List.Subset.refl _)
    rw [takeRecord_read] at hon ⊢
    obtain hread | ⟨-, ho, -⟩ := readUpper_changes (formPublished (handleLatches (recordJudged r s).2 (recordJudged r s).1))
    · exact .inl ((hread.state (by decide)).trans (hwork.state (by decide)))
    · exact absurd ho hon
  · exact .inr ⟨hl, ho⟩

theorem record_produces {rs : List Report} (hrs : Produces rs s (recordJudged r s).1) : ∃ qs,
    Produces (rs ++ qs) s (takeRecord r s) ∧ ∀ q ∈ qs, isReadReport q := by
  rw [takeRecord_read]
  exact readForms_produces (hrs.then_sameBut (record_latched h) (by decide))

end

/-! ## A record with a trip -/

theorem record_trips (hms : (recordJudged r s).2 ≠ []) (hs : s.seq.state.inService = true) :
    takeRecord r s = tripRead (recordJudged r s).2 (recordJudged r s).1 := by
  rw [takeRecord_read, handleLatches_trip hms (by rw [(recordJudged_sameBut r s).state (by decide)]; exact hs)]
  rfl

/-! ## The account of a train's record (R137) -/

theorem addOwn_ownAcc (a : Account) (e : Int) :
    (a.addOwn e).ownAcc = if a.openRec.isSome then a.ownAcc + e else a.ownAcc := by
  unfold Account.addOwn
  split <;> rfl

theorem takeIn_ownPoint (o f p h m : Nat) (s : State) : (takeIn (.train o f p h m) s).account.ownPoint = some ⟨o, s.now⟩ := rfl

/-- The own energy at a record: the held output's up to the record, where an interval is open. -/
theorem takeIn_ownAcc (o f p h m : Nat) (s : State) : (takeIn (.train o f p h m) s).account.ownAcc =
    if s.account.openRec.isSome then s.account.ownAcc + ownSpan s.ownKind s.account.ownPoint s.now else s.account.ownAcc :=
  addOwn_ownAcc s.account _

/-- The end of a leave credits nothing to a point that starts at its instant. -/
theorem endLeave_ownAcc {v : State} {o : Nat} (h : v.account.ownPoint = some ⟨o, v.now⟩) :
    (endLeave v).account.ownAcc = v.account.ownAcc := by
  have hspan : ownSpan v.ownKind v.account.ownPoint v.now = 0 := by simp [h, ownSpan, spanEnergy]
  have hcredit : (endLeave v).account.ownAcc = (creditAll (noteCut .leave (cutReport v) v)).ownAcc := rfl
  rw [hcredit, creditAll, addPlant_ownAcc, addOwn_ownAcc]
  change (if _ then v.account.ownAcc + ownSpan v.ownKind v.account.ownPoint v.now else v.account.ownAcc) = _
  rw [hspan, Int.add_zero, ite_self]

theorem takeRecord_ownAcc (o f p h m : Nat) (hoff : s.seq.state ≠ .offline) : (takeRecord (.train o f p h m) s).account.ownAcc =
    if s.account.openRec.isSome then s.account.ownAcc + ownSpan s.ownKind s.account.ownPoint s.now else s.account.ownAcc := by
  rw [← takeIn_ownAcc o f p h m s]
  obtain ⟨-, hframe⟩ | ⟨-, -, -, v, hv, hend⟩ := takeRecord_ends (r := .train o f p h m) hoff
  · exact (hframe .energies (by decide)).1
  · have hall : SameBut ([.native, .stale, .zoneHigh] ++ tripParts ++ readParts) (takeIn (.train o f p h m) s) v :=
      (recordWork_ofTakeIn _ s).comp hv (by decide)
    have hnow : v.now = s.now := by
      have hkept : (takeRecord (.train o f p h m) s).now = s.now := (takeRecord_keeps _ s).1
      rwa [hend, (sendSetpoint_keeps _).1, (endLeave_keeps v).1] at hkept
    have hpoint : v.account.ownPoint = some ⟨o, v.now⟩ := by
      rw [hnow]
      exact hall .ownPoint (by decide)
    rw [hend, ← (hall .energies (by decide)).1]
    exact endLeave_ownAcc hpoint

end Sys2Proof.Machine
end

section
/-! PROOFS. The statement on a train's MEASURE (R137, R155 to R157). -/

namespace Sys2Proof.Machine

variable {s : State}

/-- A record of a train as the station keeps it, each field within its range (R83). -/
def trainRecord (o f p h m : Half) : Measurement :=
  .train (min o.toNat 2500) (min f.toNat 1000) (min p.toNat 25000) (min h.toNat 800) (min m.toNat 1000)

theorem ofForm_train (o f p h m : Half) : Measurement.ofForm (.train o f p h m) = trainRecord o f p h m := by
  simp only [Measurement.ofForm, clampNat_upper, trainRecord]

theorem formClamped_train (o f p h m : Half) : formClamped (.train o f p h m) =
    decide (2500 < o.toNat ∨ 1000 < f.toNat ∨ 25000 < p.toNat ∨ 800 < h.toNat ∨ 1000 < m.toNat) := by
  rw [formClamped, ofForm_train, trainRecord, Measurement.raw, Bool.eq_iff_iff, bne_iff_ne, decide_eq_true_iff]
  simp only [ne_eq, Measurement.train.injEq]
  omega

theorem exec_measure {t : Nat} {tag : Byte} {form : MeasureForm} (hn : IsNew s tag (.measure form)) (h : form.wellFormed = true)
    (hs : s.seq.state ≠ .offline) (hfit : formFits form s = true) : exec (.measure t tag form) s =
      .next (answered (takeRecord (Measurement.ofForm form) (s.atInstant t)) tag (.measure form) (.accept (formClamped form))) :=
  exec_new rfl hn (handleMeasure_taken (s := s.atInstant t) h hs hfit)

/-- A trip at command 0 sends no SETPOINT. -/
theorem tripRead_setpoint_stays (ms : List Monitor) (h0 : s.share.command = 0) : (tripRead ms s).link.setpoint = s.link.setpoint := by
  have hafter : (tripRead ms s).link.setpoint = (atTrip s).link.setpoint :=
    (tripRead_ofTrip ms s .setpoint (by decide)).trans
      ((trip_ofAsked ms s .setpoint (by decide)).trans (askAlert_sameBut _ _ _ .setpoint (by decide)))
  rw [hafter, atTrip, setpointIfFell_setpoint, if_neg (fun h => h.1 h0)]
  simp [fallen, dropCommand, stopSequence]

/-- A record trips the station where it is in TRIPPED only after it. -/
theorem record_untripped {r : Measurement} (h : ¬ ((takeRecord r s).seq.state = .tripped ∧ s.seq.state ≠ .tripped)) :
    (recordJudged r s).2 = [] ∨ s.seq.state.inService = false := by
  refine Classical.byContradiction fun hboth => ?_
  obtain ⟨hms, hs⟩ := not_or.mp hboth
  rw [Bool.not_eq_false] at hs
  refine h ⟨by rw [record_trips hms hs, tripRead_state], fun hx => ?_⟩
  rw [hx] at hs
  cases hs

theorem record_tripped {r : Measurement} (hoff : s.seq.state ≠ .offline) (h : (takeRecord r s).seq.state = .tripped)
    (hs : s.seq.state ≠ .tripped) : takeRecord r s = tripRead (recordJudged r s).2 (recordJudged r s).1 := by
  by_cases hout : (recordJudged r s).2 = [] ∨ s.seq.state.inService = false
  · obtain hst | ⟨-, hst⟩ := record_state hout hoff
    · exact absurd (hst.symm.trans h) hs
    · rw [h] at hst
      cases hst
  · obtain ⟨hms, hin⟩ := not_or.mp hout
    exact record_trips hms (by simpa using hin)

/-- A record that trips a train lowers its command to 0, with a SETPOINT where it fell (R47, R114). -/
theorem record_trip_setpoint {r : Measurement} (ht : s.isTrain = true)
    (h : takeRecord r s = tripRead (recordJudged r s).2 (recordJudged r s).1) : (takeRecord r s).share.command = 0
    ∧ (s.share.command ≠ 0 → ∃ q, (takeRecord r s).link.setpoint = some q ∧ q.command = 0 ∧ q.state = .tripped)
    ∧ (s.share.command = 0 → (takeRecord r s).link.setpoint = s.link.setpoint) := by
  have hjudged := recordJudged_sameBut r s
  have hcommand : (recordJudged r s).1.share.command = s.share.command := hjudged .command (by decide)
  have hsetpoint : (recordJudged r s).1.link.setpoint = s.link.setpoint := hjudged .setpoint (by decide)
  have htrain : (recordJudged r s).1.isTrain = true := (hjudged.isTrain (by decide)).trans ht
  rw [h]
  refine ⟨(tripRead_seq _ _).2.2, fun h0 => tripRead_setpoint _ htrain (fun hzero => h0 (hcommand.symm.trans hzero)), fun h0 => ?_⟩
  rw [tripRead_setpoint_stays _ (hcommand.trans h0), hsetpoint]

/-- The end of a leave leaves neither a holder nor a point (R113, R139, R156). -/
theorem takeRecord_offline {r : Measurement} (hoff : s.seq.state ≠ .offline) (ho : (takeRecord r s).seq.state = .offline) :
    s.seq.state = .leaving ∧ (takeRecord r s).link.holder = none ∧ (takeRecord r s).account.ownPoint = none := by
  obtain ⟨hon, -⟩ | ⟨-, hl, -, v, -, hend⟩ := takeRecord_ends (r := r) hoff
  · exact absurd ho hon
  · rw [hend]
    exact ⟨hl, rfl, rfl⟩

theorem takeRecord_ownPoint (o f p h m : Nat) (hoff : s.seq.state ≠ .offline)
    (hon : (takeRecord (.train o f p h m) s).seq.state ≠ .offline) :
    (takeRecord (.train o f p h m) s).account.ownPoint = some ⟨o, s.now⟩ := by
  obtain ⟨-, hframe⟩ | ⟨ho, -⟩ := takeRecord_ends (r := .train o f p h m) hoff
  · exact hframe .ownPoint (by decide)
  · exact absurd ho hon

theorem takeRecord_zones (o f p h m : Nat) (hoff : s.seq.state ≠ .offline) :
    (takeRecord (.train o f p h m) s).heat.zones = s.heat.zones := by
  obtain ⟨-, hframe⟩ | ⟨-, -, -, v, hv, hend⟩ := takeRecord_ends (r := .train o f p h m) hoff
  · exact (hframe .zones (by decide)).1
  · rw [hend]
    exact (((recordWork_ofTakeIn (.train o f p h m) s).comp hv (List.Subset.refl _)) .zones (by decide)).1

/-- Settles O10: what a record leaves in the holder and the account, then the cut without a trip and the SETPOINT with one. -/
theorem trainMeasureTaken : Obligations.TrainMeasureTaken := by
  intro s t tag o f p h m ht hoff hn
  have hexec := exec_measure (t := t) hn rfl hoff ht
  have hle := exec_command_le _ s _ (by simp) hexec
  rw [ofForm_train, formClamped_train] at hexec hle
  generalize hr : trainRecord o f p h m = r at hexec hle
  have hoff' : (s.atInstant t).seq.state ≠ .offline := hoff
  have henergy := takeRecord_ownAcc (s := s.atInstant t) (min o.toNat 2500) (min f.toNat 1000) (min p.toNat 25000) (min h.toNat 800)
    (min m.toNat 1000) hoff
  have hpoint := takeRecord_ownPoint (s := s.atInstant t) (min o.toNat 2500) (min f.toNat 1000) (min p.toNat 25000) (min h.toNat 800)
    (min m.toNat 1000) hoff
  have hzones := takeRecord_zones (s := s.atInstant t) (min o.toNat 2500) (min f.toNat 1000) (min p.toNat 25000) (min h.toNat 800)
    (min m.toNat 1000) hoff
  rw [← trainRecord, hr] at henergy hpoint hzones
  rw [trainRecord] at hr
  rw [hr]
  refine ⟨_, hexec, (takeRecord_keeps _ _).1, rfl, fun hon => ?_, takeRecord_offline hoff', fun hopen q hq => ?_, fun hnone => ?_, fun hno => ?_,
    fun hu hs => ?_, hle, by simp, by simp, by simp, by simp, by simp, by simp, by simp, by simp, hzones⟩
  · obtain ⟨hholder, htimer, hmark⟩ := takeRecord_link (r := r) hoff' hon
    exact ⟨hholder, htimer, hmark, hpoint hon⟩
  · rw [if_pos (c := (s.atInstant t).account.openRec.isSome = true) (Option.isSome_iff_ne_none.mpr hopen),
      show (s.atInstant t).account.ownPoint = some q from hq, ownSpan_train (s := s.atInstant t) ht] at henergy
    exact henergy
  · obtain hnone | hnone := hnone
    · exact henergy.trans (if_neg (fun h => absurd hnone (Option.isSome_iff_ne_none.mp h)))
    · rw [show (s.atInstant t).account.ownPoint = none from hnone, ownSpan_none, Int.add_zero, ite_self] at henergy
      exact henergy
  · exact ⟨_, fun hon => congrArg Bank.cap (record_blocks (record_untripped hno) hon).1, record_cutAtRead (record_untripped hno)⟩
  · exact record_trip_setpoint (s := s.atInstant t) ht (record_tripped hoff' hu hs)

end Sys2Proof.Machine
end

section
/-! PROOFS. The statement on a store's MEASURE (R87 to R89, R155 to R157). -/

namespace Sys2Proof.Machine

variable {s : State}

/-! ## The zone table (R87, R88) -/

theorem classify_zoneRule {hot cold : Nat} (h : cold + 20 < hot) (before : ZoneClass) (t : Nat) :
    ZoneRule hot cold before t (classify hot cold before t) := by
  unfold ZoneRule classify
  refine ⟨fun h1 => ?_, fun h1 => ?_, fun h1 => ?_, fun h1 => ?_, fun h1 => ?_⟩
  · rw [if_pos h1]
  · rw [if_neg (by omega), if_neg (by omega), if_pos h1.1]
    cases before <;> rfl
  · rw [if_neg (by omega), if_neg (by omega), if_neg (by omega), if_neg (by omega)]
  · rw [if_neg (by omega), if_neg (by omega), if_neg (by omega), if_pos h1.2]
    cases before <;> rfl
  · rw [if_neg (by omega), if_pos h1]

theorem classifyZones_get (hot cold : Nat) {zs : List Zone} {ts : List Nat} {i t : Nat} {z : Zone} (hz : zs[i]? = some z)
    (ht : ts[i]? = some t) : (classifyZones hot cold zs ts)[i]? = some ⟨some t, classify hot cold z.cls t⟩ := by
  induction zs generalizing ts i with
  | nil => simp at hz
  | cons x zs ih =>
    cases ts with
    | nil => simp at ht
    | cons y ts =>
      cases i with
      | zero =>
        obtain rfl : x = z := by simpa using hz
        obtain rfl : y = t := by simpa using ht
        rfl
      | succ i => exact ih (ts := ts) (i := i) (by simpa using hz) (by simpa using ht)

theorem hotCount_eq (zs : List Zone) : hotCount zs = (zs.filter fun z => z.cls = .hot).length := by
  rw [hotCount, List.countP_eq_length_filter]
  congr 2

theorem allowanceOf_charge (n q : Nat) : (n ≤ 6 → allowanceOf (8 - n) q = q) ∧ (n = 7 → allowanceOf (8 - n) q = q / 2)
    ∧ (n = 8 → allowanceOf (8 - n) q = 0) := by
  unfold allowanceOf
  refine ⟨fun h => ?_, fun h => ?_, fun h => ?_⟩
  · rw [if_neg (by omega), if_neg (by omega)]
  · rw [if_neg (by omega), if_pos (by omega)]
  · rw [if_pos (by omega)]

theorem allowanceOf_discharge (n q : Nat) : (2 ≤ n → allowanceOf n q = q) ∧ (n = 1 → allowanceOf n q = q / 2)
    ∧ (n = 0 → allowanceOf n q = 0) := by
  unfold allowanceOf
  refine ⟨fun h => ?_, fun h => ?_, fun h => ?_⟩
  · rw [if_neg (by omega), if_neg (by omega)]
  · rw [if_neg (by omega), if_pos h]
  · rw [if_pos h]

/-! ## The record of a store -/

theorem ofForm_store (zones : List Half) : Measurement.ofForm (.store zones) = .store (zones.map fun z => min z.toNat 800) := by
  simp only [Measurement.ofForm, clampNat_upper]

theorem formClamped_store (zones : List Half) : formClamped (.store zones) = zones.any fun z => decide (800 < z.toNat) := by
  rw [formClamped, ofForm_store, Measurement.raw, Bool.eq_iff_iff, bne_iff_ne, ne_eq, Measurement.store.injEq, List.map_inj_left,
    List.any_eq_true]
  simp only [Classical.not_forall, exists_prop]
  refine exists_congr fun z => and_congr_right fun _ => ?_
  rw [decide_eq_true_iff]
  omega

/-- A store never ends a leave by a read of U. -/
theorem takeRecord_store {zs : List Nat} (hstore : s.isStore = true) (hoff : s.seq.state ≠ .offline) :
    (takeRecord (.store zs) s).seq.state ≠ .offline
    ∧ SameBut ([.native, .stale, .zoneHigh] ++ tripParts ++ readParts) (takeIn (.store zs) s) (takeRecord (.store zs) s) := by
  obtain hon | ⟨-, -, ht, -⟩ := takeRecord_ends (r := .store zs) hoff
  · exact hon
  · rw [isTrain_of_isStore hstore] at ht
    cases ht

theorem takeRecord_published {r : Measurement} (hstore : s.isStore = true) :
    ((takeRecord r s).seq.state = .active → PublishedByTable (takeRecord r s))
    ∧ ((takeRecord r s).seq.state ≠ .active → (takeRecord r s).heat.pubCharge = 0 ∧ (takeRecord r s).heat.pubDischarge = 0) := by
  rw [takeRecord_read]
  exact readForms_published (((handleLatches_sameBut _ _).isStore (by decide)).trans
    (((recordJudged_sameBut r s).isStore (by decide)).trans hstore))

/-- A record ends the condition of M_STALE (R131). -/
theorem recordJudged_stale (r : Measurement) (s : State) : (recordJudged r s).1.bank.stale = staleEnded s.bank.stale := by
  have hstage : (recordJudged r s).1.bank.stale = (endStale (takeIn r s)).bank.stale :=
    (retryStage_sameBut _ _ .stale (by decide)).trans (judgeRecord_sameBut r _ .stale (by decide))
  have hended := endStale_monitor (takeIn r s) .stale
  rw [if_pos rfl, takeIn_bank] at hended
  exact hstage.trans hended

theorem staleEnded_cond (m : MonState) : (staleEnded m).cond ≠ .active := by
  unfold staleEnded
  split
  · simp
  · assumption

theorem takeRecord_stale {r : Measurement} (hstore : s.isStore = true) : (takeRecord r s).bank.stale.cond ≠ .active := by
  have hlatch : SameBut tripParts (recordJudged r s).1 (recordWork r s) := by
    rw [recordWork_eq]
    exact (handleLatches_sameBut _ _).comp (formPublished_sameBut _) (by decide)
  rw [takeRecord_eq, readUpper_of_store (((recordWork_sameBut r s).isStore (by decide)).trans hstore), hlatch .stale (by decide),
    recordJudged_stale]
  exact staleEnded_cond _

/-- Settles O11: the zones and what follows from their count, the holder, and the published allowances by R89's table. -/
theorem storeMeasureClassesZones : Obligations.StoreMeasureClassesZones := by
  intro s t tag zones hot cold hstore hoff hn hlen hzones hhot hcold hgap
  have hexec := exec_measure (t := t) hn (by simpa [MeasureForm.wellFormed] using hlen) hoff hstore
  rw [ofForm_store, formClamped_store] at hexec
  generalize hzs : (zones.map fun z => min z.toNat 800) = zs at hexec
  obtain ⟨hon, hframe⟩ := takeRecord_store (zs := zs) (s := s.atInstant t) hstore hoff
  obtain ⟨htable, hidle⟩ := takeRecord_published (r := .store zs) (s := s.atInstant t) hstore
  have hstale := takeRecord_stale (r := .store zs) (s := s.atInstant t) hstore
  obtain ⟨hholder, htimer, hmark⟩ := takeRecord_link (r := .store zs) (s := s.atInstant t) hoff hon
  obtain ⟨hz, hcount, hcharge, hdischarge, houtlet⟩ := hframe .zones (by decide)
  have hclassed : (takeIn (.store zs) (s.atInstant t)).heat.zones = classifyZones hot cold s.heat.zones zs := by
    simp [takeIn, classifyRecord, holdRecord, hhot, hcold]
  rw [hclassed] at hz
  generalize hu : takeRecord (.store zs) (s.atInstant t) = u at *
  have hcount : u.heat.hotZones = hotCount u.heat.zones := by rw [hcount, hz, ← hclassed]; rfl
  have hcharge : u.heat.classCharge = allowanceOf (8 - u.heat.hotZones) (s.inForce.items.qc.getD 0) := by
    rw [hcharge, hcount, hz, ← hclassed]; rfl
  have hdischarge : u.heat.classDischarge = allowanceOf u.heat.hotZones (s.inForce.items.qd.getD 0) := by
    rw [hdischarge, hcount, hz, ← hclassed]; rfl
  have houtlet : u.heat.outlet = zs.headD 0 := houtlet
  have hlen' : u.heat.zones.length = 8 := by rw [hz, classifyZones_length, hzones]
  obtain ⟨hfull, hhalf, hnone⟩ := allowanceOf_charge u.heat.hotZones (s.inForce.items.qc.getD 0)
  obtain ⟨hfull', hhalf', hnone'⟩ := allowanceOf_discharge u.heat.hotZones (s.inForce.items.qd.getD 0)
  rw [← hcharge] at hfull hhalf hnone
  rw [← hdischarge] at hfull' hhalf' hnone'
  refine ⟨_, hexec, hlen', fun i hi v hv before hb => ?_, hcount.trans (hotCount_eq _), hfull, hhalf, hnone, hfull', hhalf', hnone',
    fun v hv => ?_, hzs ▸ hholder, hmark, htimer, rfl, hidle, fun ha h1 h2 => ?_, hstale, fun ha h1 h2 => ?_, fun ha h1 h2 => ?_,
    hframe .items (by decide), hframe .inForce (by decide), hframe .view (by decide), hframe .log (by decide)⟩
  · have hv' : zs[i]? = some (min v.toNat 800) := by rw [← hzs, List.getElem?_map, hv]; rfl
    exact ⟨_, (congrArg (·[i]?) hz).trans (classifyZones_get hot cold hb hv'), classify_zoneRule hgap _ _⟩
  · have hhead : zs.headD 0 = min v.toNat 800 := by
      rw [← hzs, List.headD_eq_head?_getD, List.head?_eq_getElem?, List.getElem?_map, hv]
      rfl
    exact houtlet.trans hhead
  · exact ((htable ha).2 (fun h => hstale h.1)).2 fun h => h1 h.1
  · exact ((htable ha).2 (fun h => hstale h.1)).1 ⟨h1, h2⟩
  · exact ((htable ha).2 (fun h => hstale h.1)).2 fun h => h2 h.2

end Sys2Proof.Machine
end

section
/-! PROOFS. The judgements of a record, monitor by monitor: which the record concerns, what each becomes, which latch and which warn (R123 to R126). -/

namespace Sys2Proof.Machine

variable {s : State} {form : MeasureForm} {m : Monitor}

/-! ## The monitors that a record concerns -/

/-- The record concerns the monitor, whatever its mode: M_THERMAL and M_MARGIN in RUNNING and LEAVING once their blanking has run out (R123, R126). -/
def recordSees (s : State) (form : MeasureForm) (m : Monitor) : Bool :=
  match m, form with
  | .native, .train .. => true
  | .thermal, .train .. => s.seq.state.loaded && s.bank.blankThermal.isNone
  | .margin, .train .. => s.seq.state.loaded && s.bank.blankMargin.isNone
  | .zoneHigh, .store _ => true
  | _, _ => false

theorem loaded_iff (x : StationState) : x.loaded = true ↔ x = .running ∨ x = .leaving := by cases x <;> simp [StationState.loaded]

theorem judges_iff : judges s form m ↔ s.inForce.modes.get m ≠ .off ∧ recordSees s form m = true := by
  unfold judges recordSees
  refine and_congr_right fun _ => ?_
  cases form <;> cases m <;> simp [loaded_iff]

/-- What the record shows of a monitor, its deglitch count, condition and mode. -/
def judgedValue (s : State) (form : MeasureForm) (m : Monitor) : MonState :=
  if recordSees s form m then
    judgedIn (s.inForce.modes.get m) (deglitchOf s.inForce.items m) (presents s.inForce form m) (s.bank.monitor m)
  else s.bank.monitor m

/-- The monitor latches at the record, as the bank computes it. -/
def latchesNow (s : State) (form : MeasureForm) (m : Monitor) : Bool :=
  recordSees s form m
    && latchesAt (s.inForce.modes.get m) (deglitchOf s.inForce.items m) (presents s.inForce form m) (s.bank.monitor m)

/-- The MONITOR WARN of the monitor at the record, where there is one. -/
def warnsNow (s : State) (form : MeasureForm) (m : Monitor) : List Report :=
  if recordSees s form m then
    warnsAt m (s.inForce.modes.get m) (deglitchOf s.inForce.items m) (presents s.inForce form m) (s.bank.monitor m)
  else []

/-! ## The bank's functions against the spec's -/

theorem becameActive_iff (before after : MonState) : becameActive before after = true ↔ before.cond ≠ .active ∧ after.cond = .active := by
  simp [becameActive]

theorem becomesActive_iff : BecomesActive s form m ↔ s.inForce.modes.get m ≠ .off ∧ recordSees s form m = true
    ∧ becameActive (s.bank.monitor m) (judgeMonitor (deglitchOf s.inForce.items m) (presents s.inForce form m) (s.bank.monitor m))
      = true := by
  rw [BecomesActive, judges_iff, becameActive_iff, and_assoc]

theorem latchesNow_iff : latchesNow s form m = true ↔ Latches s form m := by
  rw [Latches, becomesActive_iff, latchesNow, latchesAt, Bool.and_eq_true, Bool.and_eq_true, beq_iff_eq]
  constructor
  · rintro ⟨hsees, hmode, hbecame⟩
    exact ⟨⟨by simp [hmode], hsees, hbecame⟩, hmode⟩
  · rintro ⟨⟨-, hsees, hbecame⟩, hmode⟩
    exact ⟨hsees, hmode, hbecame⟩

/-- A monitor that becomes ACTIVE has its counts at 0 and its mark set (R124). -/
theorem judgeMonitor_becameActive {d : Nat} {b : Bool} {v : MonState} (h : becameActive v (judgeMonitor d b v) = true) :
    judgeMonitor d b v = ⟨.active, 0, 0, true⟩ := by
  obtain ⟨hbefore, hafter⟩ := (becameActive_iff _ _).mp h
  rcases v with ⟨cond, onset, release, mark⟩
  cases cond with
  | active => exact absurd rfl hbefore
  | latched => simp [judgeMonitor] at hafter
  | clear =>
    cases b with
    | false => simp [judgeMonitor] at hafter
    | true =>
      simp only [judgeMonitor] at hafter ⊢
      split at hafter
      · next hd => rw [if_pos hd]
      · cases hafter
  | pending =>
    cases b with
    | false => simp [judgeMonitor] at hafter
    | true =>
      simp only [judgeMonitor] at hafter ⊢
      split at hafter
      · next hd => rw [if_pos hd]
      · cases hafter

theorem judgedValue_latches (h : Latches s form m) : judgedValue s form m = ⟨.latched, 0, 0, true⟩ := by
  obtain ⟨hactive, hmode⟩ := h
  obtain ⟨-, hsees, hbecame⟩ := becomesActive_iff.mp hactive
  have hlatches : latchesAt (s.inForce.modes.get m) (deglitchOf s.inForce.items m) (presents s.inForce form m) (s.bank.monitor m) = true := by
    rw [latchesAt, hbecame, hmode]
    rfl
  rw [judgedValue, if_pos hsees, judgedIn, if_neg (by simp [hmode]), if_pos hlatches, judgeMonitor_becameActive hbecame]

theorem judgedValue_judged (hj : judges s form m) (h : ¬ Latches s form m) : judgedValue s form m =
    judgeMonitor (deglitchOf s.inForce.items m) (presents s.inForce form m) (s.bank.monitor m) := by
  obtain ⟨hmode, hsees⟩ := judges_iff.mp hj
  have hnot : ¬ latchesAt (s.inForce.modes.get m) (deglitchOf s.inForce.items m) (presents s.inForce form m) (s.bank.monitor m) = true :=
    fun hl => h (latchesNow_iff.mp (by rw [latchesNow, hsees, hl]; rfl))
  rw [judgedValue, if_pos hsees, judgedIn, if_neg hmode, if_neg hnot]

theorem judgedValue_unjudged (h : ¬ judges s form m) : judgedValue s form m = s.bank.monitor m := by
  unfold judgedValue
  split
  · next hsees =>
    have hoff : s.inForce.modes.get m = .off := by
      refine Classical.byContradiction fun hmode => ?_
      exact h (judges_iff.mpr ⟨hmode, hsees⟩)
    rw [judgedIn, if_pos hoff]
  · rfl

/-- A record gives one value to each monitor. -/
theorem judgedAs_iff (v : MonState) : JudgedAs s form m v ↔ v = if m = .stale then staleEnded s.bank.stale else judgedValue s form m := by
  by_cases hm : m = .stale
  · subst hm
    have hno : ¬ Latches s form .stale := by
      rw [← latchesNow_iff, latchesNow]
      cases form <;> simp [recordSees]
    rw [if_pos rfl]
    exact ⟨fun h => h.1 rfl, fun h => ⟨fun _ => h, fun hx => absurd rfl hx, fun hx => absurd rfl hx, fun hx => absurd hx hno⟩⟩
  · rw [if_neg hm]
    constructor
    · rintro ⟨-, hunjudged, hjudged, hlatches⟩
      by_cases hl : Latches s form m
      · rw [judgedValue_latches hl, hlatches hl]
      · by_cases hj : judges s form m
        · rw [judgedValue_judged hj hl, hjudged hm hj hl]
        · rw [judgedValue_unjudged hj, hunjudged hm hj]
    · rintro rfl
      exact ⟨fun hx => absurd hx hm, fun _ hj => judgedValue_unjudged hj, fun _ hj hl => judgedValue_judged hj hl, judgedValue_latches⟩

/-! ## The judgements one after the other -/

/-- The judgement of one monitor at a record that may concern it. -/
def judgeSeen (form : MeasureForm) (m : Monitor) (s : State) : State × List Monitor :=
  if recordSees s form m then judgeAt m (deglitchOf s.inForce.items m) (presents s.inForce form m) s else (s, [])

theorem judgeSeen_sameBut (form : MeasureForm) (m : Monitor) (s : State) : SameBut [monitorPart m, .reports] s (judgeSeen form m s).1 := by
  unfold judgeSeen
  split
  · exact judgeAt_sameBut m _ _ s
  · exact .refl _ s

theorem judgeSeen_monitor (x : Monitor) :
    (judgeSeen form m s).1.bank.monitor x = if x = m then judgedValue s form m else s.bank.monitor x := by
  unfold judgeSeen judgedValue
  split
  · rw [judgeAt_bank, monitor_setMonitor]
  · split
    · next hx => rw [hx]
    · rfl

theorem mem_judgeSeen (x : Monitor) : x ∈ (judgeSeen form m s).2 ↔ x = m ∧ latchesNow s form m = true := by
  unfold judgeSeen latchesNow
  split
  · next hsees =>
    rw [judgeAt_latched, hsees, Bool.true_and]
    split
    · next hl => simp [hl]
    · next hl => simp [hl]
  · next hsees => simp [hsees]

theorem judgeSeen_produces : Produces (warnsNow s form m) s (judgeSeen form m s).1 := by
  unfold judgeSeen warnsNow
  split
  · exact judgeAt_produces m _ _ s
  · exact .refl s

/-- What a monitor becomes at a record depends on it, the values in force, the state and the blanking alone. -/
theorem judged_congr {v : State} (hforce : v.inForce = s.inForce) (hstate : v.seq.state = s.seq.state)
    (hblank : v.bank.blankThermal = s.bank.blankThermal ∧ v.bank.blankMargin = s.bank.blankMargin)
    (hm : v.bank.monitor m = s.bank.monitor m) : judgedValue v form m = judgedValue s form m
    ∧ latchesNow v form m = latchesNow s form m ∧ warnsNow v form m = warnsNow s form m := by
  have hsees : recordSees v form m = recordSees s form m := by
    unfold recordSees
    rw [hstate, hblank.1, hblank.2]
  unfold judgedValue latchesNow warnsNow
  rw [hsees, hforce, hm]
  exact ⟨rfl, rfl, rfl⟩

/-- The other monitors are judged after one as before it. -/
theorem judged_after {x : Monitor} (h : x ≠ m) : judgedValue (judgeSeen form m s).1 form x = judgedValue s form x
    ∧ latchesNow (judgeSeen form m s).1 form x = latchesNow s form x ∧ warnsNow (judgeSeen form m s).1 form x = warnsNow s form x := by
  have hframe := judgeSeen_sameBut form m s
  have hmon : (judgeSeen form m s).1.bank.monitor x = s.bank.monitor x := by rw [judgeSeen_monitor, if_neg h]
  exact judged_congr (hframe .inForce (by cases m <;> decide)) (hframe .state (by cases m <;> decide))
    (hframe .blanking (by cases m <;> decide)) hmon

/-- The judgements of a list of monitors, one after the other. -/
def judgeAll (form : MeasureForm) : List Monitor → State → State × List Monitor
  | [], s => (s, [])
  | m :: ms, s => ((judgeAll form ms (judgeSeen form m s).1).1, (judgeSeen form m s).2 ++ (judgeAll form ms (judgeSeen form m s).1).2)

theorem judgeAll_monitor {ms : List Monitor} (hms : ms.Nodup) (x : Monitor) :
    (judgeAll form ms s).1.bank.monitor x = if x ∈ ms then judgedValue s form x else s.bank.monitor x := by
  induction ms generalizing s with
  | nil => rfl
  | cons m ms ih =>
    obtain ⟨hm, hms⟩ := List.nodup_cons.mp hms
    rw [judgeAll, ih hms, judgeSeen_monitor]
    by_cases hx : x = m
    · subst hx
      simp [hm]
    · simp [hx, (judged_after (s := s) (form := form) hx).1]

theorem mem_judgeAll {ms : List Monitor} (hms : ms.Nodup) (x : Monitor) :
    x ∈ (judgeAll form ms s).2 ↔ x ∈ ms ∧ latchesNow s form x = true := by
  induction ms generalizing s with
  | nil => simp [judgeAll]
  | cons m ms ih =>
    obtain ⟨hm, hms⟩ := List.nodup_cons.mp hms
    rw [judgeAll, List.mem_append, ih hms, mem_judgeSeen]
    by_cases hx : x = m
    · subst hx
      simp [hm]
    · simp [hx, (judged_after (s := s) (form := form) hx).2.1]

theorem flatMap_congr_left {α β : Type} {f g : α → List β} {xs : List α} (h : ∀ x ∈ xs, f x = g x) : xs.flatMap f = xs.flatMap g := by
  rw [List.flatMap_def, List.flatMap_def, List.map_congr_left h]

theorem judgeAll_produces {ms : List Monitor} (hms : ms.Nodup) :
    Produces (ms.flatMap (warnsNow s form)) s (judgeAll form ms s).1 := by
  induction ms generalizing s with
  | nil => exact .refl s
  | cons m ms ih =>
    obtain ⟨hm, hms⟩ := List.nodup_cons.mp hms
    have hrest : ms.flatMap (warnsNow (judgeSeen form m s).1 form) = ms.flatMap (warnsNow s form) :=
      flatMap_congr_left fun x hx => (judged_after (fun hxm : x = m => hm (hxm ▸ hx))).2.2
    have htail := ih (s := (judgeSeen form m s).1) hms
    rw [hrest] at htail
    exact judgeSeen_produces.trans htail

/-- The monitors judged at records, in the order of their codes. -/
def recordMonitors : List Monitor := [.native, .thermal, .margin, .zoneHigh]

theorem presents_native (f : InForce) (o fl p h v : Half) :
    presents f (.train o fl p h v) .native = nativeCondition f (clampNat 0 25000 p.toNat) := by
  rw [presents, nativeCondition, clampNat_upper]
  rcases f.kind with _ | ⟨_ | _ | _⟩ <;> simp

theorem presents_thermal (f : InForce) (o fl p h v : Half) :
    presents f (.train o fl p h v) .thermal = thermalCondition f (clampNat 0 800 h.toNat) := by
  rw [presents, thermalCondition, clampNat_upper]
  rcases f.kind with _ | ⟨_ | _ | _⟩ <;> simp

theorem judgeSeen_native (o f p h v : Half) (s : State) : judgeSeen (.train o f p h v) .native s =
    judgeAt .native s.inForce.items.dgNative (nativeCondition s.inForce (clampNat 0 25000 p.toNat)) s := by
  rw [← presents_native s.inForce o f p h v]
  rfl

theorem judgeSeen_thermal (o f p h v : Half) (s : State) :
    judgeSeen (.train o f p h v) .thermal s = judgeThermal (clampNat 0 800 h.toNat) s := by
  rw [judgeThermal, ← presents_thermal s.inForce o f p h v]
  rfl

theorem judgeSeen_margin (o f p h v : Half) (s : State) :
    judgeSeen (.train o f p h v) .margin s = judgeMargin (clampNat 0 1000 v.toNat) s := by
  rw [judgeMargin, clampNat_upper]
  rfl

theorem judgeSeen_zoneHigh (zones : List Half) (s : State) : judgeSeen (.store zones) .zoneHigh s =
    judgeAt .zoneHigh s.inForce.items.dgZone ((zones.map fun z => clampNat 0 800 z.toNat).any fun z => decide (s.inForce.items.storeMax < z))
      s := by
  have hany : ((zones.map fun z => clampNat 0 800 z.toNat).any fun z => decide (s.inForce.items.storeMax < z)) =
      presents s.inForce (.store zones) .zoneHigh := by
    rw [List.any_map, presents]
    simp only [Function.comp_def, clampNat_upper]
  rw [hany]
  rfl

/-- A record's judgements are those of the monitors in their order. -/
theorem judgeRecord_eq (form : MeasureForm) (s : State) : judgeRecord (Measurement.ofForm form) s = judgeAll form recordMonitors s := by
  cases form with
  | train o f p h v =>
    have hnone (w : State) : judgeSeen (.train o f p h v) .zoneHigh w = (w, []) := rfl
    simp only [recordMonitors, judgeAll, hnone, judgeSeen_native, judgeSeen_thermal, judgeSeen_margin, List.append_nil]
    simp only [Measurement.ofForm, judgeRecord, List.append_assoc]
  | store zones =>
    have hnative (w : State) : judgeSeen (.store zones) .native w = (w, []) := rfl
    have hthermal (w : State) : judgeSeen (.store zones) .thermal w = (w, []) := rfl
    have hmargin (w : State) : judgeSeen (.store zones) .margin w = (w, []) := rfl
    simp only [recordMonitors, judgeAll, hnative, hthermal, hmargin, judgeSeen_zoneHigh, List.nil_append, List.append_nil]
    simp only [Measurement.ofForm, judgeRecord]

/-! ## The whole of a record's judgements -/

theorem mem_recordMonitors : m ∈ recordMonitors ↔ m ≠ .stale := by cases m <;> simp [recordMonitors]

/-- The station as a record reaches the judgements: the record taken in, the condition of M_STALE ended. -/
theorem endedTakeIn_judged (r : Measurement) (hm : m ≠ .stale) :
    judgedValue (endStale (takeIn r s)) form m = judgedValue s form m
    ∧ latchesNow (endStale (takeIn r s)) form m = latchesNow s form m ∧ warnsNow (endStale (takeIn r s)) form m = warnsNow s form m := by
  have hframe : SameBut [.holder, .staleTimer, .ownPoint, .energies, .zones, .stale, .cap] s (endStale (takeIn r s)) :=
    (takeIn_sameBut r s).comp (endStale_sameBut _) (by decide)
  have hmon : (endStale (takeIn r s)).bank.monitor m = s.bank.monitor m := by
    rw [endStale_monitor, if_neg hm, takeIn_bank]
  exact judged_congr (hframe .inForce (by decide)) (hframe .state (by decide)) (hframe .blanking (by decide)) hmon

/-- Every monitor after the judgements of a record is as the spec's table gives it. -/
theorem recordJudged_monitor (m : Monitor) :
    JudgedAs s form m ((recordJudged (Measurement.ofForm form) s).1.bank.monitor m) := by
  rw [judgedAs_iff]
  simp only [recordJudged]
  rw [retryStage_monitor, judgeRecord_eq, judgeAll_monitor (by decide)]
  by_cases hm : m = .stale
  · subst hm
    rw [if_neg (by decide), if_pos rfl, endStale_monitor, if_pos rfl, takeIn_bank]
  · rw [if_pos (mem_recordMonitors.mpr hm), if_neg hm, (endedTakeIn_judged _ hm).1]

theorem mem_recordJudged (m : Monitor) : m ∈ (recordJudged (Measurement.ofForm form) s).2 ↔ Latches s form m := by
  simp only [recordJudged]
  rw [judgeRecord_eq, mem_judgeAll (by decide), mem_recordMonitors, ← latchesNow_iff]
  by_cases hm : m = .stale
  · subst hm
    have hno : latchesNow s form .stale = false := by cases form <;> rfl
    simp [hno]
  · rw [(endedTakeIn_judged _ hm).2.1]
    simp [hm]

/-- The reports of a record's judgements, in the order of the monitors' codes (R125). -/
theorem recordJudged_produces :
    Produces (recordMonitors.flatMap (warnsNow s form)) s (recordJudged (Measurement.ofForm form) s).1 := by
  have hends : Produces [] s (endStale (takeIn (Measurement.ofForm form) s)) :=
    produces_of_frame ((takeIn_sameBut _ s).comp (endStale_sameBut _) (List.Subset.refl _)) (by decide)
  have hjudged := judgeAll_produces (form := form) (s := endStale (takeIn (Measurement.ofForm form) s))
    (show recordMonitors.Nodup by decide)
  have hwarns : recordMonitors.flatMap (warnsNow (endStale (takeIn (Measurement.ofForm form) s)) form) =
      recordMonitors.flatMap (warnsNow s form) :=
    flatMap_congr_left fun x hx => (endedTakeIn_judged _ (mem_recordMonitors.mp hx)).2.2
  rw [hwarns, ← judgeRecord_eq] at hjudged
  exact (hends.trans hjudged).then_sameBut (retryStage_sameBut _ _) (by decide)

end Sys2Proof.Machine
end

section
/-! PROOFS. The statement on the monitors at a record (R123 to R129). -/

namespace Sys2Proof.Machine

variable {s : State} {form : MeasureForm}

/-! ## Records in a row (R124) -/

/-- A PENDING monitor stays so while its count is below the deglitch count, and becomes ACTIVE at it. -/
theorem judgedRun_pending {d : Nat} (k : Nat) {v : MonState} (h : v.cond = .pending) :
    (k + v.onset < d → (judgedRun d true k v).cond = .pending)
    ∧ (k + v.onset = d → 1 ≤ k → (judgedRun d true k v).cond = .active ∧ (judgedRun d true k v).onset = 0) := by
  induction k generalizing v with
  | zero => exact ⟨fun _ => h, fun _ h1 => absurd h1 (by decide)⟩
  | succ k ih =>
    have hstep : judgeMonitor d true v = if d ≤ v.onset + 1 then ⟨.active, 0, 0, true⟩ else { v with onset := v.onset + 1, mark := true } := by
      simp only [judgeMonitor, h]
    refine ⟨fun hk => ?_, fun hk _ => ?_⟩
    · rw [judgedRun, hstep, if_neg (by omega)]
      exact (ih (v := { v with onset := v.onset + 1, mark := true }) h).1 (show k + (v.onset + 1) < d by omega)
    · rw [judgedRun, hstep]
      cases k with
      | zero =>
        rw [if_pos (by omega)]
        exact ⟨rfl, rfl⟩
      | succ k =>
        rw [if_neg (by omega)]
        exact (ih (v := { v with onset := v.onset + 1, mark := true }) h).2 (show k + 1 + (v.onset + 1) = d by omega) (by omega)

/-- An ACTIVE monitor stays so while its count is below the deglitch count, and is CLEAR at it. -/
theorem judgedRun_active {d : Nat} (k : Nat) {v : MonState} (h : v.cond = .active) :
    (k + v.release < d → (judgedRun d false k v).cond = .active)
    ∧ (k + v.release = d → 1 ≤ k → judgedRun d false k v = ⟨.clear, 0, 0, false⟩) := by
  induction k generalizing v with
  | zero => exact ⟨fun _ => h, fun _ h1 => absurd h1 (by decide)⟩
  | succ k ih =>
    have hstep : judgeMonitor d false v = if d ≤ v.release + 1 then ⟨.clear, 0, 0, false⟩ else { v with release := v.release + 1, mark := false } := by
      simp only [judgeMonitor, h]
    refine ⟨fun hk => ?_, fun hk _ => ?_⟩
    · rw [judgedRun, hstep, if_neg (by omega)]
      exact (ih (v := { v with release := v.release + 1, mark := false }) h).1 (show k + (v.release + 1) < d by omega)
    · rw [judgedRun, hstep]
      cases k with
      | zero =>
        rw [if_pos (by omega)]
        rfl
      | succ k =>
        rw [if_neg (by omega)]
        exact (ih (v := { v with release := v.release + 1, mark := false }) h).2 (show k + 1 + (v.release + 1) = d by omega) (by omega)

/-- A CLEAR monitor at records in a row that all present its condition. -/
theorem judgedRun_clear {d : Nat} (hd : 1 ≤ d) {v : MonState} (h : v.cond = .clear) :
    (judgedRun d true d v).cond = .active ∧ (judgedRun d true d v).onset = 0
    ∧ ∀ k, 1 ≤ k → k < d → (judgedRun d true k v).cond = .pending := by
  have hstep : judgeMonitor d true v = if d ≤ 1 then ⟨.active, 0, 0, true⟩ else ⟨.pending, 1, v.release, true⟩ := by
    simp only [judgeMonitor, h]
  by_cases h1 : d ≤ 1
  · obtain rfl : d = 1 := Nat.le_antisymm h1 hd
    have hrun : judgedRun 1 true 1 v = ⟨.active, 0, 0, true⟩ := hstep
    rw [hrun]
    exact ⟨rfl, rfl, fun k hk hlt => absurd hk (Nat.not_le.mpr hlt)⟩
  · rw [if_neg h1] at hstep
    have hsucc (k : Nat) : judgedRun d true (k + 1) v = judgedRun d true k ⟨.pending, 1, v.release, true⟩ := by
      rw [judgedRun, hstep]
    obtain ⟨n, rfl⟩ : ∃ n, d = n + 1 := ⟨d - 1, by omega⟩
    obtain ⟨hactive, honset⟩ := (judgedRun_pending (d := n + 1) n (v := ⟨.pending, 1, v.release, true⟩) rfl).2 rfl (by omega)
    rw [← hsucc] at hactive honset
    refine ⟨hactive, honset, fun k hk hlt => ?_⟩
    obtain ⟨j, rfl⟩ : ∃ j, k = j + 1 := ⟨k - 1, by omega⟩
    rw [hsucc]
    exact (judgedRun_pending j rfl).1 hlt

/-! ## The monitor cap at a record (R128, R129, R131) -/

theorem anyActiveRetry_iff (s : State) : anyActiveRetry s = true ↔ ∃ m, RetryIn s s.bank.monitor m := by
  unfold anyActiveRetry RetryIn
  rw [List.any_eq_true]
  simp only [Bool.and_eq_true, beq_iff_eq]
  exact ⟨fun ⟨m, _, h⟩ => ⟨m, h⟩, fun ⟨m, h⟩ => ⟨m, by cases m <;> simp [allMonitors], h⟩⟩

theorem anyActiveRetry_congr {v : State} (hforce : v.inForce = s.inForce) (hm : ∀ m, v.bank.monitor m = s.bank.monitor m) :
    anyActiveRetry v = anyActiveRetry s := by
  unfold anyActiveRetry
  simp only [hforce, hm]

theorem releaseCap_cap (b : Bool) (ht : s.isTrain = true) : (releaseCap b s).bank.cap =
    if b = true ∧ anyActiveRetry s = false then s.inForce.items.rated.getD 0 else s.bank.cap := by
  unfold releaseCap
  cases b <;> cases hr : anyActiveRetry s <;> simp [ht, InForce.rated]

theorem endStale_cap (ht : s.isTrain = true) : (endStale s).bank.cap =
    if anyActiveRetry s = true ∧ anyActiveRetry (endStale s) = false then s.inForce.items.rated.getD 0 else s.bank.cap := by
  have hended := releaseCap_monitor (anyActiveRetry s) { s with bank := { s.bank with stale := staleEnded s.bank.stale } }
  have hsame : anyActiveRetry (endStale s) = anyActiveRetry { s with bank := { s.bank with stale := staleEnded s.bank.stale } } :=
    anyActiveRetry_congr (s := { s with bank := { s.bank with stale := staleEnded s.bank.stale } })
      (endStale_sameBut s .inForce (by decide)) hended
  rw [hsame]
  exact releaseCap_cap (s := { s with bank := { s.bank with stale := staleEnded s.bank.stale } }) (anyActiveRetry s) ht

theorem retryStage_cap (b : Bool) (ht : s.isTrain = true) : (retryStage b s).bank.cap =
    if anyActiveRetry s = true then min s.bank.cap s.share.command - s.inForce.items.retryStep
    else if b = true then s.inForce.items.rated.getD 0 else s.bank.cap := by
  unfold retryStage retryCut
  rw [if_pos ht]
  split
  · rfl
  · next h =>
    rw [releaseCap_cap b ht]
    simp [h]

end Sys2Proof.Machine
end

section
/-! PROOFS. The statement on the monitors at a record, assembled (R123 to R129). -/

namespace Sys2Proof.Machine

variable {s : State} {form : MeasureForm}

/-! ## The latches and the reports of a record -/

theorem record_quiet_iff : (recordJudged (Measurement.ofForm form) s).2 = [] ↔ ∀ m, ¬ Latches s form m := by
  rw [List.eq_nil_iff_forall_not_mem]
  exact forall_congr' fun m => not_congr (mem_recordJudged m)

theorem warnsNow_length (m : Monitor) : (warnsNow s form m).length ≤ 1 := by
  unfold warnsNow warnsAt
  split
  · split <;> simp
  · simp

theorem warnsNow_isWarn {m : Monitor} {r : Report} (h : r ∈ warnsNow s form m) : r = .monitorWarn m (s.inForce.modes.get m) := by
  unfold warnsNow warnsAt at h
  split at h
  · split at h
    · exact List.mem_singleton.mp h
    · simp at h
  · simp at h

theorem warnsNow_becomes {m : Monitor} (h : BecomesActive s form m)
    (hmode : s.inForce.modes.get m = .retry ∨ s.inForce.modes.get m = .warn) :
    warnsNow s form m = [.monitorWarn m (s.inForce.modes.get m)] := by
  obtain ⟨-, hsees, hbecame⟩ := becomesActive_iff.mp h
  rw [warnsNow, if_pos hsees, warnsAt, if_pos ⟨hmode, hbecame⟩]

theorem warnsNow_native (h : NativeModeLaw s) : warnsNow s form .native = [] := by
  have hmode : s.inForce.modes.get .native = .latch := h
  unfold warnsNow warnsAt
  rw [hmode]
  simp

theorem warnsNow_unseen {m : Monitor} (h : recordSees s form m = false) : warnsNow s form m = [] := by
  rw [warnsNow, if_neg (by simp [h])]

/-- The reports of the judgements are three at most: a record of a train does not concern M_ZONE_HIGH. -/
theorem recordWarns_length (s : State) (form : MeasureForm) : (recordMonitors.flatMap (warnsNow s form)).length ≤ 3 := by
  have hone (m : Monitor) := warnsNow_length (s := s) (form := form) m
  have hnative := hone .native
  have hthermal := hone .thermal
  have hmargin := hone .margin
  have hzone := hone .zoneHigh
  have hmiss : warnsNow s form .native = [] ∨ warnsNow s form .zoneHigh = [] := by
    cases form with
    | train o f p h v => exact .inr (warnsNow_unseen rfl)
    | store zones => exact .inl (warnsNow_unseen rfl)
  simp only [recordMonitors, List.flatMap_cons, List.flatMap_nil, List.length_append, List.length_nil]
  obtain hmiss | hmiss := hmiss <;> rw [hmiss] <;> simp only [List.length_nil] <;> omega

/-- Before the MONITOR WARN of a monitor stands one other at most, M_NATIVE being in LATCH. -/
theorem recordWarns_split {m : Monitor} (h : BecomesActive s form m)
    (hmode : s.inForce.modes.get m = .retry ∨ s.inForce.modes.get m = .warn) (hnative : NativeModeLaw s) :
    ∃ pre post, recordMonitors.flatMap (warnsNow s form) = pre ++ .monitorWarn m (s.inForce.modes.get m) :: post ∧ pre.length ≤ 1 := by
  have hwarn := warnsNow_becomes h hmode
  obtain ⟨-, hsees, -⟩ := becomesActive_iff.mp h
  simp only [recordMonitors, List.flatMap_cons, List.flatMap_nil]
  rw [warnsNow_native hnative]
  cases m with
  | native =>
    have hlatch : s.inForce.modes.get .native = .latch := hnative
    rw [hlatch] at hmode
    simp at hmode
  | thermal => exact ⟨[], _, by rw [hwarn]; rfl, by simp⟩
  | margin => exact ⟨warnsNow s form .thermal, _, by rw [hwarn]; rfl, warnsNow_length _⟩
  | zoneHigh =>
    cases form with
    | train o f p h v => cases hsees
    | store zones => exact ⟨[], [], by rw [hwarn, warnsNow_unseen rfl, warnsNow_unseen rfl]; rfl, by simp⟩
  | stale => cases form <;> cases hsees

/-- Everything that a record queues: the MONITOR WARNs first. -/
theorem takeRecord_produces : ∃ qs, Produces (recordMonitors.flatMap (warnsNow s form) ++ qs) s (takeRecord (Measurement.ofForm form) s) := by
  rw [takeRecord_read]
  obtain ⟨ls, hlatches⟩ := handleLatches_produces (recordJudged (Measurement.ofForm form) s).2 (recordJudged (Measurement.ofForm form) s).1
  obtain ⟨qs, hread, -⟩ := readForms_produces hlatches
  exact ⟨_, recordJudged_produces.trans hread⟩

theorem takeRecord_warns {m : Monitor} (h : BecomesActive s form m)
    (hmode : s.inForce.modes.get m = .retry ∨ s.inForce.modes.get m = .warn) (hnative : NativeModeLaw s)
    (hroom : s.link.reports.length + 2 ≤ 16) :
    ∃ n, ⟨n, .monitorWarn m (s.inForce.modes.get m)⟩ ∈ (takeRecord (Measurement.ofForm form) s).link.reports := by
  obtain ⟨pre, post, hsplit, hpre⟩ := recordWarns_split h hmode hnative
  obtain ⟨qs, hreports⟩ := takeRecord_produces (s := s) (form := form)
  rw [hsplit, List.append_assoc] at hreports
  exact hreports.mem (by omega)

/-- Where no trip is made no report of one is queued. -/
theorem record_noTrip (h : (recordJudged (Measurement.ofForm form) s).2 = [] ∨ s.seq.state.inService = false) {x : NumberedReport}
    (hx : x ∈ (takeRecord (Measurement.ofForm form) s).link.reports) (htrip : ∃ named, x.report = .trip named) : x ∈ s.link.reports := by
  obtain ⟨qs, hreports, hqs⟩ := record_produces h recordJudged_produces
  obtain ⟨named, hnamed⟩ := htrip
  obtain hx | hx := hreports.mem_or hx
  · exact hx
  · rw [hnamed] at hx
    obtain hx | hx := List.mem_append.mp hx
    · obtain ⟨m, -, hm⟩ := List.mem_flatMap.mp hx
      cases warnsNow_isWarn hm
    · obtain hq | hq | hq := hqs _ hx <;> cases hq

/-! ## The trip of a record -/

theorem cutReport_of_parts {v : State} (h : ∀ p ∈ [Part.inForce, .clock, .noms, .lastLoaded], p.same s v) : cutReport v = cutReport s := by
  have hforce : v.inForce = s.inForce := h .inForce (by decide)
  have hclock : v.clock = s.clock := h .clock (by decide)
  have hnoms : v.book.noms = s.book.noms := h .noms (by decide)
  have hlast : v.share.lastLoaded = s.share.lastLoaded := h .lastLoaded (by decide)
  unfold cutReport
  rw [State.isTrain, hforce, hclock, hnoms, hlast]
  rfl

theorem unloadMonitor_eq (v : MonState) :
    unloadMonitor v = if v.cond = .latched then { v with mark := false } else ⟨.clear, 0, 0, false⟩ := by
  unfold unloadMonitor
  split
  · next h => rw [if_pos h]
  · next h => rw [if_neg h]

theorem recordTrip_rebuilt {m : Monitor} (hm : Latches s form m) (ms : List Monitor) :
    RebuiltAtTrip s (tripRead ms (recordJudged (Measurement.ofForm form) s).1) := by
  have hlatched : ((recordJudged (Measurement.ofForm form) s).1.bank.monitor m).cond = .latched := by
    obtain ⟨-, -, -, hlatch⟩ := recordJudged_monitor (s := s) (form := form) m
    rw [hlatch hm]
  exact (rebuiltAtTrip_tripRead ms ⟨m, hlatched⟩).congr (fun p hp => recordJudged_sameBut _ s p (by revert p; decide))
    fun p _ => p.same_refl _

/-! ## The monitor cap of a record -/

/-- M_STALE apart, a monitor is ACTIVE in RETRY after the end of M_STALE's condition where it was before it (R131). -/
theorem anyActiveRetry_ended (r : Measurement) (s : State) :
    anyActiveRetry (endStale (takeIn r s)) = true ↔ ∃ m, m ≠ .stale ∧ RetryIn s s.bank.monitor m := by
  have hforce : (endStale (takeIn r s)).inForce = s.inForce :=
    ((takeIn_sameBut r s).comp (endStale_sameBut _) (List.Subset.refl _)) .inForce (by decide)
  rw [anyActiveRetry_iff]
  refine exists_congr fun m => ?_
  unfold RetryIn
  rw [hforce, endStale_monitor, takeIn_bank]
  by_cases hm : m = .stale
  · rw [if_pos hm]
    exact iff_of_false (fun h => staleEnded_cond _ h.1) fun h => h.1 hm
  · rw [if_neg hm]
    exact ⟨fun h => ⟨hm, h⟩, fun h => h.2⟩

/-- The cap after the end of M_STALE's condition (R131). -/
theorem ended_cap (r : Measurement) (ht : s.isTrain = true) {held : Nat}
    (h1 : (RetryIn s s.bank.monitor .stale ∧ ∀ m, m ≠ .stale → ¬ RetryIn s s.bank.monitor m) → held = s.inForce.items.rated.getD 0)
    (h2 : ¬ (RetryIn s s.bank.monitor .stale ∧ ∀ m, m ≠ .stale → ¬ RetryIn s s.bank.monitor m) → held = s.bank.cap) :
    (endStale (takeIn r s)).bank.cap = held := by
  have hforce : (takeIn r s).inForce = s.inForce := takeIn_sameBut r s .inForce (by decide)
  have hbefore : anyActiveRetry (takeIn r s) = anyActiveRetry s := anyActiveRetry_congr hforce fun m => by rw [takeIn_bank]
  have hended := anyActiveRetry_ended r s
  rw [endStale_cap (((takeIn_sameBut r s).isTrain (by decide)).trans ht), hbefore, hforce, takeIn_bank]
  by_cases hstale : RetryIn s s.bank.monitor .stale ∧ ∀ m, m ≠ .stale → ¬ RetryIn s s.bank.monitor m
  · have hnone : anyActiveRetry (endStale (takeIn r s)) = false := by
      rw [← Bool.not_eq_true, hended]
      rintro ⟨m, hm, hretry⟩
      exact hstale.2 m hm hretry
    rw [if_pos ⟨(anyActiveRetry_iff s).mpr ⟨.stale, hstale.1⟩, hnone⟩, h1 hstale]
  · rw [h2 hstale, if_neg]
    rintro ⟨hsome, hnone⟩
    rw [← Bool.not_eq_true, hended] at hnone
    obtain ⟨m, hm⟩ := (anyActiveRetry_iff s).mp hsome
    have hother (x : Monitor) (hx : x ≠ .stale) : ¬ RetryIn s s.bank.monitor x := fun hr => hnone ⟨x, hx, hr⟩
    obtain rfl : m = .stale := by
      refine Classical.byContradiction fun hx => ?_
      exact hother m hx hm
    exact hstale ⟨hm, hother⟩

section
variable {bank : Monitor → MonState} (hbank : ∀ m, JudgedAs s form m (bank m))
include hbank

theorem recordJudged_bank (m : Monitor) : (recordJudged (Measurement.ofForm form) s).1.bank.monitor m = bank m :=
  ((judgedAs_iff _).mp (recordJudged_monitor m)).trans ((judgedAs_iff _).mp (hbank m)).symm

/-- The bank after a trip of a record (R127). -/
theorem recordTrip_monitor (ms : List Monitor) (m : Monitor) :
    (tripRead ms (recordJudged (Measurement.ofForm form) s).1).bank.monitor m =
      if s.seq.state.loaded = true ∧ (m = .thermal ∨ m = .margin) then unloadMonitor (bank m) else bank m := by
  rw [tripRead_monitor, recordJudged_bank hbank, (recordJudged_sameBut _ s).state (by decide)]

/-- The monitor cap after the judgements of a record at a train: the end of M_STALE's condition, then the retry cut or the release (R128, R129, R131). -/
theorem recordJudged_cap (ht : s.isTrain = true) {held cap : Nat}
    (h1 : (RetryIn s s.bank.monitor .stale ∧ ∀ m, m ≠ .stale → ¬ RetryIn s s.bank.monitor m) → held = s.inForce.items.rated.getD 0)
    (h2 : ¬ (RetryIn s s.bank.monitor .stale ∧ ∀ m, m ≠ .stale → ¬ RetryIn s s.bank.monitor m) → held = s.bank.cap)
    (h3 : (∃ m, RetryIn s bank m) → cap = min held s.share.command - s.inForce.items.retryStep)
    (h4 : (∀ m, ¬ RetryIn s bank m) → (∃ m, RetryIn s s.bank.monitor m) → cap = s.inForce.items.rated.getD 0)
    (h5 : (∀ m, ¬ RetryIn s bank m) → (∀ m, ¬ RetryIn s s.bank.monitor m) → cap = s.bank.cap) :
    (recordJudged (Measurement.ofForm form) s).1.bank.cap = cap := by
  have hended := ended_cap (Measurement.ofForm form) ht h1 h2
  have hretry := anyActiveRetry_ended (Measurement.ofForm form) s
  have hmonitor := recordJudged_bank hbank
  have hframe : SameBut _ s (endStale (takeIn (Measurement.ofForm form) s)) :=
    (takeIn_sameBut _ s).comp (endStale_sameBut _) (List.Subset.refl _)
  have hjudge := judgeRecord_sameBut (Measurement.ofForm form) (endStale (takeIn (Measurement.ofForm form) s))
  simp only [recordJudged, retryStage_monitor] at hmonitor ⊢
  generalize endStale (takeIn (Measurement.ofForm form) s) = e at *
  generalize (judgeRecord (Measurement.ofForm form) e).1 = j at *
  have hforce : j.inForce = s.inForce := (hjudge .inForce (by decide)).trans (hframe .inForce (by decide))
  have hcommand : j.share.command = s.share.command := (hjudge .command (by decide)).trans (hframe .command (by decide))
  have hcap : j.bank.cap = held := (hjudge .cap (by decide)).trans hended
  have hactive : anyActiveRetry j = true ↔ ∃ m, RetryIn s bank m := by
    rw [anyActiveRetry_iff]
    unfold RetryIn
    simp only [hmonitor, hforce]
  have htrain : j.isTrain = true := (hjudge.isTrain (by decide)).trans ((hframe.isTrain (by decide)).trans ht)
  rw [retryStage_cap _ htrain, hforce, hcommand, hcap]
  by_cases hsome : ∃ m, RetryIn s bank m
  · rw [if_pos (hactive.mpr hsome), h3 hsome]
  · have hnone : ∀ m, ¬ RetryIn s bank m := fun m hm => hsome ⟨m, hm⟩
    rw [if_neg fun h => hsome (hactive.mp h)]
    by_cases hbefore : ∃ m, RetryIn s s.bank.monitor m
    · rw [h4 hnone hbefore]
      split
      · rfl
      · next he =>
        have hother (x : Monitor) (hx : x ≠ .stale) : ¬ RetryIn s s.bank.monitor x := fun hr => he (hretry.mpr ⟨x, hx, hr⟩)
        obtain ⟨m, hm⟩ := hbefore
        obtain rfl : m = .stale := by
          refine Classical.byContradiction fun hx => ?_
          exact hother m hx hm
        exact h1 ⟨hm, hother⟩
    · rw [h5 hnone fun m hm => hbefore ⟨m, hm⟩, if_neg fun he => hbefore ((hretry.mp he).imp fun _ h => h.2)]
      exact h2 fun h => hbefore ⟨_, h.1⟩

end

end Sys2Proof.Machine
end

section
/-! PROOFS. The statement on the monitors at a record, settled (R123 to R129). -/

namespace Sys2Proof.Machine

variable {s : State} {form : MeasureForm}

theorem inService_of_tripped (h : s.seq.state = .tripped ∨ s.seq.state = .conflict) : s.seq.state.inService = false := by
  obtain h | h := h <;> rw [h] <;> rfl

/-- A record is taken where its form fits the kind of the station. -/
theorem formFits_of {form : MeasureForm} (htrain : ∀ o f p h m, form = .train o f p h m → s.isTrain = true)
    (hstore : ∀ zones, form = .store zones → s.isStore = true) : formFits form s = true := by
  cases form with
  | train o f p h m => exact htrain _ _ _ _ _ rfl
  | store zones => exact hstore _ rfl

/-- Latches in JOINING are held to the end of the window (R106). -/
theorem record_held {m : Monitor} (hm : Latches s form m) (hs : s.seq.state = .joining) :
    (takeRecord (Measurement.ofForm form) s).seq.state = .joining ∧ (takeRecord (Measurement.ofForm form) s).seq.tripHeld = true := by
  have hout : s.seq.state.inService = false := by rw [hs]; rfl
  have hoff : s.seq.state ≠ .offline := by rw [hs]; decide
  have hstate : (takeRecord (Measurement.ofForm form) s).seq.state = .joining := by
    obtain h | ⟨h, -⟩ := record_state (r := Measurement.ofForm form) (.inr hout) hoff
    · exact h.trans hs
    · rw [hs] at h
      cases h
  obtain ⟨-, -, -, -, hheld⟩ := record_blocks (r := Measurement.ofForm form) (.inr hout) (by rw [hstate]; decide)
  have hjudged := recordJudged_sameBut (Measurement.ofForm form) s
  have hms : (recordJudged (Measurement.ofForm form) s).2 ≠ [] := fun h => record_quiet_iff.mp h m hm
  rw [handleLatches_joining hms ((hjudged.state (by decide)).trans hs)] at hheld
  exact ⟨hstate, hheld⟩

/-- Latches in TRIPPED and CONFLICT do nothing further (R133). -/
theorem record_ignored (hs : s.seq.state = .tripped ∨ s.seq.state = .conflict) :
    (takeRecord (Measurement.ofForm form) s).seq.state = s.seq.state
    ∧ (takeRecord (Measurement.ofForm form) s).seq.tripOut = s.seq.tripOut
    ∧ (takeRecord (Measurement.ofForm form) s).bus = s.bus
    ∧ (takeRecord (Measurement.ofForm form) s).seq.tripHeld = s.seq.tripHeld
    ∧ (takeRecord (Measurement.ofForm form) s).account.openRec = s.account.openRec := by
  have hout := inService_of_tripped hs
  have hoff : s.seq.state ≠ .offline ∧ s.seq.state ≠ .leaving ∧ s.seq.state ≠ .joining := by
    obtain h | h := hs <;> rw [h] <;> decide
  obtain ⟨hoff, hleave, hjoin⟩ := hoff
  have hstate : (takeRecord (Measurement.ofForm form) s).seq.state = s.seq.state :=
    (record_state (.inr hout) hoff).resolve_right fun h => hleave h.1
  obtain ⟨-, hopen, hbus, htrip, hheld⟩ := record_blocks (r := Measurement.ofForm form) (.inr hout) (hstate ▸ hoff)
  have hjudged := recordJudged_sameBut (Measurement.ofForm form) s
  have hsame : (recordJudged (Measurement.ofForm form) s).1.seq.state = s.seq.state := hjudged.state (by decide)
  rw [handleLatches_idle (by rwa [hsame]) (by rwa [hsame])] at hheld
  exact ⟨hstate, htrip, hbus, hheld.trans (hjudged .tripHeld (by decide)), hopen⟩

/-- The trip of a record is reported with the monitors that latched (R114, R120). -/
theorem record_tripReport (hout : (recordJudged (Measurement.ofForm form) s).2 ≠ []) (hs : s.seq.state.inService = true)
    (hroom : s.link.reports.length + 4 ≤ 16) : ∃ n named, ⟨n, .trip named⟩ ∈ (takeRecord (Measurement.ofForm form) s).link.reports
      ∧ ∀ m, m ∈ named ↔ Latches s form m := by
  obtain ⟨qs, hreports, -⟩ := tripRead_produces (recordJudged (Measurement.ofForm form) s).2 (recordJudged (Measurement.ofForm form) s).1
  have hall := (recordJudged_produces (s := s) (form := form)).trans hreports
  have hfew := recordWarns_length s form
  obtain ⟨n, hn⟩ := hall.mem (by omega)
  rw [record_trips hout hs]
  exact ⟨n, _, hn, mem_recordJudged⟩

/-- The bank after a trip of a record: M_THERMAL and M_MARGIN as a fall out of RUNNING or LEAVING leaves them (R127). -/
theorem record_tripBank {bank : Monitor → MonState} (hbank : ∀ m, JudgedAs s form m (bank m))
    (hout : (recordJudged (Measurement.ofForm form) s).2 ≠ []) (hs : s.seq.state.inService = true) (m : Monitor) :
    (takeRecord (Measurement.ofForm form) s).bank.monitor m =
      if s.seq.state.loaded = true ∧ (m = .thermal ∨ m = .margin) then
        if (bank m).cond = .latched then { bank m with mark := false } else ⟨.clear, 0, 0, false⟩
      else bank m := by
  rw [record_trips hout hs, recordTrip_monitor hbank, unloadMonitor_eq]

/-- A record that trips the station, beside the bank and the reports (R114). -/
theorem record_tripState {m : Monitor} (hm : Latches s form m) (hout : (recordJudged (Measurement.ofForm form) s).2 ≠ [])
    (hs : s.seq.state.inService = true) : (takeRecord (Measurement.ofForm form) s).seq.state = .tripped
    ∧ (takeRecord (Measurement.ofForm form) s).seq.tripOut = true ∧ (takeRecord (Measurement.ofForm form) s).seq.available = false
    ∧ (takeRecord (Measurement.ofForm form) s).share.command = 0
    ∧ (takeRecord (Measurement.ofForm form) s).bus.pendingAlert = some ⟨s.inForce.address, .trip, cutReport s⟩
    ∧ RebuiltAtTrip s (takeRecord (Measurement.ofForm form) s) := by
  have hjudged := recordJudged_sameBut (Measurement.ofForm form) s
  have halert := tripRead_pendingAlert (recordJudged (Measurement.ofForm form) s).2 (recordJudged (Measurement.ofForm form) s).1
  rw [hjudged.inForce (by decide), cutReport_of_parts fun p hp => hjudged p (by revert p; decide)] at halert
  rw [record_trips hout hs]
  exact ⟨tripRead_state _ _, tripRead_tripOut _ _, tripRead_available _ _, (tripRead_seq _ _).2.2, halert, recordTrip_rebuilt hm _⟩

theorem judgeMonitor_table (d : Nat) (m : MonState) :
    (m.cond = .clear → judgeMonitor d true m = if d ≤ 1 then ⟨.active, 0, 0, true⟩ else ⟨.pending, 1, m.release, true⟩)
    ∧ (m.cond = .clear → judgeMonitor d false m = { m with mark := false })
    ∧ (m.cond = .pending → judgeMonitor d true m =
        if d ≤ m.onset + 1 then ⟨.active, 0, 0, true⟩ else { m with onset := m.onset + 1, mark := true })
    ∧ (m.cond = .pending → (judgeMonitor d false m).cond = .clear ∧ (judgeMonitor d false m).onset = 0)
    ∧ (m.cond = .active → judgeMonitor d true m = { m with release := 0, mark := true })
    ∧ (m.cond = .active → judgeMonitor d false m =
        if d ≤ m.release + 1 then ⟨.clear, 0, 0, false⟩ else { m with release := m.release + 1, mark := false })
    ∧ (m.cond = .latched → ∀ b, judgeMonitor d b m = { m with mark := b }) := by
  refine ⟨fun h => ?_, fun h => ?_, fun h => ?_, fun h => ?_, fun h => ?_, fun h => ?_, fun h b => ?_⟩ <;> simp only [judgeMonitor, h, and_self]

/-- Settles O50: the table of one judgement, then at a MEASURE what is judged, the latches by the state that they find, and the monitor cap. -/
theorem monitorJudgedByTable : Obligations.MonitorJudgedByTable := by
  refine ⟨fun d m hd => ?_, fun s t tag form bank hoff hn hform htrain hstore _ hbank => ?_⟩
  · obtain ⟨h1, h2, h3, h4, h5, h6, h7⟩ := judgeMonitor_table d m
    refine ⟨h1, h2, h3, h4, h5, h6, h7, judgedRun_clear hd, fun ha hr => ⟨?_, fun k hk => ?_⟩⟩
    · exact (judgedRun_active d ha).2 (by rw [hr]; rfl) hd
    · exact (judgedRun_active k ha).1 (by rw [hr]; exact hk)
  · have hexec := exec_measure (t := t) hn hform hoff (formFits_of htrain hstore)
    have hoff' : (s.atInstant t).seq.state ≠ .offline := hoff
    have hquiet : (recordJudged (Measurement.ofForm form) (s.atInstant t)).2 = [] ↔ ∀ m, ¬ Latches s form m :=
      record_quiet_iff (s := s.atInstant t)
    have hmonitor := recordJudged_bank (s := s.atInstant t) (form := form) hbank
    refine ⟨_, hexec, fun hno => record_state (.inl (hquiet.mpr hno)) hoff', fun hno hon m => ?_,
      fun m hm hmode hnative hroom => takeRecord_warns (s := s.atInstant t) hm hmode hnative hroom,
      fun m hm hs => record_held (s := s.atInstant t) hm hs, fun m hm hs => ?_, fun m hm hs => ?_,
      fun ht hno held cap h1 h2 h3 h4 h5 => ?_⟩
    · exact (congrArg (Bank.monitor · m) (record_blocks (hno.imp_left hquiet.mpr) hon).1).trans (hmonitor m)
    · obtain ⟨hstate, htrip, hbus, hheld, hopen⟩ := record_ignored (s := s.atInstant t) (form := form) hs
      exact ⟨hstate, htrip, congrArg Bus.pendingAlert hbus, congrArg Bus.pendingStatus hbus, hheld, hopen,
        fun x hx => record_noTrip (s := s.atInstant t) (.inr (inService_of_tripped hs)) hx⟩
    · have hout : (recordJudged (Measurement.ofForm form) (s.atInstant t)).2 ≠ [] := fun h => hquiet.mp h m hm
      obtain ⟨hstate, htrip, havailable, hcommand, halert, hrebuilt⟩ := record_tripState (s := s.atInstant t) hm hout hs
      have htripped := record_tripBank (s := s.atInstant t) hbank hout hs
      refine ⟨hstate, htrip, havailable, hcommand, halert,
        hrebuilt.congr (fun p _ => atInstant_sameBut t s p (by simp)) fun p hp => answered_sameBut _ _ _ _ p (by revert p; decide),
        (htripped .native).trans (if_neg (by simp)),
        (htripped .zoneHigh).trans (if_neg (by simp)), (htripped .stale).trans (if_neg (by simp)), fun hl => ?_,
        record_tripReport (s := s.atInstant t) hout hs⟩
      have hloaded : (s.atInstant t).seq.state.loaded = true := (loaded_iff _).mpr hl
      exact ⟨(htripped .thermal).trans (if_pos ⟨hloaded, .inl rfl⟩), (htripped .margin).trans (if_pos ⟨hloaded, .inr rfl⟩)⟩
    · have hno' := hno.imp_left hquiet.mpr
      have hcap := recordJudged_cap (s := s.atInstant t) hbank ht h1 h2 h3 h4 h5
      have hcut := record_cutAtRead (s := s.atInstant t) (r := Measurement.ofForm form) hno'
      rw [hcap] at hcut
      exact ⟨fun hon => (congrArg Bank.cap (record_blocks hno' hon).1).trans hcap, hcut⟩

end Sys2Proof.Machine
end

section
/-! PROOFS. An accepted SEAL of a train (R1, R43, R45, R99, R105, R122, R144, R154). -/

namespace Sys2Proof.Machine

variable {s : State}

theorem exec_seal {t : Nat} {tag : Byte} (hn : IsNew s tag .seal) (hs : s.seq.state = .offline) (hset : requiredSet s.items = true)
    (hpair : nativePairOk s.items = true) :
    exec (.seal t tag) s = .next (answered (acceptSeal (s.atInstant t)) tag .seal (.accept (sealClamped s.items))) := by
  have hnot : (s.atInstant t).isSealed = false := (isSealed_eq_false _).mpr hs
  have hset' : requiredSet (s.atInstant t).items = true := hset
  have hpair' : nativePairOk (s.atInstant t).items = true := hpair
  refine exec_new rfl hn ?_
  simp only [handle, handleSeal, hnot, hset', hpair']
  rfl

/-- The station at a SEAL before its book, account and first status frame (R105). -/
def joined (s : State) : State := enterState .joining .sealed (startStation s)

theorem acceptSeal_train (h : (joined s).isTrain = true) : acceptSeal s = buildStatus (sealTrain (joined s)) := by
  have hstore : (joined s).isStore = false := isStore_of_isTrain h
  unfold acceptSeal
  rw [joined] at hstore
  dsimp only
  rw [hstore]
  rfl

theorem acceptSeal_store (h : (joined s).isStore = true) : acceptSeal s = buildStatus (sealStore (joined s)) := by
  unfold acceptSeal
  rw [joined] at h
  dsimp only
  rw [h]
  rfl

theorem sealTrain_changes (s : State) : SameBut [.agreement, .openRecord, .energies, .reports, .cooled] s (sealTrain s) :=
  SameBut.trans ((bookAtSeal_sameBut s).mono (by decide))
    ((accountAtSeal_sameBut _).comp (decideMode_sameBut _) (by decide))

/-- The parts that the SEAL of a train changes after it entered JOINING. -/
theorem acceptSeal_ofJoined (h : (joined s).isTrain = true) :
    SameBut [.agreement, .openRecord, .energies, .reports, .cooled, .pendingStatus, .available, .lastU] (joined s) (acceptSeal s) := by
  rw [acceptSeal_train h]
  exact (sealTrain_changes _).comp (buildStatus_sameBut _) (by decide)

/-- What the book makes of HELD at a SEAL without time (R45). -/
theorem bookAtSeal_untimed (h : s.clock.current = none) : bookAtSeal s =
    produce (.held .noTime 0 0) (noteHeld { s with book := { s.book with held := some .noTime } }) := by
  unfold bookAtSeal
  rw [h]

theorem bookAtSeal_timed {i : Nat} (h : s.clock.current = some i) : bookAtSeal s = judge s := by
  unfold bookAtSeal
  rw [h]

theorem sealTrain_held (h : s.clock.current = none) : (sealTrain s).book.held = some .noTime := by
  have hafter : SameBut [.openRecord, .energies, .cooled, .reports] (bookAtSeal s) (sealTrain s) :=
    (accountAtSeal_sameBut _).comp (decideMode_sameBut _) (by decide)
  obtain ⟨-, -, -, -, -, hheld⟩ := hafter .agreement (by decide)
  rw [hheld, bookAtSeal_untimed h]
  simp [noteHeld]

theorem accountAtSeal_opens {i : Nat} (h : s.account.openRec = none) (hc : s.clock.current = some i) :
    accountAtSeal s = accountOpen i false s := by
  unfold accountAtSeal
  rw [h, hc]

theorem accountAtSeal_stays (h : s.account.openRec ≠ none) : accountAtSeal s = s := by
  unfold accountAtSeal
  split
  · next h0 _ => exact absurd h0 h
  · rfl

/-- With no interval open the current one is opened (R144). -/
theorem sealTrain_opens {i : Nat} (h : s.account.openRec = none) (hc : s.clock.current = some i) :
    ∃ o, (sealTrain s).account.openRec = some o ∧ o.interval = i ∧ o.target = s.book.target.getD 0
      ∧ (sealTrain s).account.ownAcc = 0 ∧ (sealTrain s).account.plantAcc = 0 := by
  have hjudged := bookAtSeal_timed hc
  have hopen : (bookAtSeal s).account.openRec = none := by rw [hjudged, judge_account, h]
  have hclock : (bookAtSeal s).clock.current = some i := by rw [bookAtSeal_sameBut s .clock (by decide), hc]
  have htarget : (bookAtSeal s).book.target = s.book.target := bookAtSeal_sameBut s .target (by decide)
  have hseal : sealTrain s = decideMode (accountOpen i false (bookAtSeal s)) := congrArg decideMode (accountAtSeal_opens hopen hclock)
  have haccount := (decideMode_sameBut (accountOpen i false (bookAtSeal s))).account (by decide)
  rw [hseal, haccount]
  exact ⟨_, rfl, rfl, congrArg (Option.getD · 0) htarget, rfl, rfl⟩

/-- An interval that is open stays so (R144). -/
theorem sealTrain_stays (h : s.account.openRec ≠ none) :
    (∃ o, (sealTrain s).account.openRec = some o) ∧ (sealTrain s).account.ownAcc = s.account.ownAcc := by
  have hopen : (bookAtSeal s).account.openRec ≠ none := by
    cases hc : s.clock.current with
    | some i => rwa [bookAtSeal_timed hc, judge_account]
    | none =>
      rw [bookAtSeal_untimed hc]
      simpa [noteHeld] using h
  have hseal : sealTrain s = decideMode (bookAtSeal s) := congrArg decideMode (accountAtSeal_stays hopen)
  rw [hseal, (decideMode_sameBut (bookAtSeal s)).account (by decide)]
  exact ⟨Option.ne_none_iff_exists'.mp hopen, (bookAtSeal_sameBut s .energies (by decide)).1⟩

theorem wantsCooled_of_alone (h : s.view = []) : wantsCooled s = true := by
  have hlinked : linkedStore s = none := by
    unfold linkedStore
    rw [h]
    simp
  have hcap : storeCapC s = none := by rw [storeCapC, hlinked]; rfl
  rw [wantsCooled, hcap]

theorem decideMode_enters (hk : s.inForce.kind = some .C) (hw : wantsCooled s = true) (hcooled : s.heat.cooled = false) :
    Produces [.storeCooled true] s (decideMode s) := by
  unfold decideMode
  rw [if_pos ⟨hk, by rw [hw, hcooled]; decide⟩, hw]
  exact (produces_of_link (s := s) (u := { s with heat := { s.heat with cooled := true } }) rfl).trans (produces_produce _ _)

/-- A compressor that sees no entry starts in cooled mode (R99). -/
theorem sealTrain_reports_untimed (hk : s.inForce.kind = some .C) (hview : s.view = []) (hc : s.clock.current = none)
    (hcooled : s.heat.cooled = false) : Produces [.held .noTime 0 0, .storeCooled true] s (sealTrain s) := by
  have hheld : Produces [.held .noTime 0 0] s (bookAtSeal s) := by
    rw [bookAtSeal_untimed hc]
    exact (produces_of_link (s := s) (u := noteHeld { s with book := { s.book with held := some .noTime } }) rfl).trans
      (produces_produce _ _)
  have hframe : SameBut [.agreement, .openRecord, .reports, .energies] s (accountAtSeal (bookAtSeal s)) :=
    (bookAtSeal_sameBut s).comp (accountAtSeal_sameBut _) (by decide)
  have hmode := decideMode_enters (s := accountAtSeal (bookAtSeal s)) (by rw [hframe.inForce (by decide), hk])
    (wantsCooled_of_alone ((hframe .view (by decide)).trans hview)) ((hframe .cooled (by decide)).trans hcooled)
  exact (hheld.then_sameBut (accountAtSeal_sameBut _) (by decide)).trans hmode

/-- Two reports after a first, each with its number, where there is room for the three. -/
theorem Produces.reports_three {a b c : Report} {u : State} (h : Produces [a, b, c] s u) (hroom : s.link.reports.length + 3 ≤ 16) :
    u.link.reports = s.link.reports ++ [⟨s.link.reportNo, a⟩, ⟨(s.link.reportNo + 1) % 65536, b⟩,
      ⟨((s.link.reportNo + 1) % 65536 + 1) % 65536, c⟩] := by
  have hone : (produce a s).link.reports = s.link.reports ++ [⟨s.link.reportNo, a⟩] := produce_reports (by omega) a
  have htwo := produce_reports (s := produce a s) (by rw [hone]; simp; omega) b
  have hthree := produce_reports (s := produce b (produce a s)) (by rw [htwo, hone]; simp; omega) c
  rw [h.1]
  change (produce c (produce b (produce a s))).link.reports = _
  rw [hthree, htwo, hone]
  simp [produce_reportNo]

/-! ## The statement -/

/-- The first status frame of a train (R1, R2). -/
theorem acceptSeal_frame {k : Kind} (ht : (joined s).isTrain = true) (hk : s.items.kind = some k) :
    ∃ f, (acceptSeal s).bus.pendingStatus = some ⟨s.items.address.getD 0, some .joining, .train f⟩ ∧ f.kind = k ∧ f.command = 0
      ∧ f.available = false := by
  have hframe := sealTrain_changes (joined s)
  have hforce : (sealTrain (joined s)).inForce = deriveInForce s.items := hframe.inForce (by decide)
  have hstate : (sealTrain (joined s)).seq.state = .joining := hframe.state (by decide)
  have hcommand : (sealTrain (joined s)).share.command = 0 := hframe .command (by decide)
  have htrain : (sealTrain (joined s)).isTrain = true := (hframe.isTrain (by decide)).trans ht
  have havailable : (readU (sealTrain (joined s))).seq.available = false :=
    (readU_law (sealTrain (joined s))).clear (.inr (congrArg StationState.mayBeAvailable hstate))
  rw [acceptSeal_train ht, buildStatus_train htrain, hstate, hforce]
  refine ⟨_, rfl, ?_⟩
  rw [trainFieldsNow_readU (k := k) (by rw [hforce]; exact hk)]
  exact ⟨rfl, hcommand, havailable⟩

/-- Settles O6: the blocks as JOINING finds them, then the book, the account and the first frame. -/
theorem sealStartsTrain : Obligations.SealStartsTrain := by
  intro s t tag k a g r m lo hi hs hn hk hkind haddress hcavern hrated hmin hlo hhi hlt
  have hset : requiredSet s.items = true := by
    unfold requiredSet
    cases k <;> simp_all
  have hpair : nativePairOk s.items = true := by simp [nativePairOk, hlo, hhi, hlt]
  have hexec := exec_seal (t := t) hn hs hset hpair
  have htrain : (joined (s.atInstant t)).isTrain = true := by
    have hjoined : (joined (s.atInstant t)).inForce.kind = some k := hkind
    rw [State.isTrain, hjoined]
    cases k <;> simp_all
  have hframe := acceptSeal_ofJoined htrain
  have hcleared : (joined (s.atInstant t)).bank = Bank.cleared (s.items.rated.getD 0) := congrArg Bank.cleared (if_pos htrain)
  rw [hrated] at hcleared
  have hbank : (acceptSeal (s.atInstant t)).bank = Bank.cleared r := (hframe.bank (by decide)).trans hcleared
  have hseq := acceptSeal_seq (s.atInstant t)
  have hforce : (acceptSeal (s.atInstant t)).inForce = deriveInForce s.items := acceptSeal_inForce _
  have haccount : (acceptSeal (s.atInstant t)).account = (sealTrain (joined (s.atInstant t))).account := by
    rw [acceptSeal_train htrain]
    exact (buildStatus_sameBut _).account (by decide)
  obtain ⟨f, hpending, hfields⟩ := acceptSeal_frame htrain hkind
  obtain ⟨htimer, hmark⟩ := hframe .staleTimer (by decide)
  refine ⟨_, hexec, (acceptSeal_keeps _).1, congrArg Seq.state hseq, congrArg Seq.joinTimer hseq,
    congrArg Seq.startTimer hseq, congrArg Seq.standbyTimer hseq, congrArg Seq.available hseq,
    congrArg Seq.tripOut hseq, congrArg Seq.tripHeld hseq, hframe .statusTimer (by decide), ⟨f, ?_, hfields⟩,
    (hframe .shareTimer (by decide)).trans (if_pos htrain), hframe .command (by decide), hframe .wake (by decide),
    hframe .lastLoaded (by decide), hframe .holder (by decide), hmark, htimer, congrArg Bank.cap hbank, fun mon => ?_,
    congrArg InForce.items hforce, (congrArg InForce.minLoad hforce).trans ?_, congrArg InForce.rampStep hforce, fun hc => ?_,
    fun i hc hopen => ?_, fun hopen => ?_, hframe .items (by decide), hframe .clock (by decide), hframe .view (by decide),
    hframe .permit (by decide), hframe .log (by decide), hframe .noms (by decide), hframe .orders (by decide),
    hframe .target (by decide), ⟨_, rfl⟩, fun hC hview hc hroom => ?_⟩
  · have haddr : (s.atInstant t).items.address.getD 0 = a := congrArg (Option.getD · 0) haddress
    rw [haddr] at hpending
    exact hpending
  · exact (congrArg (Bank.monitor · mon) hbank).trans (by cases mon <;> rfl)
  · show min (s.items.minLoad.getD 0) (s.items.rated.getD 0) = min m r
    rw [hmin, hrated]
    rfl
  · obtain ⟨-, -, -, -, -, hheld⟩ := (buildStatus_sameBut (sealTrain (joined (s.atInstant t)))) .agreement (by decide)
    rw [← acceptSeal_train htrain] at hheld
    exact hheld.trans (sealTrain_held (s := joined (s.atInstant t)) hc)
  · obtain ⟨o, hopened⟩ := sealTrain_opens (s := joined (s.atInstant t)) hopen hc
    rw [← haccount] at hopened
    exact ⟨o, hopened⟩
  · have hstays := sealTrain_stays (s := joined (s.atInstant t)) hopen
    rw [← haccount] at hstays
    exact hstays
  · have hjoined : Produces [.stateChange .offline .joining .sealed] (s.atInstant t) (joined (s.atInstant t)) := by
      have henter := enterState_produces .joining .sealed (startStation (s.atInstant t))
      rw [show (startStation (s.atInstant t)).seq.state = .offline from hs] at henter
      exact Produces.trans (rs := []) ⟨rfl, rfl, rfl⟩ henter
    have hsealed := sealTrain_reports_untimed (s := joined (s.atInstant t)) (by rw [← hC]; exact hkind) hview hc rfl
    have hall := (hjoined.trans hsealed).then_sameBut (buildStatus_sameBut _) (by decide)
    rw [← acceptSeal_train htrain] at hall
    exact hall.reports_three hroom

end Sys2Proof.Machine
end

section
/-! PROOFS. What an accepted SEAL derives, and an accepted SEAL of a store (R70, R85, R93, R121, R153, R154). -/

namespace Sys2Proof.Machine

variable {s : State}

/-! ## The derivations (R70, R85, R121) -/

theorem deriveThresholds_of (hot cold : Nat) : (cold + 20 < hot → deriveThresholds hot cold = (hot, cold))
    ∧ (¬ cold + 20 < hot → cold ≤ 779 → deriveThresholds hot cold = (cold + 21, cold))
    ∧ (¬ cold + 20 < hot → 779 < cold → deriveThresholds hot cold = (800, 779)) := by
  unfold deriveThresholds
  refine ⟨fun h => if_pos h, fun h h1 => ?_, fun h h1 => ?_⟩
  · rw [if_neg h, if_pos h1]
  · rw [if_neg h, if_neg (Nat.not_le.mpr h1)]

/-- The thresholds are changed exactly where they are not more than 20 apart (R85). -/
theorem deriveThresholds_clamps (hot cold : Nat) : (deriveThresholds hot cold != (hot, cold)) = true ↔ ¬ cold + 20 < hot := by
  obtain ⟨hapart, hclose, hhigh⟩ := deriveThresholds_of hot cold
  rw [bne_iff_ne]
  by_cases h : cold + 20 < hot
  · simp [hapart h, h]
  · obtain h1 | h1 := Nat.lt_or_ge 779 cold
    · rw [hhigh h h1]
      simp only [ne_eq, Prod.mk.injEq]
      omega
    · rw [hclose h h1]
      simp only [ne_eq, Prod.mk.injEq]
      omega

/-- An item that a derivation may change: it does so exactly where the item is set to another value. -/
theorem bne_getD_iff (item : Option Nat) (v : Nat) : (v != item.getD v) = true ↔ ∃ x, item = some x ∧ x ≠ v := by
  cases item with
  | none => simp
  | some x =>
    rw [bne_iff_ne]
    exact ⟨fun h => ⟨x, rfl, Ne.symm h⟩, fun ⟨y, hy, hne⟩ => Option.some.inj hy ▸ Ne.symm hne⟩

/-- What a train's derivations start from: the native pair and the working limits within it. -/
structure WorkingPair (i : Items) (lo hi wl wh : Nat) : Prop where
  min : i.nativeMin = some lo
  max : i.nativeMax = some hi
  lower : workingLimit lo hi i.workMin lo = wl
  upper : workingLimit lo hi i.workMax hi = wh

section
variable {i : Items} {lo hi wl wh : Nat} (h : WorkingPair i lo hi wl wh)
include h

theorem WorkingPair.derive : deriveWorking i = if wl < wh then (wl, wh) else (lo, hi) := by
  unfold deriveWorking
  rw [h.min, h.max]
  simp only [Option.getD_some, h.lower, h.upper]

theorem WorkingPair.clamped : workingClamped i = true ↔
    (∃ x, i.workMin = some x ∧ x ≠ wl) ∨ (∃ x, i.workMax = some x ∧ x ≠ wh) ∨ ¬ wl < wh := by
  unfold workingClamped
  rw [h.min, h.max]
  simp only [Option.getD_some, h.lower, h.upper, Bool.or_eq_true, bne_getD_iff, Bool.not_eq_true', decide_eq_false_iff_not, or_assoc]

end

theorem thresholdItems_expander {i : Items} (hk : i.kind = some .X) : thresholdItems i = some (i.xHot, i.xCold) := by
  unfold thresholdItems
  rw [hk]

theorem thresholdItems_compressor {i : Items} (hk : i.kind = some .C) : thresholdItems i = none := by
  unfold thresholdItems
  rw [hk]

theorem thresholdItems_store {i : Items} (hk : i.kind = some .H) : thresholdItems i = some (i.sHot.getD 0, i.sCold.getD 0) := by
  unfold thresholdItems
  rw [hk]

theorem thresholdsClamped_iff {i : Items} {k : Kind} (hk : i.kind = some k) (hne : k ≠ .H) :
    (thresholdItems i).any (fun t => deriveThresholds t.1 t.2 != t) = true ↔ k = .X ∧ ¬ i.xCold + 20 < i.xHot := by
  cases k with
  | H => exact absurd rfl hne
  | C =>
    rw [thresholdItems_compressor hk]
    simp
  | X =>
    rw [thresholdItems_expander hk, Option.any_some, deriveThresholds_clamps]
    simp

theorem modesClamped_iff {i : Items} {k : Kind} (hk : i.kind = some k) :
    modesClamped i = true ↔ k = .X ∧ ∃ md, i.modeMargin = some md ∧ md ≠ .off := by
  unfold modesClamped
  rw [hk]
  cases i.modeMargin <;> simp

/-- CLAMPED on a train, by the derivations that change a value (R70, R85, R93, R121). -/
theorem sealClamped_train {i : Items} {k : Kind} {lo hi wl wh : Nat} (hk : i.kind = some k) (hne : k ≠ .H)
    (hpair : WorkingPair i lo hi wl wh) : sealClamped i = true ↔
      (∃ x, i.workMin = some x ∧ x ≠ wl) ∨ (∃ x, i.workMax = some x ∧ x ≠ wh) ∨ ¬ wl < wh ∨ i.rated.getD 0 < i.minLoad.getD 0
      ∨ (k = .X ∧ ¬ i.xCold + 20 < i.xHot) ∨ (k = .X ∧ ∃ md, i.modeMargin = some md ∧ md ≠ .off) := by
  have htrain : (i.kind != some .H) = true := by simp [hk, hne]
  unfold sealClamped
  rw [Bool.or_eq_true, Bool.or_eq_true, htrain, Bool.true_and, Bool.or_eq_true, hpair.clamped, decide_eq_true_iff,
    thresholdsClamped_iff hk hne, modesClamped_iff hk]
  simp only [or_assoc]

/-- Settles O7: the values in force as derived, and CLAMPED by the derivations. -/
theorem sealDerivesTrainLimits : Obligations.SealDerivesTrainLimits := by
  intro s t tag k a g r m lo hi wl wh hs hn hk hkind haddress hcavern hrated hmin hlo hhi hlt hwl hwh
  have hset : requiredSet s.items = true := by
    unfold requiredSet
    cases k <;> simp_all
  have hexec := exec_seal (t := t) hn hs hset (by simp [nativePairOk, hlo, hhi, hlt])
  have hforce : (acceptSeal (s.atInstant t)).inForce = deriveInForce s.items := acceptSeal_inForce _
  have hpair : WorkingPair s.items lo hi wl wh := by
    refine ⟨hlo, hhi, ?_, ?_⟩
    · rw [hwl]
      cases s.items.workMin with
      | none => rfl
      | some x => exact clampNat_eq (Nat.le_of_lt hlt) x
    · rw [hwh]
      cases s.items.workMax with
      | none => rfl
      | some x => exact clampNat_eq (Nat.le_of_lt hlt) x
  have hclamped := sealClamped_train hkind hk hpair
  rw [hrated, hmin] at hclamped
  have hlower : (acceptSeal (s.atInstant t)).inForce.workMin = some (deriveWorking s.items).1 := by
    rw [hforce]
    exact if_neg (by simp [hkind, hk])
  have hupper : (acceptSeal (s.atInstant t)).inForce.workMax = some (deriveWorking s.items).2 := by
    rw [hforce]
    exact if_neg (by simp [hkind, hk])
  rw [hpair.derive] at hlower hupper
  have hthresholds (hX : k = .X) : (acceptSeal (s.atInstant t)).inForce.hot = some (deriveThresholds s.items.xHot s.items.xCold).1
      ∧ (acceptSeal (s.atInstant t)).inForce.cold = some (deriveThresholds s.items.xHot s.items.xCold).2 := by
    rw [hforce, deriveInForce, thresholdItems_expander (hX ▸ hkind)]
    exact ⟨rfl, rfl⟩
  obtain ⟨hapart, hclose, hhigh⟩ := deriveThresholds_of s.items.xHot s.items.xCold
  refine ⟨_, hexec, fun h => ?_, fun h => ?_, fun hX h => ?_, fun hX h h1 => ?_, fun hX h h1 => ?_, fun hX => ?_, fun hC => ?_, ?_, ?_, ?_,
    acceptSeal_sameBut _ .items (by decide), _, rfl, hclamped⟩
  · rw [if_pos h] at hlower hupper
    exact ⟨hlower, hupper⟩
  · rw [if_neg h] at hlower hupper
    exact ⟨hlower, hupper⟩
  · have hx := hthresholds hX
    rw [hapart h] at hx
    exact hx
  · have hx := hthresholds hX
    rw [hclose h h1] at hx
    exact hx
  · have hx := hthresholds hX
    rw [hhigh h h1] at hx
    exact hx
  · exact (congrArg (·.modes.margin) hforce).trans (if_pos (hX ▸ hkind))
  · exact (congrArg (·.modes.margin) hforce).trans (if_neg (by simp [hkind, hC]))
  · exact congrArg (·.modes.native) hforce
  · exact congrArg (·.modes.thermal) hforce
  · exact congrArg (·.modes.stale) hforce

/-! ## An accepted SEAL of a store -/

/-- The zone table and the allowances at a SEAL: nothing is classed, nothing allowed (R86). -/
theorem acceptSeal_ofStore (h : (joined s).isStore = true) :
    SameBut [.pendingStatus, .available, .lastU] (sealStore (joined s)) (acceptSeal s) := by
  rw [acceptSeal_store h]
  exact buildStatus_sameBut _

theorem sealClamped_store {i : Items} {hot cold : Nat} (hk : i.kind = some .H) (hhot : i.sHot = some hot) (hcold : i.sCold = some cold)
    (h : cold + 20 < hot) : sealClamped i = false := by
  have hthresholds : (deriveThresholds hot cold != (hot, cold)) = false := by
    rw [← Bool.not_eq_true, deriveThresholds_clamps]
    exact not_not_intro h
  unfold sealClamped modesClamped
  rw [thresholdItems_store hk, hk, hhot, hcold, Option.any_some, Option.getD_some, Option.getD_some, hthresholds]
  rfl

/-- Settles O8: the blocks of a store in JOINING, empty, with its first frame and its thresholds. -/
theorem sealStartsStore : Obligations.SealStartsStore := by
  intro s t tag a qc qd hot cold hs hn hkind haddress hqc hqd hhot hcold
  have hset : requiredSet s.items = true := by simp [requiredSet, hkind, haddress, hqc, hqd, hhot, hcold]
  have hexec := exec_seal (t := t) hn hs hset (by simp [nativePairOk, hkind])
  have hstore : (joined (s.atInstant t)).isStore = true := by
    have hjoined : (joined (s.atInstant t)).inForce.kind = some .H := hkind
    rw [State.isStore, hjoined]
    rfl
  have hframe := acceptSeal_ofStore hstore
  have hseq := acceptSeal_seq (s.atInstant t)
  have hforce : (acceptSeal (s.atInstant t)).inForce = deriveInForce s.items := acceptSeal_inForce _
  have hthresholds : (acceptSeal (s.atInstant t)).inForce.hot = some (deriveThresholds hot cold).1
      ∧ (acceptSeal (s.atInstant t)).inForce.cold = some (deriveThresholds hot cold).2 := by
    rw [hforce, deriveInForce, thresholdItems_store hkind, hhot, hcold]
    exact ⟨rfl, rfl⟩
  obtain ⟨hapart, hclose, hhigh⟩ := deriveThresholds_of hot cold
  obtain ⟨hzones, hcount, hcharge, hdischarge, houtlet⟩ := hframe .zones (by decide)
  obtain ⟨hpubCharge, hpubDischarge⟩ := hframe .published (by decide)
  obtain ⟨htimer, -⟩ := hframe .staleTimer (by decide)
  have htrain : (joined (s.atInstant t)).isTrain = false := isTrain_of_isStore hstore
  have hpending := buildStatus_store (s := sealStore (joined (s.atInstant t))) hstore
  rw [← acceptSeal_store hstore] at hpending
  have haddr : (sealStore (joined (s.atInstant t))).inForce.address = a := congrArg (Option.getD · 0) haddress
  rw [haddr] at hpending
  refine ⟨_, hexec, congrArg Seq.state hseq, congrArg Seq.joinTimer hseq, hframe .statusTimer (by decide), ⟨storeFieldsNow (sealStore (joined (s.atInstant t))), congrArg (·.bus.pendingStatus) hpending, rfl, rfl, rfl⟩,
    (hframe .shareTimer (by decide)).trans (if_neg (by rw [← Bool.not_eq_true] at htrain; exact htrain)), hframe .command (by decide),
    hzones, hcount, hcharge, hdischarge, hpubCharge, hpubDischarge, houtlet, hframe .clock (by decide), hframe .noms (by decide),
    hframe .orders (by decide), hframe .target (by decide), hframe.account (by decide), hframe .holder (by decide), htimer,
    fun h => ?_, fun h h1 => ?_, fun h h1 => ?_, ⟨_, rfl⟩, fun hroom => ?_⟩
  · rw [hapart h] at hthresholds
    exact ⟨hthresholds.1, hthresholds.2, by rw [sealClamped_store hkind hhot hcold h]; rfl⟩
  · rw [hclose h h1] at hthresholds
    exact hthresholds
  · rw [hhigh h h1] at hthresholds
    exact hthresholds
  · have henter : Produces [.stateChange (s.atInstant t).seq.state .joining .sealed] (s.atInstant t) (joined (s.atInstant t)) :=
      Produces.trans (rs := []) ⟨rfl, rfl, rfl⟩ (enterState_produces .joining .sealed (startStation (s.atInstant t)))
    rw [show (s.atInstant t).seq.state = .offline from hs] at henter
    have hsealed := (henter.trans (produces_of_link (u := sealStore (joined (s.atInstant t))) rfl)).then_sameBut
      (buildStatus_sameBut _) (by decide)
    rw [← acceptSeal_store hstore] at hsealed
    exact hsealed.1.trans (produce_reports hroom _)

end Sys2Proof.Machine
end

section
/-! PROOFS. Frames and records read back from their bytes (R164, R165). -/

namespace Sys2Proof.Machine

/-! ## A request and its record -/

/-- A request's code and body give it back (10.4). -/
theorem decodeRequest_encode {r : Request} (h : r.WellFormed) : decodeRequest r.code r.body = some r := by
  match r with
  | .setItem item monitor value => exact congrArg (fun w => some (Request.setItem item monitor w)) (word4_bytes value)
  | .measure form =>
    cases form with
    | train o f p t m =>
      have hread : decodeRequest 3 (Request.measure (.train o f p t m)).body = some (.measure (.train
          (half2 (byteOf (o.toNat / 256)) (byteOf o.toNat)) (half2 (byteOf (f.toNat / 256)) (byteOf f.toNat))
          (half2 (byteOf (p.toNat / 256)) (byteOf p.toNat)) (half2 (byteOf (t.toNat / 256)) (byteOf t.toNat))
          (half2 (byteOf (m.toNat / 256)) (byteOf m.toNat)))) := rfl
      simp only [half2_bytes] at hread
      exact hread
    | store zones =>
      have hlen : zones.length = 8 := h
      obtain ⟨a, b, c, d, e, f, g, i, rfl⟩ : ∃ a b c d e f g i, zones = [a, b, c, d, e, f, g, i] := by
        match zones, hlen with
        | [a, b, c, d, e, f, g, i], _ => exact ⟨a, b, c, d, e, f, g, i, rfl⟩
      have hread : decodeRequest 3 (Request.measure (.store [a, b, c, d, e, f, g, i])).body = some (.measure (.store [
          half2 (byteOf (a.toNat / 256)) (byteOf a.toNat), half2 (byteOf (b.toNat / 256)) (byteOf b.toNat),
          half2 (byteOf (c.toNat / 256)) (byteOf c.toNat), half2 (byteOf (d.toNat / 256)) (byteOf d.toNat),
          half2 (byteOf (e.toNat / 256)) (byteOf e.toNat), half2 (byteOf (f.toNat / 256)) (byteOf f.toNat),
          half2 (byteOf (g.toNat / 256)) (byteOf g.toNat), half2 (byteOf (i.toNat / 256)) (byteOf i.toNat)])) := rfl
      simp only [half2_bytes] at hread
      exact hread
  | .setTime n => exact congrArg (fun w => some (Request.setTime w)) (word4_bytes n)
  | .nominate first count power =>
    have hread : decodeRequest 5 (Request.nominate first count power).body = some (.nominate
        (word4 (byteOf (first.toNat / 16777216)) (byteOf (first.toNat / 65536)) (byteOf (first.toNat / 256)) (byteOf first.toNat))
        (half2 (byteOf (count.toNat / 256)) (byteOf count.toNat)) (half2 (byteOf (power.toNat / 256)) (byteOf power.toNat))) := rfl
    rw [half2_bytes, half2_bytes, word4_bytes] at hread
    exact hread
  | .order first count delta =>
    have hread : decodeRequest 6 (Request.order first count delta).body = some (.order
        (word4 (byteOf (first.toNat / 16777216)) (byteOf (first.toNat / 65536)) (byteOf (first.toNat / 256)) (byteOf first.toNat))
        (half2 (byteOf (count.toNat / 256)) (byteOf count.toNat)) (half2 (byteOf (delta.toNat / 256)) (byteOf delta.toNat))) := rfl
    rw [half2_bytes, half2_bytes, word4_bytes] at hread
    exact hread
  | .cancel list first count =>
    have hread : decodeRequest 7 (Request.cancel list first count).body = some (.cancel list
        (word4 (byteOf (first.toNat / 16777216)) (byteOf (first.toNat / 65536)) (byteOf (first.toNat / 256)) (byteOf first.toNat))
        (half2 (byteOf (count.toNat / 256)) (byteOf count.toNat))) := rfl
    rw [half2_bytes, word4_bytes] at hread
    exact hread
  | .releaseLog k => exact congrArg (fun w => some (Request.releaseLog w)) (half2_bytes k)
  | .seal => rfl
  | .clear => rfl
  | .leave => rfl
  | .restart => rfl
  | .queryState => rfl
  | .queryPeer a => rfl
  | .queryBook list index => rfl
  | .readLog => rfl

/-- A record with a good check acts by its code, tag and body (R148, R165). -/
theorem recordArrival_withCheck (code tag : Byte) (body : List Byte) (s : State) :
    recordArrival (withCheck (code :: tag :: body)) s = goodRecord code tag body s := by
  unfold recordArrival
  rw [checkGood_withCheck, beforeCheck_withCheck]
  rfl

/-- Settles O52: the request decoded from its own bytes, then the record acting as it. -/
theorem recordBytesAreTheirRequest : Obligations.RecordBytesAreTheirRequest := by
  intro c t tag r hc hr
  have hdecode := decodeRequest_encode hr
  refine ⟨hdecode, fun s => ?_⟩
  have hgood : goodRecord r.code tag r.body (s.atInstant t) = request t tag r s := by
    unfold goodRecord
    rw [hdecode]
    rfl
  rw [exec_of_asRequest hc, ← hgood, ← recordArrival_withCheck]
  rfl

end Sys2Proof.Machine
end

section
/-! PROOFS. Frames read back from their bytes (R13, R164, R165). -/

namespace Sys2Proof.Machine

/-! ## Fields read back -/

theorem readSigned2_eq {bs : List Byte} {i : Nat} {v : Int} (h : read2 bs i = (BitVec.ofInt 16 v).toNat) (h1 : -32768 ≤ v)
    (h2 : v ≤ 32767) : readSigned2 bs i = v := by
  rw [readSigned2, h, BitVec.ofNat_toNat, BitVec.setWidth_eq, BitVec.toInt_ofInt]
  exact Int.bmod_eq_of_le (by omega) (by omega)

/-- A target field read back: −32768 is none (R13). -/
theorem readTarget {bs : List Byte} {i : Nat} {t : Option Int} (h : read2 bs i = (BitVec.ofInt 16 (targetField t)).toNat)
    (ht : ∀ v, t = some v → -3000 ≤ v ∧ v ≤ 3000) : (if readSigned2 bs i = -32768 then none else some (readSigned2 bs i)) = t := by
  cases t with
  | none => exact if_pos (readSigned2_eq h (by decide) (by decide))
  | some v =>
    obtain ⟨h1, h2⟩ := ht v rfl
    have hv : readSigned2 bs i = v := readSigned2_eq h (show -32768 ≤ v by omega) (show v ≤ 32767 by omega)
    rw [hv, if_neg (by omega)]

/-- An interval field read back: 4294967295 is none. -/
theorem readInterval_eq {bs : List Byte} {i : Nat} {t : Option Nat} (h : read4 bs i = intervalField t)
    (ht : ∀ v, t = some v → v ≤ 4294967294) : readInterval bs i = t := by
  unfold readInterval
  rw [h]
  cases t with
  | none => exact if_pos rfl
  | some v =>
    have hv := ht v rfl
    exact if_neg (show v ≠ 4294967295 by omega)

/-- A linked store byte read back: 255 is none. -/
theorem readLinked {n : Nat} {t : Option Nat} (h : n = linkedField t) (ht : ∀ a, t = some a → a < 16) :
    (if n < 16 then some n else none) = t := by
  rw [h]
  cases t with
  | none => rfl
  | some a => exact if_pos (ht a rfl)

theorem flagBits_four_read (a b c d : Bool) : flagBits [a, b, c, d] < 256 ∧ (flagBits [a, b, c, d] % 2 == 1) = a
    ∧ (flagBits [a, b, c, d] / 2 % 2 == 1) = b ∧ (flagBits [a, b, c, d] / 4 % 2 == 1) = c ∧ (flagBits [a, b, c, d] / 8 % 2 == 1) = d := by
  revert a b c d
  decide

theorem flagBits_two_read (a b : Bool) : flagBits [a, b] < 256 ∧ (flagBits [a, b] % 2 == 1) = a ∧ (flagBits [a, b] / 2 % 2 == 1) = b := by
  revert a b
  decide

theorem intervalField_lt {t : Option Nat} (h : ∀ v, t = some v → v ≤ 4294967294) : intervalField t < 4294967296 := by
  cases t with
  | none => decide
  | some v =>
    have hv := h v rfl
    exact show v < 4294967296 by omega

theorem linkedField_lt {t : Option Nat} (h : ∀ a, t = some a → a < 16) : linkedField t < 256 := by
  cases t with
  | none => decide
  | some a =>
    have ha := h a rfl
    exact show a < 256 by omega

/-! ## The bytes of a frame, field by field -/

/-- A frame of known type and right length is read by its fields. -/
theorem decodeFrame_withCheck {body : List Byte} {n : Nat} (h0 : frameLength (byteAt (withCheck body) 0) = some n)
    (hn : body.length + 2 = n) (hpos : 0 < body.length) : decodeFrame (withCheck body) = decodeKnown (withCheck body) := by
  unfold decodeFrame
  rw [checkGood_withCheck, h0, withCheck_length, hn]
  have hlong : ¬ n ≤ 2 := by omega
  simp [hlong]

/-- The first fields of a TRAIN STATUS in its bytes. -/
theorem trainStatus_head {a : Nat} {x : StationState} {f : TrainFields} (h : f.InRange) {bs : List Byte}
    (hbs : bs = withCheck (1 :: statusBody a x (.train f))) : byteAt bs 3 = f.cavern ∧ byteAt bs 4 = linkedField f.linked
    ∧ byteAt bs 6 = flagBits [f.held, f.cooled, f.available, f.clockFree] ∧ byteAt bs 7 = f.vcode ∧ read4 bs 8 = f.interval := by
  obtain ⟨-, -, hcavern, hlinked, hvcode, hinterval, -⟩ := h
  obtain ⟨hbits, -⟩ := flagBits_four_read f.held f.cooled f.available f.clockFree
  rw [hbs]
  exact ⟨byteOf_one f.cavern (by omega), byteOf_one (linkedField f.linked) (linkedField_lt hlinked), byteOf_one _ hbits,
    byteOf_one f.vcode (by omega), byteOf_four f.interval (by omega)⟩

/-- Its last fields. -/
theorem trainStatus_tail {a : Nat} {x : StationState} {f : TrainFields} (h : f.InRange) {bs : List Byte}
    (hbs : bs = withCheck (1 :: statusBody a x (.train f))) : read2 bs 12 = (BitVec.ofInt 16 (targetField f.target)).toNat
    ∧ read2 bs 14 = f.command ∧ read2 bs 16 = f.output ∧ read2 bs 18 = f.massFlow ∧ read2 bs 20 = f.heatFlow ∧ read2 bs 22 = f.upper
    ∧ read2 bs 24 = f.minLoad := by
  obtain ⟨-, -, -, -, -, -, -, hcommand, houtput, hmass, hheat, hupper, hmin⟩ := h
  rw [hbs]
  exact ⟨byteOf_two _ (BitVec.isLt _), byteOf_two f.command (by omega), byteOf_two f.output (by omega), byteOf_two f.massFlow (by omega),
    byteOf_two f.heatFlow (by omega), byteOf_two f.upper (by omega), byteOf_two f.minLoad (by omega)⟩

theorem decodeTrainFields_encode {a : Nat} {x : StationState} {f : TrainFields} (h : f.InRange) :
    decodeTrainFields (withCheck (1 :: statusBody a x (.train f))) f.kind = f := by
  obtain ⟨b3, b4, b6, b7, b8⟩ := trainStatus_head (a := a) (x := x) h rfl
  obtain ⟨b12, b14, b16, b18, b20, b22, b24⟩ := trainStatus_tail (a := a) (x := x) h rfl
  obtain ⟨-, hheld, hcooled, havailable, hfree⟩ := flagBits_four_read f.held f.cooled f.available f.clockFree
  obtain ⟨-, -, -, hlinked, -, -, htarget, -⟩ := h
  generalize withCheck (1 :: statusBody a x (.train f)) = bs at *
  unfold decodeTrainFields
  rw [readTarget b12 htarget, readLinked b4 hlinked, b3, b6, b7, b8, b14, b16, b18, b20, b22, b24, hheld, hcooled, havailable, hfree]

theorem decodeStoreFields_encode {a : Nat} {x : StationState} {f : StoreFields} (h : f.InRange) :
    decodeStoreFields (withCheck (2 :: statusBody a x (.store f))) = f := by
  obtain ⟨hvcode, hcharge, hdischarge, houtlet, hzones⟩ := h
  obtain ⟨hbits, hactive, hstale⟩ := flagBits_two_read f.monitorActive f.stale
  generalize hbs : withCheck (2 :: statusBody a x (.store f)) = bs
  have b4 : byteAt bs 4 = flagBits [f.monitorActive, f.stale] := hbs ▸ byteOf_one _ hbits
  have b5 : byteAt bs 5 = f.vcode := hbs ▸ byteOf_one f.vcode (by omega)
  have b6 : read2 bs 6 = f.charge := hbs ▸ byteOf_two f.charge (by omega)
  have b8 : read2 bs 8 = f.discharge := hbs ▸ byteOf_two f.discharge (by omega)
  have b10 : read2 bs 10 = f.outlet := hbs ▸ byteOf_two f.outlet (by omega)
  have b12 : byteAt bs 12 = f.hotZones := hbs ▸ byteOf_one f.hotZones (by omega)
  unfold decodeStoreFields
  rw [b4, b5, b6, b8, b10, b12, hactive, hstale]

theorem trainStateOfCode_code {x : StationState} (h : x ≠ .active) : trainStateOfCode x.code = some x := by
  cases x with
  | active => exact absurd rfl h
  | _ => rfl

theorem storeStateOfCode_code {x : StationState} (h : x ≠ .standby ∧ x ≠ .starting ∧ x ≠ .running) : storeStateOfCode x.code = some x := by
  obtain ⟨h1, h2, h3⟩ := h
  cases x with
  | standby => exact absurd rfl h1
  | starting => exact absurd rfl h2
  | running => exact absurd rfl h3
  | _ => rfl

theorem stateCode_lt (x : StationState) : x.code < 256 := by cases x <;> decide

/-! ## Each type of frame -/

theorem decode_trainStatus {a : Nat} {x : StationState} {f : TrainFields} (ha : a < 16) (hf : f.InRange) (hx : x ≠ .active) :
    decodeFrame (StatusFrame.encode ⟨a, some x, .train f⟩) = .frame (.status ⟨a, some x, .train f⟩) := by
  have hknown : decodeFrame (StatusFrame.encode ⟨a, some x, .train f⟩) = decodeKnown (withCheck (1 :: statusBody a x (.train f))) :=
    decodeFrame_withCheck (n := 28) rfl rfl (Nat.zero_lt_succ _)
  have hfields := decodeTrainFields_encode (a := a) (x := x) hf
  rw [hknown]
  generalize hbs : withCheck (1 :: statusBody a x (.train f)) = bs at hfields
  have b0 : byteAt bs 0 = 1 := hbs ▸ rfl
  have b1 : byteAt bs 1 = a := hbs ▸ byteOf_one a (by omega)
  have b2 : byteAt bs 2 = f.kind.code := hbs ▸ byteOf_one f.kind.code (by cases f.kind <;> decide)
  have b5 : byteAt bs 5 = x.code := hbs ▸ byteOf_one x.code (stateCode_lt x)
  unfold decodeKnown
  rw [b0, b1, b2, b5, trainStateOfCode_code hx, Nat.mod_eq_of_lt ha]
  obtain ⟨hkind | hkind, -⟩ := hf
  · rw [hkind] at hfields ⊢
    rw [hfields]
    rfl
  · rw [hkind] at hfields ⊢
    rw [hfields]
    rfl

theorem decode_storeStatus {a : Nat} {x : StationState} {f : StoreFields} (ha : a < 16) (hf : f.InRange)
    (hx : x ≠ .standby ∧ x ≠ .starting ∧ x ≠ .running) :
    decodeFrame (StatusFrame.encode ⟨a, some x, .store f⟩) = .frame (.status ⟨a, some x, .store f⟩) := by
  have hknown : decodeFrame (StatusFrame.encode ⟨a, some x, .store f⟩) = decodeKnown (withCheck (2 :: statusBody a x (.store f))) :=
    decodeFrame_withCheck (n := 16) rfl rfl (Nat.zero_lt_succ _)
  have hfields := decodeStoreFields_encode (a := a) (x := x) hf
  rw [hknown]
  generalize hbs : withCheck (2 :: statusBody a x (.store f)) = bs at hfields
  have b0 : byteAt bs 0 = 2 := hbs ▸ rfl
  have b1 : byteAt bs 1 = a := hbs ▸ byteOf_one a (by omega)
  have b2 : byteAt bs 2 = 3 := hbs ▸ rfl
  have b3 : byteAt bs 3 = x.code := hbs ▸ byteOf_one x.code (stateCode_lt x)
  unfold decodeKnown
  rw [b0, b1, b2, b3, storeStateOfCode_code hx, Nat.mod_eq_of_lt ha, hfields]
  rfl

theorem decode_alert {a : Alert} (h : (Frame.alert a).InRange) : decodeFrame a.encode = .frame (.alert a) := by
  obtain ⟨address, reason, cut⟩ := a
  obtain ⟨ha, hfirst, hrun, hlast, hconflict⟩ := h
  have ha : address < 16 := ha
  have hrun : cut.toRun ≤ 65535 := hrun
  have hcut : (if reason = .conflict then ({} : CutReport) else cut) = cut := by
    split
    · next hr => exact (hconflict hr).symm
    · rfl
  have hknown : decodeFrame (Alert.encode ⟨address, reason, cut⟩) =
      decodeKnown (withCheck ([3, byteOf address, byteOf reason.code, 0] ++ cut.encode)) := by
    unfold Alert.encode
    rw [hcut]
    exact decodeFrame_withCheck (n := 16) rfl rfl (Nat.zero_lt_succ _)
  rw [hknown]
  generalize hbs : withCheck ([3, byteOf address, byteOf reason.code, 0] ++ cut.encode) = bs
  have b0 : byteAt bs 0 = 3 := hbs ▸ rfl
  have b1 : byteAt bs 1 = address := hbs ▸ byteOf_one address (by omega)
  have b2 : byteAt bs 2 = reason.code := hbs ▸ byteOf_one reason.code (by cases reason <;> decide)
  have b4 : read4 bs 4 = intervalField cut.first := hbs ▸ byteOf_four _ (intervalField_lt hfirst)
  have b8 : read2 bs 8 = cut.toRun := hbs ▸ byteOf_two cut.toRun (by omega)
  have b10 : read4 bs 10 = intervalField cut.last := hbs ▸ byteOf_four _ (intervalField_lt hlast)
  unfold decodeKnown
  rw [b0, b1, b2, Nat.mod_eq_of_lt ha, readInterval_eq b4 hfirst, readInterval_eq b10 hlast, b8]
  cases reason with
  | trip => rfl
  | leave => rfl
  | conflict =>
    obtain rfl : cut = {} := hconflict rfl
    rfl

/-- Settles O51: a status frame of a train, one of a store, an ALERT. -/
theorem framesDecodeToThemselves : Obligations.FramesDecodeToThemselves := by
  intro f hf
  match f, hf with
  | .status ⟨a, st, .train g⟩, h =>
    obtain ⟨ha, hg, x, rfl, hx⟩ := h
    exact decode_trainStatus ha hg hx
  | .status ⟨a, st, .store g⟩, h =>
    obtain ⟨ha, hg, x, rfl, hx⟩ := h
    exact decode_storeStatus ha hg hx
  | .alert a, h => exact decode_alert h

end Sys2Proof.Machine
end

section
/-! PROOFS. The items of QUERY STATE: a list of numbered values, and what is found in it under a number (R158). -/

namespace Sys2Proof.Machine

variable {s : State}

/-! ## A list of items -/

/-- The bytes of a list of items. -/
def itemBytes (items : List (Nat × List Byte)) : List Byte := items.flatMap fun x => fieldItem x.1 x.2

/-- The value under a number, the first where there are several. -/
def valueOf (n : Byte) (items : List (Nat × List Byte)) : Option (List Byte) :=
  (items.find? fun x => decide (byteOf x.1 = n)).map Prod.snd

theorem itemBytes_append (xs ys : List (Nat × List Byte)) : itemBytes (xs ++ ys) = itemBytes xs ++ itemBytes ys := List.flatMap_append ..

/-- A list of items, each of a length that fits a byte, read item by item. -/
theorem itemValue_itemBytes (n : Byte) {items : List (Nat × List Byte)} {fuel : Nat} (h : ∀ x ∈ items, x.2.length < 256)
    (hfuel : items.length < fuel) : itemValue n fuel (itemBytes items) = valueOf n items := by
  induction items generalizing fuel with
  | nil =>
    cases fuel with
    | zero => rfl
    | succ fuel => rfl
  | cons x items ih =>
    obtain ⟨fuel, rfl⟩ : ∃ k, fuel = k + 1 := ⟨fuel - 1, by simp at hfuel; omega⟩
    have hx : x.2.length < 256 := h x (List.mem_cons_self ..)
    have hbytes : itemBytes (x :: items) = fieldItem x.1 x.2 ++ itemBytes items := rfl
    rw [hbytes]
    by_cases hn : byteOf x.1 = n
    · rw [← hn, itemValue_fieldItem_self x.1 x.2 _ fuel hx, valueOf, List.find?_cons_of_pos (by simp)]
      rfl
    · rw [itemValue_fieldItem_skip n x.1 x.2 _ fuel hx hn, ih (fun y hy => h y (List.mem_cons_of_mem _ hy))
        (Nat.lt_of_succ_lt_succ hfuel), valueOf, valueOf, List.find?_cons_of_neg (by simpa using hn)]

/-! ## The items of QUERY STATE -/

/-- The items of every station (R158). -/
def commonItems (s : State) : List (Nat × List Byte) :=
  [(1, [addressByte s]), (2, [kindByte s]), (3, [byteOf s.seq.state.code]), (4, [flagByte s.permit]), (5, [flagByte s.seq.tripOut]),
    (6, bytes2 s.link.faults), (7, [byteOf s.link.reports.length]), (8, [flagByte s.link.discarded]), (9, [byteOf s.view.length]),
    (10, [flagByte s.link.staleMark]), (11, sinceRecord s), (12, heldFields s)]

/-- The items of a train's schedule and clock (R158). -/
def trainItems (s : State) : List (Nat × List Byte) :=
  [(13, bytes2 s.share.command), (14, bytes2 (upperLimit s)), (15, [flagByte s.seq.available]),
    (16, [byteOf ((s.book.held.map HeldReason.code).getD 0)]), (17, bytes4 (intervalField s.clock.current)),
    (18, bytes4 (intervalField s.clock.pending)), (19, [flagByte s.clock.free]), (20, signed2 (targetField s.book.target))]

/-- The items of the cavern envelope (R82). -/
def envelopeItems (s : State) : List (Nat × List Byte) :=
  [(32, bytes2 (absentField s.inForce.workMin)), (33, bytes2 (absentField s.inForce.workMax)), (34, bytes2 (absentField (heldPressure s))),
    (35, bytes2 (flowReservation s)), (36, bytes2 (flowAllowance s)), (37, bytes2 (rateCap s)), (38, bytes2 (bandCap s))]

/-- The items of a store's zones, allowances and thresholds (R92). -/
def storeItems (s : State) : List (Nat × List Byte) :=
  [(56, [byteOf s.heat.hotZones]), (57, bytes2 s.heat.classCharge), (58, bytes2 s.heat.classDischarge), (59, bytes2 s.heat.pubCharge),
    (60, bytes2 s.heat.pubDischarge), (61, bytes2 s.heat.outlet), (62, bytes2 (absentField s.inForce.hot)),
    (63, bytes2 (absentField s.inForce.cold))]

def zoneItems : Nat → List Zone → List (Nat × List Byte)
  | _, [] => []
  | n, z :: zs => (n, bytes2 (absentField z.temp) ++ [byteOf z.cls.code]) :: zoneItems (n + 1) zs

/-- The items that one kind of train has of its linked store's caps (R103). -/
def capItems (s : State) (k : Kind) : List (Nat × List Byte) :=
  if k = .C then [(69, bytes2 (absentField (storeCapC s))), (70, bytes2 (cooledCap s)), (71, [flagByte s.heat.cooled])]
  else [(69, bytes2 (storeCapX s)), (72, bytes2 (qualityCap s)), (73, bytes2 (absentField s.inForce.hot)),
    (74, bytes2 (absentField s.inForce.cold))]

/-- The items of a train's heat (R103). -/
def heatItems (s : State) (k : Kind) : List (Nat × List Byte) :=
  [(64, [byteOf (linkedField s.items.linked)]), (65, [flagByte (linkedStore s).isSome]), (66, bytes2 (absentField (allowanceRead s k))),
    (67, bytes2 (absentField ((linkedStore s).map StoreFields.outlet))), (68, reservationField (heatReservation s))]
    ++ capItems s k ++ [(75, bytes2 (heatFlow s))]

/-- The items of a train's monitors (R135). -/
def trainMonitorItems (s : State) : List (Nat × List Byte) :=
  [(96, monitorValue s .native), (97, monitorValue s .thermal ++ timeLeft s s.bank.blankThermal),
    (98, monitorValue s .margin ++ timeLeft s s.bank.blankMargin), (99, monitorValue s .stale), (101, bytes2 s.bank.cap)]

/-- The items of a store's monitors (R135). -/
def storeMonitorItems (s : State) : List (Nat × List Byte) := [(99, monitorValue s .stale), (100, monitorValue s .zoneHigh)]

/-- The items of a train alone, or none. -/
def itemsOnTrain (k : Option Kind) (items : List (Nat × List Byte)) : List (Nat × List Byte) :=
  if k = some .C ∨ k = some .X then items else []

/-- The items of the sequencer (R120). -/
def sequencerItems (s : State) : List (Nat × List Byte) :=
  [(80, [flagByte s.seq.tripHeld]), (81, runningTimer s)] ++ itemsOnTrain s.items.kind [(82, [byteOf s.share.wake])]
    ++ [(83, [monitorSet s.bank.latchedSet])]

/-- The items of the account (R147). -/
def accountItems (s : State) : List (Nat × List Byte) :=
  [(128, bytes4 (intervalField (s.account.openRec.map OpenRecord.interval))), (129, signed4 (kWh s.account.ownAcc)),
    (130, signed4 (kWh s.account.plantAcc))]
    ++ itemsOnTrain s.items.kind [(131, bytes4 ((s.account.openRec.map OpenRecord.periods).getD 0)), (132, [gatheredFlags s])]
    ++ [(133, [byteOf s.account.log.length])]

/-- The items of a kind that stand before the sequencer's. -/
def kindItems (s : State) (k : Option Kind) : List (Nat × List Byte) :=
  match k with
  | none => []
  | some .H => zoneItems 48 s.heat.zones ++ storeItems s
  | some .C => trainItems s ++ envelopeItems s ++ heatItems s .C
  | some .X => trainItems s ++ envelopeItems s ++ heatItems s .X

/-- The items of a kind's monitors. -/
def monitorItems (s : State) (k : Option Kind) : List (Nat × List Byte) :=
  match k with
  | none => []
  | some .H => storeMonitorItems s
  | some .C => trainMonitorItems s
  | some .X => trainMonitorItems s

/-- Everything that QUERY STATE shows. -/
def queryItems (s : State) : List (Nat × List Byte) :=
  commonItems s ++ kindItems s s.items.kind ++ sequencerItems s ++ monitorItems s s.items.kind ++ accountItems s

/-! ## The body of QUERY STATE as the bytes of its items -/

theorem zoneItems_bytes (n : Nat) (zs : List Zone) : itemBytes (zoneItems n zs) = zoneFields n zs := by
  induction zs generalizing n with
  | nil => rfl
  | cons z zs ih => exact congrArg (fieldItem n (bytes2 (absentField z.temp) ++ [byteOf z.cls.code]) ++ ·) (ih (n + 1))

theorem itemsOnTrain_bytes (k : Option Kind) (items : List (Nat × List Byte)) : itemBytes (itemsOnTrain k items) = onTrain k (itemBytes items) := by
  unfold itemsOnTrain onTrain
  split <;> rfl

theorem capItems_bytes (s : State) (k : Kind) : itemBytes (capItems s k) = if k = .C then
      fieldItem 69 (bytes2 (absentField (storeCapC s))) ++ fieldItem 70 (bytes2 (cooledCap s)) ++ fieldItem 71 [flagByte s.heat.cooled]
    else fieldItem 69 (bytes2 (storeCapX s)) ++ fieldItem 72 (bytes2 (qualityCap s)) ++ fieldItem 73 (bytes2 (absentField s.inForce.hot))
      ++ fieldItem 74 (bytes2 (absentField s.inForce.cold)) := by
  unfold capItems
  split <;> simp [itemBytes]

theorem kindItems_bytes (s : State) (k : Option Kind) : itemBytes (kindItems s k) = kindFields s k := by
  have htrain (k : Kind) : itemBytes (trainItems s ++ envelopeItems s ++ heatItems s k) =
      trainFields s ++ envelopeFields s ++ heatFields s k := by
    have h1 : itemBytes (trainItems s) = trainFields s := by simp [itemBytes, trainItems, trainFields]
    have h2 : itemBytes (envelopeItems s) = envelopeFields s := by simp [itemBytes, envelopeItems, envelopeFields]
    have h3 : itemBytes (heatItems s k) = heatFields s k := by
      rw [heatItems, itemBytes_append, itemBytes_append, capItems_bytes, heatFields]
      simp [itemBytes]
    rw [itemBytes_append, itemBytes_append, h1, h2, h3]
  have hstore : itemBytes (storeItems s) = fieldItem 56 [byteOf s.heat.hotZones] ++ fieldItem 57 (bytes2 s.heat.classCharge)
      ++ fieldItem 58 (bytes2 s.heat.classDischarge) ++ fieldItem 59 (bytes2 s.heat.pubCharge)
      ++ fieldItem 60 (bytes2 s.heat.pubDischarge) ++ fieldItem 61 (bytes2 s.heat.outlet)
      ++ fieldItem 62 (bytes2 (absentField s.inForce.hot)) ++ fieldItem 63 (bytes2 (absentField s.inForce.cold)) := by
    simp [itemBytes, storeItems]
  match k with
  | none => rfl
  | some .H =>
    show itemBytes (zoneItems 48 s.heat.zones ++ storeItems s) = storeFields s
    rw [itemBytes_append, zoneItems_bytes, hstore]
    simp [storeFields]
  | some .C => exact htrain .C
  | some .X => exact htrain .X

theorem queryItems_bytes (s : State) : itemBytes (queryItems s) = queryStateBody s := by
  have hcommon : itemBytes (commonItems s) = commonFields s := by simp [itemBytes, commonItems, commonFields]
  have hsequencer : itemBytes (sequencerItems s) = sequencerFields s := by
    rw [sequencerItems, itemBytes_append, itemBytes_append, itemsOnTrain_bytes]
    simp [itemBytes, sequencerFields]
  have hmonitor (k : Option Kind) : itemBytes (monitorItems s k) = monitorFields s k := by
    match k with
    | none => rfl
    | some .H => simp [itemBytes, monitorItems, storeMonitorItems, monitorFields, storeMonitorFields]
    | some .C => simp [itemBytes, monitorItems, trainMonitorItems, monitorFields, trainMonitorFields]
    | some .X => simp [itemBytes, monitorItems, trainMonitorItems, monitorFields, trainMonitorFields]
  have haccount : itemBytes (accountItems s) = accountFields s := by
    rw [accountItems, itemBytes_append, itemBytes_append, itemsOnTrain_bytes]
    simp [itemBytes, accountFields, trainAccountFields]
  rw [queryItems, itemBytes_append, itemBytes_append, itemBytes_append, itemBytes_append, hcommon, kindItems_bytes, hsequencer,
    hmonitor, haccount, queryStateBody]

end Sys2Proof.Machine
end

section
/-! PROOFS. What QUERY STATE shows under each number (R158): the numbers of the items by the kind, and the items by their places in their blocks. -/

namespace Sys2Proof.Machine

variable {s : State}

/-! ## A value by its number -/

theorem valueOf_of_mem {items : List (Nat × List Byte)} (hnodup : (items.map fun x => byteOf x.1).Nodup) {k : Nat} {v : List Byte}
    (h : (k, v) ∈ items) : valueOf (byteOf k) items = some v := by
  induction items with
  | nil => cases h
  | cons x items ih =>
    obtain ⟨hx, hnodup⟩ := List.nodup_cons.mp hnodup
    unfold valueOf
    by_cases hk : byteOf x.1 = byteOf k
    · rw [List.find?_cons_of_pos (by simpa using hk)]
      obtain rfl | hmem := List.mem_cons.mp h
      · rfl
      · exact absurd (List.mem_map_of_mem (f := fun x : Nat × List Byte => byteOf x.1) hmem) (hk ▸ hx)
    · rw [List.find?_cons_of_neg (by simpa using hk)]
      obtain rfl | hmem := List.mem_cons.mp h
      · exact absurd rfl hk
      · exact ih hnodup hmem

theorem valueOf_none {items : List (Nat × List Byte)} {n : Byte} (h : ∀ k ∈ items.map Prod.fst, byteOf k ≠ n) : valueOf n items = none := by
  have hfind : (items.find? fun x => decide (byteOf x.1 = n)) = none := by
    rw [List.find?_eq_none]
    intro x hx
    simpa using h x.1 (List.mem_map_of_mem hx)
  rw [valueOf, hfind]
  rfl

/-! ## The numbers that are shown -/

/-- The numbers of the items of a kind, in the order of the body. -/
def shownNumbers (k : Option Kind) : List Nat :=
  [1, 2, 3, 4, 5, 6, 7, 8, 9, 10, 11, 12] ++ (match k with
    | none => []
    | some .H => [48, 49, 50, 51, 52, 53, 54, 55, 56, 57, 58, 59, 60, 61, 62, 63]
    | some .C => [13, 14, 15, 16, 17, 18, 19, 20, 32, 33, 34, 35, 36, 37, 38, 64, 65, 66, 67, 68, 69, 70, 71, 75]
    | some .X => [13, 14, 15, 16, 17, 18, 19, 20, 32, 33, 34, 35, 36, 37, 38, 64, 65, 66, 67, 68, 69, 72, 73, 74, 75])
  ++ (match k with
    | none => [80, 81, 83]
    | some .H => [80, 81, 83, 99, 100]
    | some .C => [80, 81, 82, 83, 96, 97, 98, 99, 101]
    | some .X => [80, 81, 82, 83, 96, 97, 98, 99, 101])
  ++ (match k with
    | none => [128, 129, 130, 133]
    | some .H => [128, 129, 130, 133]
    | some .C => [128, 129, 130, 131, 132, 133]
    | some .X => [128, 129, 130, 131, 132, 133])

theorem shownNumbers_nodup (k : Option Kind) : ((shownNumbers k).map byteOf).Nodup := by
  rcases k with _ | ⟨_ | _ | _⟩ <;> decide

theorem shownNumbers_mem (k : Option Kind) : ∀ x ∈ shownNumbers k, x < 256 ∧ x ∈ queryNumbers k := by
  rcases k with _ | ⟨_ | _ | _⟩ <;> decide

theorem shownNumbers_length (k : Option Kind) : (shownNumbers k).length < 100 := by
  rcases k with _ | ⟨_ | _ | _⟩ <;> decide

theorem zoneItems_numbers (n : Nat) (zs : List Zone) : (zoneItems n zs).map Prod.fst = List.range' n zs.length := by
  induction zs generalizing n with
  | nil => rfl
  | cons z zs ih => exact congrArg (n :: ·) (ih (n + 1))

/-- The numbers of the items of QUERY STATE, by the kind. -/
theorem queryItems_numbers (hz : s.heat.zones.length = 8) : (queryItems s).map Prod.fst = shownNumbers s.items.kind := by
  have hzones : (zoneItems 48 s.heat.zones).map Prod.fst = [48, 49, 50, 51, 52, 53, 54, 55] := by
    rw [zoneItems_numbers, hz]
    rfl
  unfold queryItems sequencerItems accountItems
  rcases s.items.kind with _ | ⟨_ | _ | _⟩
  · rfl
  · rfl
  · rfl
  · simp only [kindItems, List.map_append, hzones]
    rfl

/-! ## The lengths of the values -/

theorem timeField_length (ms : Nat) : (timeField ms).length = 4 := by
  unfold timeField
  split <;> rfl

theorem timeLeft_length (s : State) (timer : Option Nat) : (timeLeft s timer).length = 4 := by
  unfold timeLeft
  split
  · exact timeField_length _
  · rfl

theorem sinceRecord_length (s : State) : (sinceRecord s).length = 4 := by
  unfold sinceRecord
  split
  · exact timeField_length _
  · rfl

theorem runningTimer_length (s : State) : (runningTimer s).length = 5 := by
  unfold runningTimer
  split
  · exact congrArg (· + 1) (timeField_length _)
  · exact congrArg (· + 1) (timeField_length _)
  · exact congrArg (· + 1) (timeField_length _)
  · rfl

theorem halves_length (zones : List Nat) : (zones.flatMap bytes2).length = 2 * zones.length := by
  induction zones with
  | nil => rfl
  | cons z zs ih =>
    rw [List.flatMap_cons, List.length_append, ih, bytes2_length, List.length_cons]
    omega

theorem heldFields_length (h : ∀ zones r, s.link.holder = some ⟨.store zones, r⟩ → zones.length = 8) : (heldFields s).length ≤ 16 := by
  unfold heldFields
  split
  · decide
  · simp [bytes2]
  · next zones r hh => exact Nat.le_of_eq ((halves_length zones).trans (congrArg (2 * ·) (h zones r hh)))

theorem zoneItems_length (n : Nat) (zs : List Zone) : ∀ x ∈ zoneItems n zs, x.2.length < 256 := by
  induction zs generalizing n with
  | nil => exact fun x hx => nomatch hx
  | cons z zs ih =>
    intro x hx
    obtain rfl | hx := List.mem_cons.mp hx
    · simp [bytes2]
    · exact ih (n + 1) x hx

theorem itemsOnTrain_length {k : Option Kind} {items : List (Nat × List Byte)} (h : ∀ x ∈ items, x.2.length < 256) :
    ∀ x ∈ itemsOnTrain k items, x.2.length < 256 := by
  unfold itemsOnTrain
  split
  · exact h
  · exact fun x hx => nomatch hx

theorem kindItems_length (s : State) (k : Option Kind) : ∀ x ∈ kindItems s k, x.2.length < 256 := by
  have htrain (k : Kind) : ∀ x ∈ trainItems s ++ envelopeItems s ++ heatItems s k, x.2.length < 256 := by
    have hcap : ∀ x ∈ capItems s k, x.2.length < 256 := by
      unfold capItems
      split <;> simp [bytes2]
    simp only [List.forall_mem_append, heatItems]
    refine ⟨⟨?_, ?_⟩, ⟨?_, hcap⟩, ?_⟩
    · simp [trainItems, bytes2, bytes4, signed2]
    · simp [envelopeItems, bytes2]
    · simp [bytes2, reservationField_length]
    · simp [bytes2]
  match k with
  | none => exact fun x hx => nomatch hx
  | some .H =>
    simp only [kindItems, List.forall_mem_append]
    exact ⟨zoneItems_length 48 _, by simp [storeItems, bytes2]⟩
  | some .C => exact htrain .C
  | some .X => exact htrain .X

theorem monitorItems_length (s : State) (k : Option Kind) : ∀ x ∈ monitorItems s k, x.2.length < 256 := by
  have htrain : ∀ x ∈ trainMonitorItems s, x.2.length < 256 := by
    simp [trainMonitorItems, monitorValue, timeLeft_length, bytes2]
  match k with
  | none => exact fun x hx => nomatch hx
  | some .H => simp [monitorItems, storeMonitorItems, monitorValue]
  | some .C => exact htrain
  | some .X => exact htrain

theorem queryItems_length (h : ∀ zones r, s.link.holder = some ⟨.store zones, r⟩ → zones.length = 8) :
    ∀ x ∈ queryItems s, x.2.length < 256 := by
  have hheld := heldFields_length h
  simp only [queryItems, sequencerItems, accountItems, List.forall_mem_append]
  refine ⟨⟨⟨⟨?_, kindItems_length s _⟩, ⟨?_, itemsOnTrain_length ?_⟩, ?_⟩, monitorItems_length s _⟩, ⟨?_, itemsOnTrain_length ?_⟩, ?_⟩
  · simp [commonItems, bytes2, sinceRecord_length]
    omega
  · simp [runningTimer_length]
  · simp
  · simp
  · simp [bytes4, signed4]
  · simp [bytes4]
  · simp

/-! ## A field of the answer -/

theorem queryItems_count (hz : s.heat.zones.length = 8) : (queryItems s).length < 100 := by
  have hnumbers := congrArg List.length (queryItems_numbers hz)
  rw [List.length_map] at hnumbers
  rw [hnumbers]
  exact shownNumbers_length _

/-- Each of these items is found in the body under its number. -/
def ShowsItems (body : List Byte) (items : List (Nat × List Byte)) : Prop := ∀ k v, (k, v) ∈ items → Shows body (byteOf k) v

theorem ShowsItems.of_subset {body : List Byte} {items block : List (Nat × List Byte)} (h : ShowsItems body items)
    (hsub : block ⊆ items) : ShowsItems body block := fun k v hmem => h k v (hsub hmem)

/-- An item by its place in its block. -/
theorem ShowsItems.at {body : List Byte} {block : List (Nat × List Byte)} (h : ShowsItems body block) (i : Nat) {k : Nat} {v : List Byte}
    (hi : block[i]? = some (k, v)) : Shows body (byteOf k) v := h k v (List.mem_of_getElem? hi)

section
variable (hz : s.heat.zones.length = 8) (hh : ∀ zones r, s.link.holder = some ⟨.store zones, r⟩ → zones.length = 8)
include hz hh

/-- Every item of the body is found under its number. -/
theorem queryStateBody_shows : ShowsItems (queryStateBody s) (queryItems s) := by
  intro k v h
  have hnodup : ((queryItems s).map fun x => byteOf x.1).Nodup := by
    have hnumbers := shownNumbers_nodup s.items.kind
    rwa [← queryItems_numbers hz, List.map_map] at hnumbers
  rw [Shows, ← queryItems_bytes, itemValue_itemBytes _ (queryItems_length hh) (queryItems_count hz)]
  exact valueOf_of_mem hnodup h

/-- Under a number that the kind has not, nothing is found. -/
theorem query_hides {n : Byte} (hn : n.toNat ∉ queryNumbers s.items.kind) : itemValue n 100 (queryStateBody s) = none := by
  rw [← queryItems_bytes, itemValue_itemBytes _ (queryItems_length hh) (queryItems_count hz)]
  refine valueOf_none fun k hk hkn => hn ?_
  rw [queryItems_numbers hz] at hk
  obtain ⟨hlt, hmem⟩ := shownNumbers_mem _ k hk
  rw [← hkn, byteOf_one k hlt]
  exact hmem

end

theorem commonItems_subset : commonItems s ⊆ queryItems s := fun _ h => by simp [queryItems, h]

theorem kindItems_subset : kindItems s s.items.kind ⊆ queryItems s := fun _ h => by simp [queryItems, h]

theorem sequencerItems_subset : sequencerItems s ⊆ queryItems s := fun _ h => by simp [queryItems, h]

theorem monitorItems_subset : monitorItems s s.items.kind ⊆ queryItems s := fun _ h => by simp [queryItems, h]

theorem accountItems_subset : accountItems s ⊆ queryItems s := fun _ h => by simp [queryItems, h]

end Sys2Proof.Machine
end

section
/-! PROOFS. What QUERY STATE shows of every station: the Train Link's items and the sequencer's (R120, R156, R158). -/

namespace Sys2Proof.Machine

variable {s : State} {body : List Byte}

theorem timeField_fits {n : Nat} (h : n < 4294967296) : timeField n = bytes4 n := if_pos h

/-- The address and the kind, which are free values while they are unset (log 6). -/
theorem query_identity (hbody : ShowsItems body (commonItems s)) : (∀ a, s.items.address = some a → Shows body 1 [byteOf a])
    ∧ (s.items.address = none → ∃ b, Shows body 1 [b])
    ∧ (∀ k, s.items.kind = some k → Shows body 2 [byteOf k.code])
    ∧ (s.items.kind = none → ∃ b, Shows body 2 [b]) := by
  have haddress : Shows body 1 [addressByte s] := hbody.at 0 rfl
  have hkind : Shows body 2 [kindByte s] := hbody.at 1 rfl
  refine ⟨fun a h => ?_, fun _ => ⟨_, haddress⟩, fun k h => ?_, fun _ => ⟨_, hkind⟩⟩
  · rwa [addressByte, h] at haddress
  · rwa [kindByte, h] at hkind

/-- The state, the lines, the counts and the flags of the link (R158). -/
theorem query_link (hbody : ShowsItems body (commonItems s)) :
    Shows body 3 [byteOf s.seq.state.code] ∧ Shows body 4 (flagShown s.permit)
    ∧ Shows body 5 (flagShown s.seq.tripOut) ∧ Shows body 6 (bytes2 s.link.faults)
    ∧ Shows body 7 [byteOf s.link.reports.length] ∧ Shows body 8 (flagShown s.link.discarded)
    ∧ Shows body 9 [byteOf s.view.length] ∧ Shows body 10 (flagShown s.link.staleMark) :=
  ⟨hbody.at 2 rfl, hbody.at 3 rfl, hbody.at 4 rfl, hbody.at 5 rfl, hbody.at 6 rfl, hbody.at 7 rfl, hbody.at 8 rfl, hbody.at 9 rfl⟩

/-- The held record and the time since it (R156, R158). -/
theorem query_holder (hbody : ShowsItems body (commonItems s)) :
    (s.link.holder = none → Shows body 11 [255, 255, 255, 255] ∧ Shows body 12 [])
    ∧ (∀ m r, s.link.holder = some ⟨m, r⟩ → s.now - r < 4294967296 → Shows body 11 (bytes4 (s.now - r)))
    ∧ (∀ o f p h m r, s.link.holder = some ⟨.train o f p h m, r⟩ →
        Shows body 12 (bytes2 o ++ bytes2 f ++ bytes2 p ++ bytes2 h ++ bytes2 m))
    ∧ (∀ zones r, s.link.holder = some ⟨.store zones, r⟩ → Shows body 12 (zones.flatMap bytes2)) := by
  have hsince : Shows body 11 (sinceRecord s) := hbody.at 10 rfl
  have hfields : Shows body 12 (heldFields s) := hbody.at 11 rfl
  refine ⟨fun h => ⟨?_, ?_⟩, fun m r h hfits => ?_, fun o f p t m r h => ?_, fun zones r h => ?_⟩
  · rwa [sinceRecord, h] at hsince
  · rwa [heldFields, h] at hfields
  · rw [← timeField_fits hfits]
    rwa [sinceRecord, h] at hsince
  · rwa [heldFields, h] at hfields
  · rwa [heldFields, h] at hfields

/-- The trip-held mark and the timer that runs (R106, R120). -/
theorem query_sequencer (hbody : ShowsItems body (sequencerItems s)) : Shows body 80 (flagShown s.seq.tripHeld)
    ∧ (s.seq.joinTimer = none → s.seq.startTimer = none → s.seq.standbyTimer = none → Shows body 81 [0, 0, 0, 0, 0])
    ∧ (∀ d, s.seq.joinTimer = some d → d - s.now < 4294967296 → Shows body 81 (1 :: bytes4 (d - s.now)))
    ∧ (∀ d, s.seq.joinTimer = none → s.seq.startTimer = some d → d - s.now < 4294967296 →
        Shows body 81 (2 :: bytes4 (d - s.now)))
    ∧ (∀ d, s.seq.joinTimer = none → s.seq.startTimer = none → s.seq.standbyTimer = some d → d - s.now < 4294967296 →
        Shows body 81 (3 :: bytes4 (d - s.now))) := by
  have htimer : Shows body 81 (runningTimer s) := hbody.at 1 rfl
  refine ⟨hbody.at 0 rfl, fun h1 h2 h3 => ?_, fun d h hd => ?_, fun d h1 h hd => ?_, fun d h1 h2 h hd => ?_⟩
  · rwa [runningTimer, h1, h2, h3] at htimer
  · rw [← timeField_fits hd]
    rwa [runningTimer, h] at htimer
  · rw [← timeField_fits hd]
    rwa [runningTimer, h1, h] at htimer
  · rw [← timeField_fits hd]
    rwa [runningTimer, h1, h2, h] at htimer

end Sys2Proof.Machine
end

section
/-! PROOFS. What QUERY STATE shows of the account, of the monitors and of a store (R92, R135, R147). -/

namespace Sys2Proof.Machine

variable {s : State} {body : List Byte} {k : Kind}

theorem itemsOnTrain_train (h : k ≠ .H) (items : List (Nat × List Byte)) : itemsOnTrain (some k) items = items := by
  cases k with
  | C => rfl
  | X => rfl
  | H => exact absurd rfl h

/-! ## The account -/

/-- The latched monitors by their bit values. -/
theorem monitorSet_latchedSet (b : Bank) : monitorSet b.latchedSet =
    byteOf ((if b.native.cond = .latched then 1 else 0) + (if b.thermal.cond = .latched then 2 else 0)
      + (if b.margin.cond = .latched then 4 else 0) + (if b.stale.cond = .latched then 8 else 0)
      + (if b.zoneHigh.cond = .latched then 16 else 0)) := by
  have hcontains (m : Monitor) : b.latchedSet.contains m = decide ((b.monitor m).cond = .latched) := by
    rw [Bank.latchedSet, List.contains_eq_mem, decide_eq_decide, List.mem_filter, beq_iff_eq]
    exact and_iff_right (by cases m <;> decide)
  rw [monitorSet, funext hcontains]
  simp only [allMonitors, List.map_cons, List.map_nil, flagBits_five, decide_eq_true_eq]
  rfl

/-- The flags gathered so far by their bit values. -/
theorem gatheredFlags_some {o : OpenRecord} (h : s.account.openRec = some o) : gatheredFlags s =
    byteOf ((if o.heldSeen then 1 else 0) + (if o.trippedSeen then 2 else 0) + (if o.clockFreeSeen then 4 else 0)
      + (if s.book.orderChanged then 8 else 0)) := by
  rw [gatheredFlags, h]
  simp only [flagBits, Nat.mul_add, two_mul_bit, Nat.add_assoc, Nat.reduceMul, Nat.mul_zero, Nat.add_zero]

/-- The open interval, the energies and the count of the log (R147). -/
theorem query_account (hbody : ShowsItems body (accountItems s)) : (s.account.openRec = none → Shows body 128 [255, 255, 255, 255])
    ∧ (∀ o, s.account.openRec = some o → Shows body 128 (bytes4 o.interval))
    ∧ Shows body 129 (signed4 (kWh s.account.ownAcc)) ∧ Shows body 130 (signed4 (kWh s.account.plantAcc))
    ∧ Shows body 133 [byteOf s.account.log.length] := by
  have hopen : Shows body 128 (bytes4 (intervalField (s.account.openRec.map OpenRecord.interval))) := hbody.at 0 rfl
  refine ⟨fun h => ?_, fun o h => ?_, hbody.at 1 rfl, hbody.at 2 rfl, hbody 133 _ (by simp [accountItems])⟩
  · rwa [h] at hopen
  · rwa [h] at hopen

/-- What the open record of a train gathered (R147). -/
theorem query_gathered (hk : s.items.kind = some k) (hne : k ≠ .H) (hbody : ShowsItems body (accountItems s)) :
    (s.account.openRec = none → Shows body 131 [0, 0, 0, 0] ∧ Shows body 132 [0])
    ∧ (∀ o, s.account.openRec = some o → Shows body 131 (bytes4 o.periods)
      ∧ Shows body 132 [byteOf ((if o.heldSeen then 1 else 0) + (if o.trippedSeen then 2 else 0)
        + (if o.clockFreeSeen then 4 else 0) + (if s.book.orderChanged then 8 else 0))]) := by
  rw [accountItems, hk, itemsOnTrain_train hne] at hbody
  have hperiods : Shows body 131 (bytes4 ((s.account.openRec.map OpenRecord.periods).getD 0)) := hbody.at 3 rfl
  have hflags : Shows body 132 [gatheredFlags s] := hbody.at 4 rfl
  refine ⟨fun h => ⟨?_, ?_⟩, fun o h => ⟨?_, ?_⟩⟩
  · rwa [h] at hperiods
  · rwa [gatheredFlags, h] at hflags
  · rwa [h] at hperiods
  · rwa [gatheredFlags_some h] at hflags

/-! ## The sequencer's other items -/

theorem query_latched (hbody : ShowsItems body (sequencerItems s)) :
    Shows body 83 [byteOf ((if s.bank.native.cond = .latched then 1 else 0) + (if s.bank.thermal.cond = .latched then 2 else 0)
      + (if s.bank.margin.cond = .latched then 4 else 0) + (if s.bank.stale.cond = .latched then 8 else 0)
      + (if s.bank.zoneHigh.cond = .latched then 16 else 0))] := by
  have hset : Shows body 83 [monitorSet s.bank.latchedSet] := hbody 83 _ (by simp [sequencerItems])
  rwa [monitorSet_latchedSet] at hset

theorem query_wake (hk : s.items.kind = some k) (hne : k ≠ .H) (hbody : ShowsItems body (sequencerItems s)) :
    Shows body 82 [byteOf s.share.wake] := by
  rw [sequencerItems, hk, itemsOnTrain_train hne] at hbody
  exact hbody.at 2 rfl

/-! ## The monitors -/

theorem timeLeft_none (s : State) : timeLeft s none = [0, 0, 0, 0] := rfl

theorem timeLeft_some {d : Nat} (h : d - s.now < 4294967296) : timeLeft s (some d) = bytes4 (d - s.now) := timeField_fits h

/-- The monitors of a train with their blanking times (R135). -/
theorem query_monitors (hbody : ShowsItems body (trainMonitorItems s)) :
    Shows body 96 (monitorShown s .native) ∧ Shows body 99 (monitorShown s .stale)
    ∧ (s.bank.blankThermal = none → Shows body 97 (monitorShown s .thermal ++ [0, 0, 0, 0]))
    ∧ (∀ d, s.bank.blankThermal = some d → d - s.now < 4294967296 →
        Shows body 97 (monitorShown s .thermal ++ bytes4 (d - s.now)))
    ∧ (s.bank.blankMargin = none → Shows body 98 (monitorShown s .margin ++ [0, 0, 0, 0]))
    ∧ (∀ d, s.bank.blankMargin = some d → d - s.now < 4294967296 →
        Shows body 98 (monitorShown s .margin ++ bytes4 (d - s.now)))
    ∧ Shows body 101 (bytes2 s.bank.cap) := by
  have hthermal : Shows body 97 (monitorShown s .thermal ++ timeLeft s s.bank.blankThermal) := hbody.at 1 rfl
  have hmargin : Shows body 98 (monitorShown s .margin ++ timeLeft s s.bank.blankMargin) := hbody.at 2 rfl
  refine ⟨hbody.at 0 rfl, hbody.at 3 rfl, fun h => ?_, fun d h hd => ?_, fun h => ?_, fun d h hd => ?_, hbody.at 4 rfl⟩
  · rwa [h, timeLeft_none] at hthermal
  · rwa [h, timeLeft_some hd] at hthermal
  · rwa [h, timeLeft_none] at hmargin
  · rwa [h, timeLeft_some hd] at hmargin

/-- The monitors of a store (R135). -/
theorem query_storeMonitors (hbody : ShowsItems body (storeMonitorItems s)) :
    Shows body 99 (monitorShown s .stale) ∧ Shows body 100 (monitorShown s .zoneHigh) := ⟨hbody.at 0 rfl, hbody.at 1 rfl⟩

/-! ## A store -/

theorem zoneItems_get {zs : List Zone} {z : Zone} {i : Nat} (n : Nat) (h : zs[i]? = some z) :
    (zoneItems n zs)[i]? = some (n + i, bytes2 (absentField z.temp) ++ [byteOf z.cls.code]) := by
  induction zs generalizing n i with
  | nil => cases h
  | cons y zs ih =>
    cases i with
    | zero =>
      obtain rfl : y = z := Option.some.inj h
      rfl
    | succ i =>
      have htail := ih (n + 1) (i := i) h
      rwa [Nat.add_assoc, Nat.add_comm 1 i] at htail

/-- The zones of a store from zone 1 (R92). -/
theorem query_zones (hbody : ShowsItems body (zoneItems 48 s.heat.zones)) {i : Nat} {z : Zone} (h : s.heat.zones[i]? = some z) :
    Shows body (byteOf (48 + i)) (bytes2 (z.temp.getD 65535) ++ [byteOf z.cls.code]) := hbody.at i (zoneItems_get 48 h)

/-- The allowances and thresholds of a store (R92). -/
theorem query_store (hbody : ShowsItems body (storeItems s)) :
    Shows body 56 [byteOf s.heat.hotZones] ∧ Shows body 57 (bytes2 s.heat.classCharge)
    ∧ Shows body 58 (bytes2 s.heat.classDischarge) ∧ Shows body 59 (bytes2 s.heat.pubCharge)
    ∧ Shows body 60 (bytes2 s.heat.pubDischarge) ∧ Shows body 61 (bytes2 s.heat.outlet)
    ∧ Shows body 62 (bytes2 (s.inForce.hot.getD 65535)) ∧ Shows body 63 (bytes2 (s.inForce.cold.getD 65535)) :=
  ⟨hbody.at 0 rfl, hbody.at 1 rfl, hbody.at 2 rfl, hbody.at 3 rfl, hbody.at 4 rfl, hbody.at 5 rfl, hbody.at 6 rfl, hbody.at 7 rfl⟩

end Sys2Proof.Machine
end

section
/-! PROOFS. What QUERY STATE shows of a train (R37, R82, R103), and the statement on QUERY STATE as a whole (R158). -/

namespace Sys2Proof.Machine

variable {s : State} {body : List Byte} {k : Kind}

/-! ## The blocks of a kind -/

theorem kindItems_train (s : State) (h : k ≠ .H) : kindItems s (some k) = trainItems s ++ envelopeItems s ++ heatItems s k := by
  cases k with
  | C => rfl
  | X => rfl
  | H => exact absurd rfl h

theorem monitorItems_train (s : State) (h : k ≠ .H) : monitorItems s (some k) = trainMonitorItems s := by
  cases k with
  | C => rfl
  | X => rfl
  | H => exact absurd rfl h

/-! ## A train's schedule, clock and envelope -/

theorem heldCode (held : Option HeldReason) : byteOf ((held.map HeldReason.code).getD 0) =
    match held with | none => 0 | some .noTime => 1 | some .disagree => 2 := by
  rcases held with _ | _ | _ <;> rfl

/-- The schedule's and the clock's items of a train (R158). -/
theorem query_train (hbody : ShowsItems body (trainItems s)) :
    Shows body 13 (bytes2 s.share.command) ∧ Shows body 14 (bytes2 (upperLimit s))
    ∧ Shows body 15 (flagShown s.seq.available)
    ∧ Shows body 16 [match s.book.held with | none => 0 | some .noTime => 1 | some .disagree => 2]
    ∧ Shows body 17 (bytes4 (s.clock.current.getD 4294967295)) ∧ Shows body 18 (bytes4 (s.clock.pending.getD 4294967295))
    ∧ Shows body 19 (flagShown s.clock.free) ∧ Shows body 20 (signed2 (s.book.target.getD (-32768))) := by
  have hheld : Shows body 16 [byteOf ((s.book.held.map HeldReason.code).getD 0)] := hbody.at 3 rfl
  rw [heldCode] at hheld
  exact ⟨hbody.at 0 rfl, hbody.at 1 rfl, hbody.at 2 rfl, hheld, hbody.at 4 rfl, hbody.at 5 rfl, hbody.at 6 rfl, hbody.at 7 rfl⟩

/-- The cavern envelope's items of a train (R82). -/
theorem query_envelope (hbody : ShowsItems body (envelopeItems s)) :
    Shows body 32 (bytes2 (s.inForce.workMin.getD 65535)) ∧ Shows body 33 (bytes2 (s.inForce.workMax.getD 65535))
    ∧ (∀ o f p h m r, s.link.holder = some ⟨.train o f p h m, r⟩ → Shows body 34 (bytes2 p))
    ∧ (s.link.holder = none → Shows body 34 [255, 255])
    ∧ Shows body 35 (bytes2 (flowReservation s)) ∧ Shows body 36 (bytes2 (flowAllowance s))
    ∧ Shows body 37 (bytes2 (rateCap s)) ∧ Shows body 38 (bytes2 (bandCap s)) := by
  have hpressure : Shows body 34 (bytes2 (absentField (heldPressure s))) := hbody.at 2 rfl
  refine ⟨hbody.at 0 rfl, hbody.at 1 rfl, fun o f p h m r hheld => ?_, fun hheld => ?_, hbody.at 3 rfl, hbody.at 4 rfl,
    hbody.at 5 rfl, hbody.at 6 rfl⟩
  · rwa [heldPressure, hheld] at hpressure
  · rwa [heldPressure, hheld] at hpressure

/-! ## A train's heat -/

theorem reservationField_bytes (n : Nat) : ∃ a b, reservationField n = [a, b] := by
  unfold reservationField
  split <;> exact ⟨_, _, rfl⟩

/-- The heat items that both kinds of train have (R103). -/
theorem query_heat (hbody : ShowsItems body (heatItems s k)) :
    Shows body 64 [byteOf (s.items.linked.getD 255)] ∧ Shows body 65 (flagShown (linkedStore s).isSome)
    ∧ (linkedStore s = none → Shows body 66 [255, 255] ∧ Shows body 67 [255, 255])
    ∧ (∀ f, linkedStore s = some f →
        Shows body 66 (bytes2 (if k = .C then f.charge else f.discharge)) ∧ Shows body 67 (bytes2 f.outlet))
    ∧ (heatReservation s < 65536 → Shows body 68 (bytes2 (heatReservation s))) ∧ (∃ a b, Shows body 68 [a, b])
    ∧ Shows body 75 (bytes2 (heatFlow s)) := by
  have hallowance : Shows body 66 (bytes2 (absentField (allowanceRead s k))) := hbody.at 2 rfl
  have houtlet : Shows body 67 (bytes2 (absentField ((linkedStore s).map StoreFields.outlet))) := hbody.at 3 rfl
  have hreserved : Shows body 68 (reservationField (heatReservation s)) := hbody.at 4 rfl
  obtain ⟨a, b, hab⟩ := reservationField_bytes (heatReservation s)
  refine ⟨hbody.at 0 rfl, hbody.at 1 rfl, fun h => ⟨?_, ?_⟩, fun f h => ⟨?_, ?_⟩, fun hfits => ?_, ⟨a, b, hab ▸ hreserved⟩,
    hbody 75 _ (by simp [heatItems])⟩
  · rwa [allowanceRead, h, Option.map_none] at hallowance
  · rwa [h] at houtlet
  · rwa [allowanceRead, h] at hallowance
  · rwa [h] at houtlet
  · rwa [reservationField_fits hfits] at hreserved

theorem capItems_subset (s : State) (k : Kind) : capItems s k ⊆ heatItems s k := fun _ h => by simp [heatItems, h]

/-- The caps of a compressor (R103). -/
theorem query_capsC (hbody : ShowsItems body (capItems s .C)) : Shows body 69 (bytes2 ((storeCapC s).getD 65535))
    ∧ Shows body 70 (bytes2 (cooledCap s)) ∧ Shows body 71 (flagShown s.heat.cooled) :=
  ⟨hbody.at 0 rfl, hbody.at 1 rfl, hbody.at 2 rfl⟩

/-- The caps and the thresholds of an expander (R103). -/
theorem query_capsX (hbody : ShowsItems body (capItems s .X)) : Shows body 69 (bytes2 (storeCapX s))
    ∧ Shows body 72 (bytes2 (qualityCap s)) ∧ Shows body 73 (bytes2 (s.inForce.hot.getD 65535))
    ∧ Shows body 74 (bytes2 (s.inForce.cold.getD 65535)) :=
  ⟨hbody.at 0 rfl, hbody.at 1 rfl, hbody.at 2 rfl, hbody.at 3 rfl⟩

/-! ## The items do not depend on the time -/

theorem trainItems_atInstant (s : State) (t : Nat) : trainItems (s.atInstant t) = trainItems s := by
  have hU : upperLimit (s.atInstant t) = upperLimit s := upperLimit_congr rfl rfl rfl rfl rfl
  rw [trainItems, hU]
  rfl

theorem envelopeItems_atInstant (s : State) (t : Nat) : envelopeItems (s.atInstant t) = envelopeItems s := rfl

theorem heatItems_atInstant (s : State) (t : Nat) (k : Kind) : heatItems (s.atInstant t) k = heatItems s k := by
  have hlinked : linkedStore (s.atInstant t) = linkedStore s := rfl
  have hreserved : heatReservation (s.atInstant t) = heatReservation s := rfl
  have hflow : heatFlow (s.atInstant t) = heatFlow s := rfl
  have hcaps : capItems (s.atInstant t) k = capItems s k := by
    simp only [capItems, storeCapC, storeCapX, qualityCap, hlinked, hreserved]
    rfl
  rw [heatItems, heatItems, allowanceRead, allowanceRead, hlinked, hreserved, hflow, hcaps]
  rfl

/-- The blocks of a train, with its values as they stand. -/
theorem showsItems_train {t : Nat} (hk : s.items.kind = some k) (hne : k ≠ .H)
    (hbody : ShowsItems body (kindItems (s.atInstant t) (s.atInstant t).items.kind)) :
    ShowsItems body (trainItems s) ∧ ShowsItems body (envelopeItems s) ∧ ShowsItems body (heatItems s k) := by
  have hkind : (s.atInstant t).items.kind = some k := hk
  rw [hkind, kindItems_train _ hne, trainItems_atInstant, envelopeItems_atInstant, heatItems_atInstant] at hbody
  exact ⟨hbody.of_subset fun _ h => by simp [h], hbody.of_subset fun _ h => by simp [h], hbody.of_subset fun _ h => by simp [h]⟩

/-- The blocks of a store, with its values as they stand. -/
theorem showsItems_store {t : Nat} (hk : s.items.kind = some .H)
    (hbody : ShowsItems body (kindItems (s.atInstant t) (s.atInstant t).items.kind)) :
    ShowsItems body (zoneItems 48 s.heat.zones) ∧ ShowsItems body (storeItems s) := by
  have hkind : (s.atInstant t).items.kind = some .H := hk
  have hblocks : kindItems (s.atInstant t) (some .H) = zoneItems 48 s.heat.zones ++ storeItems s := rfl
  rw [hkind, hblocks] at hbody
  exact ⟨hbody.of_subset fun _ h => by simp [h], hbody.of_subset fun _ h => by simp [h]⟩

/-! ## QUERY STATE as a whole -/

/-- Settles O20: the codes by evaluation, and each value by its item in its block of the body. -/
theorem queryStateShowsStation : Obligations.QueryStateShowsStation := by
  refine ⟨⟨rfl, rfl, rfl, rfl, rfl⟩, fun s t tag hn hcapacity hholder => ?_⟩
  obtain ⟨-, -, -, -, -, -, -, -, -, hzones⟩ := hcapacity
  refine ⟨_, exec_new rfl hn rfl, queryStateBody (s.atInstant t), rfl, fun n h => query_hides (s := s.atInstant t) hzones hholder h, ?_⟩
  have hall := queryStateBody_shows (s := s.atInstant t) hzones hholder
  have hkinds := hall.of_subset kindItems_subset
  have hmonitors := hall.of_subset monitorItems_subset
  have hsequencer := hall.of_subset sequencerItems_subset
  have haccount := hall.of_subset accountItems_subset
  obtain ⟨haddress, hnoAddress, hkind, hnoKind⟩ := query_identity (hall.of_subset commonItems_subset)
  obtain ⟨h3, h4, h5, h6, h7, h8, h9, h10⟩ := query_link (hall.of_subset commonItems_subset)
  obtain ⟨hempty, hsince, htrain, hstore⟩ := query_holder (hall.of_subset commonItems_subset)
  obtain ⟨h80, hidle, hjoin, hstart, hstandby⟩ := query_sequencer hsequencer
  obtain ⟨hclosed, hopen, h129, h130, h133⟩ := query_account haccount
  have h83 := query_latched hsequencer
  generalize queryStateBody (s.atInstant t) = body at *
  refine ⟨haddress, hnoAddress, hkind, hnoKind, h3, h4, h5, h6, h7, h8, h9, h10, hempty, hsince, htrain, hstore, h80, hidle, hjoin,
    hstart, hstandby, h83, hclosed, hopen, h129, h130, h133, fun k hk hne => ?_, fun hk => ?_, fun hk => ?_, fun hk => ?_⟩
  · obtain ⟨htrainItems, henvelope, hheat⟩ := showsItems_train hk hne hkinds
    rw [show (s.atInstant t).items.kind = some k from hk, monitorItems_train _ hne] at hmonitors
    obtain ⟨h13, h14, h15, h16, h17, h18, h19, h20⟩ := query_train htrainItems
    obtain ⟨h32, h33, hpressure, hnoPressure, h35, h36, h37, h38⟩ := query_envelope henvelope
    obtain ⟨h64, h65, hunlinked, hlinked, hreserved, hreservedFree, h75⟩ := query_heat hheat
    obtain ⟨h96, h99, hthermal, hthermalBlank, hmargin, hmarginBlank, h101⟩ := query_monitors hmonitors
    obtain ⟨hnothing, hgathered⟩ := query_gathered (s := s.atInstant t) hk hne haccount
    have h82 := query_wake (s := s.atInstant t) hk hne hsequencer
    exact ⟨h13, h14, h15, h16, h17, h18, h19, h20, h32, h33, hpressure, hnoPressure, h35, h36, h37, h38, h64, h65, hunlinked, hlinked,
      hreserved, hreservedFree, h75, h82, h96, h99, hthermal, hthermalBlank, hmargin, hmarginBlank, h101, hnothing, hgathered⟩
  · obtain ⟨-, -, hheat⟩ := showsItems_train hk (by decide) hkinds
    exact query_capsC (hheat.of_subset (capItems_subset s .C))
  · obtain ⟨-, -, hheat⟩ := showsItems_train hk (by decide) hkinds
    exact query_capsX (hheat.of_subset (capItems_subset s .X))
  · obtain ⟨hzoneItems, hstoreItems⟩ := showsItems_store hk hkinds
    rw [show (s.atInstant t).items.kind = some .H from hk] at hmonitors
    obtain ⟨h56, h57, h58, h59, h60, h61, h62, h63⟩ := query_store hstoreItems
    obtain ⟨h99, h100⟩ := query_storeMonitors hmonitors
    exact ⟨fun i _ z hz => query_zones hzoneItems hz, h56, h57, h58, h59, h60, h61, h62, h63, h99, h100⟩

end Sys2Proof.Machine
end
